-- ==== Sys2Proof/Word.lean ====
section
/-!
DEFINITION. The plainest vocabulary of the model: a byte, and the shape of one field of the parameter space.

A parameter word is 64 bits (spec/00, Reading conventions); a field of it is a range of bits at a byte offset, with
one of the six access codes of R7.  Register contents are held as natural numbers below 2^width: the manual counts,
compares and scales them far more often than it masks them, and every write narrows to the field's width.
-/
namespace Sys2Proof

/-- One byte of a frame, packet or record. -/
abbrev Byte := BitVec 8

/-- The access codes of R7 (Table 00-4). -/
inductive Acc
  /-- Read returns, write sets. -/
  | rw
  /-- Read returns, write is ignored. -/
  | ro
  /-- A written 1 clears the bit. -/
  | w1c
  /-- A written 1 sets the bit. -/
  | w1s
  /-- Read returns and clears, write is ignored. -/
  | rc
  /-- Read returns zero, a write acts as its meaning states. -/
  | wo
  deriving DecidableEq, Repr

/-- One index of a field family: how far a step of it moves the word and the bit, its first value and how many. -/
structure Dim where
  offStride : Nat
  lsbStride : Nat
  first : Nat
  count : Nat
  deriving DecidableEq, Repr

/-- One row of a register table: a family of fields. -/
structure Row where
  base : Nat
  dims : List Dim
  lsb : Nat
  width : Nat
  acc : Acc
  reset : Nat
  /-- The least value the table admits in a write. -/
  lo : Nat
  /-- The greatest value the table admits in a write. -/
  hi : Nat
  deriving DecidableEq, Repr

/-- One field: its word's byte offset in the parameter space, its place in the word and its reset value. -/
structure Fld where
  off : Nat
  lsb : Nat
  width : Nat
  reset : Nat
  deriving DecidableEq, Repr

end Sys2Proof
end

