-- ==== Sys2Proof/Machine/Operands.lean ====
section
/-!
DEFINITION. Byte order, bit fields and signed readings (R5, R6): how a number stands in bytes on the wire (most
significant byte first) and in host memory (least significant byte first), and how a field is taken from a word.
-/
namespace Sys2Proof.Machine
open Sys2Proof

/-- `v` as `n` bytes, least significant byte first (host memory, R6). -/
def toLE : Nat → Nat → List Byte
  | 0, _ => []
  | n + 1, v => BitVec.ofNat 8 v :: toLE n (v / 256)

/-- `v` as `n` bytes, most significant byte first (the wire, R6). -/
def toBE (n v : Nat) : List Byte := (toLE n v).reverse

/-- The number that bytes spell, least significant byte first. -/
def fromLE : List Byte → Nat
  | [] => 0
  | b :: bs => b.toNat + 256 * fromLE bs

/-- The number that bytes spell, most significant byte first. -/
def fromBE (bs : List Byte) : Nat := fromLE bs.reverse

/-- The `n` bytes from offset `o`; bytes past the end are absent. -/
def slice (bs : List Byte) (o n : Nat) : List Byte := (bs.drop o).take n

/-- The big-endian field of `n` bytes at offset `o`. -/
def beAt (bs : List Byte) (o n : Nat) : Nat := fromBE (slice bs o n)

/-- The little-endian field of `n` bytes at offset `o`. -/
def leAt (bs : List Byte) (o n : Nat) : Nat := fromLE (slice bs o n)

/-- The byte at offset `o`, zero past the end. -/
def byteAt (bs : List Byte) (o : Nat) : Nat := (bs.getD o 0#8).toNat

/-- `n` zero bytes. -/
def zeros (n : Nat) : List Byte := List.replicate n 0#8

/-- `bs` brought to exactly `n` bytes, cut or filled with zeros. -/
def fitBytes (n : Nat) (bs : List Byte) : List Byte := (bs ++ zeros (n - bs.length)).take n

/-- Bits `[lsb + width - 1 : lsb]` of `v` (R5). -/
def bits (v lsb width : Nat) : Nat := v / 2 ^ lsb % 2 ^ width

/-- Bit `n` of `v`. -/
def bit (v n : Nat) : Bool := v.testBit n

/-- A condition as a number. -/
def b2n (b : Bool) : Nat := if b then 1 else 0

/-- `v` with bits `[lsb + width - 1 : lsb]` set to `x`. -/
def setBits (v lsb width x : Nat) : Nat :=
  v - bits v lsb width * 2 ^ lsb + x % 2 ^ width * 2 ^ lsb

/-- `v` with bit `n` set to `b`. -/
def setBit (v n : Nat) (b : Bool) : Nat := setBits v n 1 (b2n b)

/-- The two's complement reading of a `w`-bit number. -/
def toSigned (w v : Nat) : Int :=
  let u := v % 2 ^ w
  if 2 * u < 2 ^ w then (u : Int) else (u : Int) - (2 ^ w : Nat)

/-- The `w`-bit two's complement image of an integer. -/
def ofSigned (w : Nat) (i : Int) : Nat := (i % (2 ^ w : Nat)).toNat

/-- An integer held between the ends of the `w`-bit signed range, as its image. -/
def satSigned (w : Nat) (i : Int) : Nat :=
  let m : Int := (2 ^ (w - 1) : Nat)
  ofSigned w (if i ≥ m then m - 1 else if i < -m then -m else i)

/-- `x` held between `lo` and `hi`. -/
def clampInt (lo hi x : Int) : Int := if x < lo then lo else if x > hi then hi else x

/-- The absolute value as a natural number. -/
def absNat (i : Int) : Nat := i.natAbs

/-- The number of one bits among the lowest `n` bits. -/
def popcount : Nat → Nat → Nat
  | 0, _ => 0
  | n + 1, v => v % 2 + popcount n (v / 2)

/-- The indices of the one bits among the lowest `n` bits, ascending. -/
def bitsOf (n v : Nat) : List Nat := (List.range n).filter (fun i => v.testBit i)

/-- Replace the element at index `i` by `f` of it; unchanged past the end. -/
def modifyAt {α : Type} (i : Nat) (f : α → α) : List α → List α
  | [] => []
  | a :: as => match i with
    | 0 => f a :: as
    | j + 1 => a :: modifyAt j f as

/-- Put `a` at index `i`; unchanged past the end. -/
def putAt {α : Type} (i : Nat) (a : α) (l : List α) : List α := modifyAt i (fun _ => a) l

/-- Insert under a Nat key into a list sorted by that key, replacing an equal key. -/
def putKey {α : Type} (key : α → Nat) (a : α) : List α → List α
  | [] => [a]
  | b :: bs => if key a < key b then a :: b :: bs
    else if key a = key b then a :: bs
    else b :: putKey key a bs

/-- The element under a Nat key. -/
def getKey {α : Type} (key : α → Nat) (k : Nat) : List α → Option α
  | [] => none
  | b :: bs => if key b = k then some b else getKey key k bs

/-- Drop the element under a Nat key. -/
def dropKey {α : Type} (key : α → Nat) (k : Nat) (l : List α) : List α := l.filter (fun b => key b != k)

end Sys2Proof.Machine
end

