-- ==== Sys2Proof/Frames.lean ====
section
/-!
DEFINITION. What travels: backbone frames (R73, Table 03-2), Ethernet frames, command packets' headers as the command
processor takes them (R34, R40), replies (R37) and event records (R52).  Commands of the model carry these as
operands, and the state holds them in its queues.
-/
namespace Sys2Proof

/-- The five paths into the command processor (R40, R44). -/
inductive CmdPort
  | ha | hb | ss | mt | train
  deriving DecidableEq, Repr

/-- Privilege classes (Table 02-3). -/
inductive PrivClass
  | safety | host | maint | train
  deriving DecidableEq, Repr

/-- How a packet came, and so where its reply goes. -/
structure Via where
  port : CmdPort
  /-- Ring entry index (rings), or the UDP source port (MT). -/
  slot : Nat
  /-- `RPL_MAX` of the ring entry (rings), or the IPv4 source address (MT). -/
  room : Nat
  /-- `RPL_ADDR` of the ring entry (rings). -/
  addr : Nat
  /-- A relayed packet's origin, by unique ID, and the epoch it came under (TRAIN). -/
  node : Nat
  epoch : Nat
  /-- A relayed packet's issuing port, tag and transaction number (TRAIN). -/
  rport : Nat
  tag : Nat
  xid : Nat
  deriving DecidableEq, Repr

/-- The header of a command packet as the processor takes it (Table 02-1), with its path. -/
structure CmdHdr where
  via : Via
  posted : Bool
  epochCheck : Bool
  seq : Nat
  target : Nat
  epoch : Nat
  originNode : Nat
  originPort : Nat
  deriving DecidableEq, Repr

/-- A packet that waits for the command processor. -/
structure Packet where
  via : Via
  bytes : List Byte
  deriving DecidableEq, Repr

/-- A reply (R37): the echoed header, the status and the reply data. -/
structure Reply where
  posted : Bool
  epochCheck : Bool
  opcode : Nat
  seq : Nat
  target : Nat
  epoch : Nat
  originNode : Nat
  originPort : Nat
  status : Nat
  data : List Byte
  deriving DecidableEq, Repr

/-- An event record (Table 02-5); `phase` stands on the rings only. -/
structure EvtRec where
  code : Nat
  unit : Nat
  seq : Nat
  cleared : Bool
  lostBefore : Bool
  phase : Bool
  port : Nat
  time : Nat
  status : Nat
  epoch : Nat
  data : List Byte
  deriving DecidableEq, Repr

/-- A backbone frame (R73): its Ethernet header, the ring header of Table 03-2 and the bytes after it, without FCS. -/
structure BbFrame where
  /-- Destination and source address, and EtherType. -/
  dst : Nat
  src : Nat
  etherType : Nat
  version : Nat
  kind : Nat
  planeY : Bool
  single : Bool
  linkLocal : Bool
  origin : Nat
  epoch : Nat
  seq : Nat
  hops : Nat
  slot : Nat
  body : List Byte
  deriving DecidableEq, Repr

/-- A backbone frame as a lane received it: the lane's MAC 0 to 15, its length with FCS, whether FCS and symbols were
good, and the local time in ns at which its first symbol passed the PHY timestamp point. -/
structure RxBb where
  mac : Nat
  len : Nat
  fcsOk : Bool
  symOk : Bool
  time : Nat
  frame : BbFrame
  deriving DecidableEq, Repr

/-- What the packet buffer holds and a port sends: a backbone frame, or an Ethernet frame without FCS. -/
inductive Wire
  | bb (f : BbFrame)
  | eth (bytes : List Byte)
  deriving DecidableEq, Repr

/-- An Ethernet frame as a MAC received it (R305): `len` counts from the destination address to the FCS, `bytes` are
without FCS. -/
structure RxEth where
  mac : Nat
  len : Nat
  fcsOk : Bool
  symOk : Bool
  time : Nat
  bytes : List Byte
  deriving DecidableEq, Repr

/-- A frame on the MT port (R58): an IPv4 datagram or fragment carrying UDP, an ARP request, an ICMP echo, or another
protocol.  `offset` and `more` describe the fragment, `ident` its datagram. -/
structure MtFrame where
  /-- 0 another protocol, 1 ARP request, 2 ICMP echo, 3 UDP. -/
  kind : Nat
  ip : Nat
  udp : Nat
  dstUdp : Nat
  ident : Nat
  offset : Nat
  more : Bool
  bytes : List Byte
  deriving DecidableEq, Repr

/-- The read paths of R489, each with its own latches. -/
inductive ReadPath
  | cmd | bar0HA | bar0HB | bar2HA | bar2HB
  deriving DecidableEq, Repr

/-- Where a memory error strikes (Table 01-3). -/
inductive MemPlace
  /-- A packet buffer cell of the frame with this number. -/
  | cell (buf : Nat)
  | mapEntry (index : Nat)
  | value (index : Nat)
  /-- Table (0 routing, 1 slot, 2 lane, 3 binding, 4 profile selector), bank, and plane-end of a lane table. -/
  | table (table bank pe : Nat)
  | engine (e : Nat) (registers : Bool)
  | deque (e : Nat)
  | event (index : Nat)
  /-- A recorder record by its sequence number. -/
  | record (seq : Nat)
  | staged (offset : Nat)
  /-- An image slot, a journal record by its sequence, the factory record (0) or the installation record (1). -/
  | slot (slot : Nat)
  | journal (seq : Nat)
  | identity (rec_ : Nat)
  deriving DecidableEq, Repr

/-- A PTP message on a vehicle port (R196): kind 0 Sync, 1 Follow_Up, 2 Delay_Req, 3 Delay_Resp, 4 Announce; the local
receive time in ns, the times it carries in ns, and an Announce's data set with the identity of the clock that sent it. -/
structure PtpMsg where
  port : Nat
  kind : Nat
  seq : Nat
  domain : Nat
  rxTime : Nat
  time : Nat
  correction : Int
  clockClass : Nat
  prio1 : Nat
  prio2 : Nat
  accuracy : Nat
  variance : Nat
  identity : Nat
  steps : Nat
  sender : Nat
  traceable : Bool
  oneStep : Bool
  requester : Nat
  deriving DecidableEq, Repr

/-- An edge on an axle input: the levels of both lines after it, and its local time in ns. -/
structure AxleEdge where
  axle : Nat
  a : Bool
  b : Bool
  time : Nat
  deriving DecidableEq, Repr

/-- One node of a WTB inauguration (R352). -/
structure WtbNode where
  addr : Nat
  key : Nat
  inverse : Bool
  vehId : Nat
  deriving DecidableEq, Repr

/-- The result of a WTB inauguration (R352): own address, mastership, the nodes in each direction, nearest first, and
the lines on which good frames of it arrived, bit n for port 88 + n. -/
structure WtbInaug where
  addr : Nat
  master : Bool
  endNode : Bool
  dir1 : List WtbNode
  dir2 : List WtbNode
  lines : Nat
  deriving DecidableEq, Repr

/-- What a field link frame reports of one channel beside samples: its terminal voltage in 10 mV and whether its current
limit is engaged. -/
structure ChanMeas where
  channel : Nat
  vterm : Int
  limiting : Bool
  deriving DecidableEq, Repr

/-- What the pins and the identity data give at the internal release (R462 to R466). -/
structure BoardLevels where
  boot : Nat
  cold : Nat
  pair : Nat
  maint : Nat
  jtag : Nat
  uid : Nat
  mac : Nat
  vehId : Nat
  factoryOk : Bool
  installOk : Bool
  /-- Of the factory record: revoked public keys, bit k for key k, and the minimum image version. -/
  revoked : Nat
  minVersion : Nat
  deriving DecidableEq, Repr

/-- One record of an image section, as the table of its owning chapter lays it down (Table 16-7).  How the records of a
section lie one after another is not in the spec. -/
inductive Item
  /-- A parameter word that the section gives: absolute offset and value. -/
  | word (off value : Nat)
  /-- The schedule of the slot bank, a slot entry (Table 04-4), a lane table entry of a plane-end's table (Table 03-4). -/
  | sched (id : Nat)
  | slot (bytes : List Byte)
  | lane (pe table index : Nat) (bytes : List Byte)
  /-- One slot demand of a class. -/
  | demand (cls len period phase publish msg : Nat)
  /-- Binding rule (Table 08-3), descriptor (Table 08-2), map record (Table 08-4). -/
  | rule (index : Nat) (bytes : List Byte)
  | desc (bytes : List Byte)
  | map (index : Nat) (bytes : List Byte)
  /-- Publish layout (Table 09-3). -/
  | layout (unit k : Nat) (bytes : List Byte)
  /-- Routing entry (Table 10-2), egress header (R317). -/
  | route (bytes : List Byte)
  | egress (index : Nat) (bytes : List Byte)
  /-- Event entry (Table 07-1). -/
  | event (index : Nat) (bytes : List Byte)
  | guarded (channel : Nat)
  | recSignal (index least : Nat)
  | preset (off value mask : Nat)
  deriving DecidableEq, Repr

end Sys2Proof
end

