-- ==== Sys2Proof/Syntax.lean ====
section
/-!
DEFINITION. The commands of the block: one constructor per row of spec/opcode_table.json, with the row's operands.  A
row that is a command packet carries the header under which the command processor takes it, path and class included;
a row that is a happening carries what the happening brings from outside.
-/
namespace Sys2Proof

/-- The commands the NG4256 takes: packets, accesses and happenings, in the order of the opcode table. -/
inductive Instr
  /-- `ID_READ` (R60): Command returning GLB_ID, the unique ID and the vehicle ID in use. -/
  | idRead (h : CmdHdr)
  /-- `INFO_READ` (R60): Command returning the running slot, image version, strap levels, node number, epoch and uptime. -/
  | infoRead (h : CmdHdr)
  /-- `UNIT_STATE_READ` (R60): Command returning a unit's CFG, OPER, mismatch byte and last OPER change. -/
  | unitStateRead (h : CmdHdr) (unit : Nat)
  /-- `MISMATCH_LIST` (R31): Command listing the units that are in mismatch. -/
  | mismatchList (h : CmdHdr)
  /-- `ECHO` (R60): Command returning its parameters unchanged. -/
  | echo (h : CmdHdr) (data : List Byte)
  /-- `IMAGE_STAGE_BEGIN` (R472): Command that opens DRAM staging for an image of a given length and discards earlier staged data. -/
  | imageStageBegin (h : CmdHdr) (slot length : Nat)
  /-- `IMAGE_STAGE_DATA` (R472): Command that writes image bytes into staging at an offset. -/
  | imageStageData (h : CmdHdr) (offset : Nat) (data : List Byte)
  /-- `IMAGE_COMMIT` (R472): Long command that checks the staged image and writes it to a slot. -/
  | imageCommit (h : CmdHdr) (slot : Nat)
  /-- `IMAGE_COMMIT_COMPLETE` (R472): Completion of the slot write, read-back and compare of a commit, which ends the command with OK or AUTH_FAIL. -/
  | imageCommitComplete (signed compared : Bool)
  /-- `IMAGE_SELECT` (R472): Command that writes a boot selection journal record naming a valid slot. -/
  | imageSelect (h : CmdHdr) (slot fallback : Nat)
  /-- `IMAGE_INFO` (R60): Command returning the validity, version, length and section count of a slot. -/
  | imageInfo (h : CmdHdr) (slot : Nat)
  /-- `CONFIG_APPLY` (R474): Long command that arms image sections to be applied at a named cycle boundary. -/
  | configApply (h : CmdHdr) (mask cycle : Nat)
  /-- `PARAM_READ` (R62): Command that reads parameter words, clearing RC fields. -/
  | paramRead (h : CmdHdr) (offset count : Nat)
  /-- `PARAM_WRITE` (R63): Command that checks all masked words by privilege, range and state and then writes them in ascending order. -/
  | paramWrite (h : CmdHdr) (offset : Nat) (words : List (Nat × Nat))
  /-- `REGISTER_WRITE` (R7): Write of a parameter word that has no behaviour of its own beyond its access code. -/
  | registerWrite (offset value mask : Nat)
  /-- `NODE_RESET` (R463): Command that restarts the firmware or resets the node as RESET_N does. -/
  | nodeReset (h : CmdHdr) (kind : Nat)
  /-- `TIME_READ` (R182): Command returning train time, quality and time source. -/
  | timeRead (h : CmdHdr)
  /-- `TIME_STEP` (R183): Long command on the Lead that arms a time step for a named cycle. -/
  | timeStep (h : CmdHdr) (cycle step : Nat)
  /-- `TIME_REINTEGRATE` (R187): Command that lets a REFUSING node re-integrate at its next accepted Pennant. -/
  | timeReintegrate (h : CmdHdr)
  /-- `REF_PRIORITY` (R190): Command that writes the reference priority list. -/
  | refPriority (h : CmdHdr) (units : List Nat)
  /-- `SERVO_LIMIT` (R181): Command that freezes or releases the servo and narrows the slew limit. -/
  | servoLimit (h : CmdHdr) (freeze ppb : Nat)
  /-- `POSITION_READ` (R205): Command returning position, velocity, validity and time. -/
  | positionRead (h : CmdHdr)
  /-- `BALISE_CORRECT` (R207): Command on the odometry node that corrects fused position and history by a balise position. -/
  | baliseCorrect (h : CmdHdr) (position time : Nat)
  /-- `PHASE_READ` (R209): Command returning line phase angle, frequency and validity. -/
  | phaseRead (h : CmdHdr)
  /-- `EVENT_ADD` (R214): Command that writes an event entry at the lowest free index. -/
  | eventAdd (h : CmdHdr) (entry : List Byte)
  /-- `EVENT_REMOVE` (R214): Command that frees an event entry and drops its bound frames as REMOVED. -/
  | eventRemove (h : CmdHdr) (index : Nat)
  /-- `EVENT_READ` (R214): Command returning an event entry as it stands. -/
  | eventRead (h : CmdHdr) (index : Nat)
  /-- `DISTURB_WINDOW` (R99): Command that books an expected-disturbance window over a plane-end mask. -/
  | disturbWindow (h : CmdHdr) (mask start duration : Nat)
  /-- `HOIST_REQUEST` (R170): Long command that starts a Hoist on the Lead, or is relayed to it. -/
  | hoistRequest (h : CmdHdr) (reason : Nat)
  /-- `DIRECTORY_READ` (R167): Command returning the CURRENT or PENDING train directory. -/
  | directoryRead (h : CmdHdr) (which : Nat)
  /-- `CYCLE_STATUS` (R130): Command returning cycle number, role, alignment error and Lead. -/
  | cycleStatus (h : CmdHdr)
  /-- `TRAIN_SLEEP` (R448): Long command on the Lead that arms train sleep at a named cycle. -/
  | trainSleep (h : CmdHdr) (cycle : Nat)
  /-- `LANE_FORCE` (R103): Command that forces lanes of a plane-end out of the group. -/
  | laneForce (h : CmdHdr) (pe mask : Nat)
  /-- `SCHEDULE_SWITCH` (R111): Long command on the Lead that announces a slot schedule switch at a named cycle. -/
  | scheduleSwitch (h : CmdHdr) (cycle : Nat)
  /-- `SIGNAL_READ` (R272): Command returning value-store records for a range of signal indices. -/
  | signalRead (h : CmdHdr) (index count : Nat)
  /-- `SIGNAL_WRITE` (R271): Command that writes a host signal value and schedules its destination writes. -/
  | signalWrite (h : CmdHdr) (index value : Nat)
  /-- `SIGNAL_WINDOW_WRITE` (R271): Parameter write to word +0x00 of a value-store window entry, acting as SIGNAL_WRITE for host signals. -/
  | signalWindowWrite (c : PrivClass) (index value : Nat)
  /-- `SME_READ` (R269): Command returning the Signal Map Entry selected for a profile. -/
  | smeRead (h : CmdHdr) (index profile : Nat)
  /-- `SME_WRITE` (R269): Command that checks and writes a Signal Map Entry or auxiliary record. -/
  | smeWrite (h : CmdHdr) (index profile : Nat) (entry : List Byte)
  /-- `PROFILE_SWITCH` (R267): Long command that arms a system profile switch at a named cycle boundary. -/
  | profileSwitch (h : CmdHdr) (profile cycle : Nat)
  /-- `PROFILE_READ` (R267): Command returning the active and armed profile. -/
  | profileRead (h : CmdHdr)
  /-- `FIELD_CONFIG` (R408): Command that writes the configuration of one field channel. -/
  | fieldConfig (h : CmdHdr) (channel : Nat) (config : List Byte)
  /-- `FIELD_READ` (R412): Command returning channel state records. -/
  | fieldRead (h : CmdHdr) (first count : Nat)
  /-- `FIELD_SET` (R409): Command that drives and refreshes masked host-owned digital outputs. -/
  | fieldSet (h : CmdHdr) (mask levels : List Byte)
  /-- `LOOP_SET` (R409): Command that sets and refreshes the current code of a host-owned loop output. -/
  | loopSet (h : CmdHdr) (channel code : Nat)
  /-- `FIELD_SAFE_SET` (R410): SAFETY command that sets a channel's safe state, latch and watchdog time. -/
  | fieldSafeSet (h : CmdHdr) (channel safe watchdog : Nat)
  /-- `FIELD_FAULT_CLEAR` (R411): Command that releases every latch of a channel. -/
  | fieldFaultClear (h : CmdHdr) (channel : Nat)
  /-- `LADDER_STATUS` (R446): Command returning the rung of each power domain. -/
  | ladderStatus (h : CmdHdr)
  /-- `LADDER_FLOOR` (R446): Command that sets the deepest rung a domain may descend to. -/
  | ladderFloor (h : CmdHdr) (domain rung : Nat)
  /-- `FEED_PREFER` (R421): Command that names the preferred feed. -/
  | feedPrefer (h : CmdHdr) (feed : Nat)
  /-- `PWR_PREFER` (R421): SAFETY parameter write of the feed preference, which may switch the connected feed. -/
  | pwrPrefer (c : PrivClass) (feed : Nat)
  /-- `THERMAL_READ` (R454): Command returning die junction temperatures and the thermal state. -/
  | thermalRead (h : CmdHdr)
  /-- `PERF_FLOOR` (R456): Command that sets the performance floor of the voltage loop. -/
  | perfFloor (h : CmdHdr) (floor : Nat)
  /-- `PAIR_STATUS` (R437): Command returning pair role, partner state and guidon misses. -/
  | pairStatus (h : CmdHdr)
  /-- `GUARDED_SET` (R432): SAFETY command that replaces the list of guarded channels. -/
  | guardedSet (h : CmdHdr) (channels : List Nat)
  /-- `FAILOVER_REQUEST` (R427): Long command that hands activeness to the partner by lowering ARB_REQ. -/
  | failoverRequest (h : CmdHdr)
  /-- `FAILOVER_TIMEOUT` (R427): Expiry of 10 ms without the partner active, ending FAILOVER_REQUEST with TIMEOUT and raising ARB_REQ again. -/
  | failoverTimeout
  /-- `SEM_ACQUIRE` (R376): Command that takes or renews an advisory semaphore. -/
  | semAcquire (h : CmdHdr) (index hold : Nat)
  /-- `SEM_RELEASE` (R376): Command that frees a semaphore held by the issuer. -/
  | semRelease (h : CmdHdr) (index : Nat)
  /-- `BRIDGE_STATUS` (R380): Command returning open transactions, posted queue and late completions. -/
  | bridgeStatus (h : CmdHdr)
  /-- `STATS_READ` (R324): Command returning statistics counters of a MAC. -/
  | statsRead (h : CmdHdr) (unit first count : Nat)
  /-- `STATS_CLEAR` (R324): Command that zeroes all 64 counters of a MAC in one clock. -/
  | statsClear (h : CmdHdr) (unit : Nat)
  /-- `RECORDER_READ` (R476): Command returning recorder records from a time for a signal or all signals. -/
  | recorderRead (h : CmdHdr) (start signal records : Nat)
  /-- `SELFTEST` (R299): Long command that self-tests an engine or the engines of a fen. -/
  | selftest (h : CmdHdr) (unit : Nat)
  /-- `EVENT_SUBSCRIBE` (R58): MAINT command that names the UDP destination and groups of events on MT. -/
  | eventSubscribe (h : CmdHdr) (ip udp groups : Nat)
  /-- `PORT_ENABLE` (R308): Command that sets the CFG of a port's MAC, line or controller. -/
  | portEnable (h : CmdHdr) (port enable : Nat)
  /-- `PORT_STATUS` (R308): Command returning CFG, OPER, speed and link of a port. -/
  | portStatus (h : CmdHdr) (port : Nat)
  /-- `WAKE_PATTERN_SET` (R323): Command that writes one wake pattern of a vehicle or 10BASE-T1S MAC. -/
  | wakePatternSet (h : CmdHdr) (mac pattern : Nat) (mask : List Byte) (crc : Nat)
  /-- `PHY_TEST` (R309): MAINT command that puts a PHY into a test or loopback mode or ends it. -/
  | phyTest (h : CmdHdr) (port mode : Nat)
  /-- `COMMAND_TAKE` (R44): The free command processor takes the oldest waiting packet, SS first, then round-robin, and checks and executes it. -/
  | commandTake
  /-- `WRITE_PACKET` (R57): SS transaction carrying a command packet, taken or discarded with RX_OVERRUN. -/
  | writePacket (bytes : List Byte)
  /-- `READ_REPLY` (R57): SS transaction reading the oldest reply, removed only on complete read. -/
  | readReply (complete : Bool)
  /-- `READ_EVENT` (R57): SS transaction reading the head event record, removed only on complete read. -/
  | readEvent (complete : Bool)
  /-- `READ_STATUS` (R56): SS transaction returning queue counts and clearing RX_OVERRUN and FRAME_ERROR. -/
  | readStatus
  /-- `SS_UNKNOWN_TRANSACTION` (R57): SS transaction with an unknown first byte, which sets FRAME_ERROR and is ignored. -/
  | ssUnknownTransaction (first : Nat)
  /-- `MT_DATAGRAM_RECEIVE` (R58): A UDP datagram, ARP or ICMP echo arrives on MT and is handled or discarded. -/
  | mtDatagramReceive (d : MtFrame)
  /-- `MT_REASSEMBLY_TIMEOUT` (R58): An incomplete fragmented datagram is discarded after 100 ms. -/
  | mtReassemblyTimeout (ip ident : Nat)
  /-- `CMD_HA_RING_TAIL` (R51): BAR0 doorbell write of a command ring tail, which makes entries available or sets CMD_HA_RING_ERR. -/
  | cmdHaRingTail (hb : Bool) (tail : Nat)
  /-- `COMMAND_RING_FETCH` (R51): The node judges and fetches the next command ring entry and its packet. -/
  | commandRingFetch (hb : Bool) (entry packet : List Byte)
  /-- `CMD_HA_EVT_READ` (R53): BAR0 write of the event ring read index, which frees ring space. -/
  | cmdHaEvtRead (hb : Bool) (index : Nat)
  /-- `BAR0_WRITE` (R488): BAR0 write, executed only on the endpoint's own ring control words and otherwise discarded and counted. -/
  | bar0Write (hb : Bool) (offset size value : Nat)
  /-- `TIM_SEC_READ` (R489): Read of TIM word 0x000 that latches nanoseconds and fraction for the same read path. -/
  | timSecRead (path : ReadPath)
  /-- `POS_POSITION_READ` (R489): Read of POS word 0x008 that latches velocity and time for the same read path. -/
  | posPositionRead (path : ReadPath)
  /-- `FIRMWARE_HEARTBEAT` (R55): The firmware advances the count of DIAG_FW_STATE every 1 ms. -/
  | firmwareHeartbeat
  /-- `PCIE_RESET` (R54): A PCIe hot or function-level reset of an endpoint clears its rings and resets the port. -/
  | pcieReset (hb : Bool)
  /-- `BKB_PEP_CTL_SPEED` (R101): Write of group speed or extended reach, which retrains all four lanes of the plane-end. -/
  | bkbPepCtlSpeed (pe speed ext : Nat)
  /-- `TIM_SLEW_PPB` (R181): Write that narrows the slew limit and clamps rate and integral at once. -/
  | timSlewPpb (ppb : Nat)
  /-- `TIM_FREEZE` (R181): Write that freezes or releases the timebase servo. -/
  | timFreeze (freeze : Nat)
  /-- `POS_AXN_DIAM_UM` (R213): Write of an axle's diameter, pulses, mode or inversion, recomputing its step and starting a new run. -/
  | posAxnDiamUm (axle diam ppr : Nat)
  /-- `POS_LP_SYS` (R213): Write of the line system, which restarts detection. -/
  | posLpSys (sys : Nat)
  /-- `STL_ENGE_CFG` (R300): Write of an engine's CFG, which disables, holds or re-enables it. -/
  | stlEngeCfg (engine cfg : Nat)
  /-- `LAD_DD_CFG` (R447): Write of a power domain's CFG, asking it to stand in Peat or to run. -/
  | ladDdCfg (domain cfg : Nat)
  /-- `MAC_N_CFG_EN` (R308): Write of a MAC's CFG, enabling or disabling its port and PHY. -/
  | macNCfgEn (mac cfg : Nat)
  /-- `MAC_N_PLCA_EN` (R338): Write of PLCA fields, which restarts the reconciliation sublayer. -/
  | macNPlcaEn (mac en id count timer burst burstTimer : Nat)
  /-- `GLB_VEH_ID_SET` (R479): SAFETY write in recovery that commits the installation record's vehicle ID. -/
  | glbVehIdSet (c : PrivClass) (vehId : Nat)
  /-- `FC_MODE` (R385): Write of a channel mode, which takes the channel out of its old mode. -/
  | fcMode (channel mode : Nat)
  /-- `NEW_MODE_CONNECT` (R385): After 100 µs off and the end of demagnetisation, the new channel mode is connected with reset filters and safe state. -/
  | newModeConnect (channel : Nat)
  /-- `RED_REQ_EN` (R440): Write of RED_REQ_EN or RED_HEALTH_MASK, which may take ARB_REQ low at once. -/
  | redReqEn (en mask : Nat)
  /-- `SCH_HX_TX_EN` (R237): Write of a frame ring enable, starting or stopping descriptor fetching. -/
  | schHxTxEn (hb : Bool) (tx rx : Nat)
  /-- `FIELD_LINK_FRAME` (R12): A die-to-die field link frame is exchanged each microsecond, carrying outputs, refreshes, inputs and diagnostics.  `die` is the link: 0 and 1 the field links, 2 the core–power link, of whose frames R12 counts the failed ones. -/
  | fieldLinkFrame (die : Nat) (ok : Bool) (senses : Nat) (meas : List ChanMeas)
  /-- `FIELD_LINK_LOST` (R12): After 3 missing or failed frames each side declares the field link lost. -/
  | fieldLinkLost (die : Nat)
  /-- `FIELD_LINK_UP` (R406): A field link comes up and the core resends every channel configuration. -/
  | fieldLinkUp (die : Nat)
  /-- `PWR_LINK_LOST` (R12): No status message from the power die for 64 µs. -/
  | pwrLinkLost
  /-- `UNCORRECTABLE_ERROR` (R14): An access finds an uncorrectable memory error, handled per memory. -/
  | uncorrectableError (place : MemPlace)
  /-- `CORRECTED_ERROR` (R14): An access finds and corrects a memory error, which is counted. -/
  | correctedError (memory : Nat)
  /-- `REFCLK_LOST` (R20): A reference clock misses edges or leaves ±200 ppm and its PLL switches or holds over. -/
  | refclkLost (ref : Nat)
  /-- `REFCLK_RETURN` (R20): A lost reference clock returns. -/
  | refclkReturn (ref : Nat)
  /-- `CYCLE_BOUNDARY` (R15): The timebase broadcasts a cycle boundary and every armed selector flips. -/
  | cycleBoundary
  /-- `STATE_MISMATCH` (R31): An inconsistent CFG and OPER pair lasts 100 µs and the unit enters mismatch. -/
  | stateMismatch (unit : Nat)
  /-- `LANE_TRAINED` (R72): A backbone lane's PHY completes training at a speed. -/
  | laneTrained (mac speed : Nat)
  /-- `LANE_LOSS_REPORT` (R94): A lane's PHY reports loss of block lock or link status. -/
  | laneLossReport (mac : Nat)
  /-- `LANE_LOSS_END` (R94): A lane loss ends and a short loss is counted as a burst. -/
  | laneLossEnd (mac : Nat)
  /-- `LOSS_QUALIFIED` (R94): A lane loss reaches BKB_PEp_QUAL_NS and the lane leaves the group. -/
  | lossQualified (mac : Nat)
  /-- `LANE_STATE_FRAME_SEND` (R90): A lane state frame is sent on each trained lane every BKB_LSF_PERIOD. -/
  | laneStateFrameSend (mac : Nat)
  /-- `LANE_STATE_FRAME_RECEIVE` (R91): A neighbour's lane state frame arrives and updates the lanes in the group. -/
  | laneStateFrameReceive (rx : RxBb)
  /-- `LANE_RECOVER` (R93): A lane has stayed clean for BKB_PEp_RECOVER_MS and rejoins the group. -/
  | laneRecover (mac : Nat)
  /-- `BACKBONE_FRAME_RECEIVE` (R77): A backbone frame arrives on a lane and is checked, delivered, forwarded, removed or discarded. -/
  | backboneFrameReceive (rx : RxBb)
  /-- `DISTURB_WINDOW_OPEN` (R99): An expected-disturbance window reaches its start and opens. -/
  | disturbWindowOpen (window : Nat)
  /-- `DISTURB_WINDOW_END` (R99): An expected-disturbance window ends and its entry is freed. -/
  | disturbWindowEnd (window : Nat)
  /-- `PENNANT_RECEIVE` (R128): A Pennant arrives and is accepted, counted as foreign or refused, setting cycle timing and announcements. -/
  | pennantReceive (rx : RxBb)
  /-- `SLOT_CONTENT_CUTOFF` (R118): 400 ns before its first egress the origin takes the slot content from the publish unit. -/
  | slotContentCutoff (slot : Nat)
  /-- `SLOT_EGRESS` (R120): A ready slot frame or Pennant is launched at its scheduled egress under the guardian. -/
  | slotEgress (slot pe : Nat)
  /-- `SLOT_SKIP` (R120): A slot frame that cannot start by S + 200 ns is not sent and is counted. -/
  | slotSkip (slot pe : Nat)
  /-- `MESSAGE_PHASE_START` (R125): The message phase opens and queued message, Hoist, bridge and report frames may leave. -/
  | messagePhaseStart
  /-- `PENNANT_MISSED` (R133): No Pennant of the cycle accepted by message phase start; a second miss declares the Lead lost. -/
  | pennantMissed
  /-- `LISTEN_START` (R130): With the cycle section loaded and a plane-end present, the cycle unit leaves OFF for LISTEN. -/
  | listenStart
  /-- `LISTEN_TIMER_EXPIRY` (R130): The listen timer expires and a cold-start-capable node draws a back-off. -/
  | listenTimerExpiry
  /-- `BACKOFF_EXPIRY` (R130): The back-off expires and the node sends a Startup frame. -/
  | backoffExpiry
  /-- `CONTEST_TIMER_EXPIRY` (R130): The contest timer expires and the node becomes Lead at cycle 0. -/
  | contestTimerExpiry
  /-- `STARTUP_FRAME_RECEIVE` (R127): A Startup frame arrives and is relayed, counted or changes the contest state. -/
  | startupFrameReceive (rx : RxBb)
  /-- `COUPLE_SENSE_DEBOUNCE` (R142): A COUPLE_SENSE change lasts HST_DEBOUNCE_MS and qualifies as a Hoist trigger. -/
  | coupleSenseDebounce (end_ level : Nat)
  /-- `TRIGGER_FRAME` (R143): A Trigger frame reaches the Lead and qualifies, or leads to a Yield. -/
  | triggerFrame (rx : RxBb)
  /-- `JOIN_HOLD_EXPIRY` (R144): The join hold ends and the join trigger qualifies. -/
  | joinHoldExpiry
  /-- `TOPOLOGY_FRAME` (R149): A node takes a Topology frame and sends its Record. -/
  | topologyFrame (rx : RxBb)
  /-- `RECORD_FRAME` (R149): A Record frame reaches the Lead during collection or is counted late. -/
  | recordFrame (rx : RxBb)
  /-- `COLLECTION_CLOSE` (R149): The Lead closes record collection and starts numbering. -/
  | collectionClose
  /-- `NUMBERING_DONE` (R153): The Lead completes numbering and slot placement and sends the Proposal in the next message phase. -/
  | numberingDone
  /-- `PROPOSAL_FRAME` (R157): A node takes a complete Proposal and enters run-ahead, raising HOIST_PROPOSED. -/
  | proposalFrame (rx : RxBb)
  /-- `RUNAHEAD_COMPLETE` (R157): Run-ahead finishes its shadow banks and checks and the node sends Ready or Refuse. -/
  | runaheadComplete
  /-- `PROVISIONAL_FRAME_RECEIVE` (R159): A provisional frame confirms or contradicts a proposed neighbour. -/
  | provisionalFrameReceive (rx : RxBb)
  /-- `READY_FRAME` (R151): A Ready frame reaches the Lead. -/
  | readyFrame (rx : RxBb)
  /-- `REFUSE_FRAME` (R162): A Refuse frame reaches the Lead, which strikes or commits incomplete. -/
  | refuseFrame (rx : RxBb)
  /-- `READY_COLLECTION_CLOSE` (R151): Ready collection closes and the Lead commits or strikes. -/
  | readyCollectionClose
  /-- `COMMIT_FRAME` (R160): A node takes a Commit and arms its selectors, or refuses the swap. -/
  | commitFrame (rx : RxBb)
  /-- `STRIKE_FRAME` (R162): A node takes a Strike and discards its shadows, returning to CURRENT. -/
  | strikeFrame (rx : RxBb)
  /-- `YIELD_FRAME` (R163): A node takes a Yield naming the restart cycle of its train. -/
  | yieldFrame (rx : RxBb)
  /-- `DELAY_EXCHANGE_START` (R177): An initiator sends a delay request on each trained lane every TIM_DX_PERIOD_MS. -/
  | delayExchangeStart
  /-- `DELAY_REQUEST_RECEIVE` (R177): A responder answers a delay request with a response and follow-up. -/
  | delayRequestReceive (rx : RxBb)
  /-- `DELAY_RESPONSE_RECEIVE` (R177): The initiator notes the arrival of a delay response. -/
  | delayResponseReceive (rx : RxBb)
  /-- `DELAY_FOLLOW_UP_RECEIVE` (R177): The initiator takes the follow-up and computes the lane delay. -/
  | delayFollowUpReceive (rx : RxBb)
  /-- `DELAY_EXCHANGE_VOID` (R177): A delay exchange missing a frame after 200 µs is void and counted. -/
  | delayExchangeVoid (mac : Nat)
  /-- `PPS_PULSE` (R195): A PPS input edge is a reference event for qualification and the Lead's servo.  `edge` is
  0 or 1 for a rising edge of `PPS_IN_A` or `PPS_IN_B`, 2 or 3 for a falling one. -/
  | ppsPulse (edge : Nat) (time : Nat)
  /-- `TOD_MESSAGE` (R195): A time-of-day message arrives and names the second of its pulse, or is discarded. -/
  | todMessage (input : Nat) (bytes : List Byte)
  /-- `PTP_MESSAGE_RECEIVE` (R196): A PTP message on an enabled vehicle port is handled by the boundary clock. -/
  | ptpMessageReceive (m : PtpMsg)
  /-- `PPS_LOSS_TIMEOUT` (R191): 1.5 s without a pulse makes a PPS reference lost. -/
  | ppsLossTimeout (input : Nat)
  /-- `REFERENCE_WINDOW_END` (R192): A 60 s or 600 s qualification window of a time reference ends. -/
  | referenceWindowEnd (ref window : Nat)
  /-- `PPS_OUT_PULSE` (R211): PPS_OUT pulses at each second of train time when enabled and quality allows. -/
  | ppsOutPulse
  /-- `AXLE_EDGE` (R199): An axle input edge is timestamped and counted, or flagged as a signal fault. -/
  | axleEdge (e : AxleEdge)
  /-- `SLIP_CHECK` (R200): Every 1 ms axles are checked for slip against the reference velocity. -/
  | slipCheck
  /-- `FUSION_UPDATE` (R201): Every 10 µs the odometry node advances its fused position. -/
  | fusionUpdate
  /-- `POSITION_REPORT_RECEIVE` (R203): A position report is read by the timebase and the Lead designates the odometry node. -/
  | positionReportReceive (rx : RxBb)
  /-- `LINE_CROSSING` (R209): A positive-going zero crossing of LINE_SENSE drives detection, lock and validity. -/
  | lineCrossing (period amplitude : Nat)
  /-- `DC_DETECT` (R209): 200 ms without a crossing above the minimum amplitude selects DC. -/
  | dcDetect
  /-- `EVENT_FIRE` (R216): An event entry's condition is met and it carries out its action. -/
  | eventFire (index : Nat)
  /-- `TAIL_WORD_POLL` (R227): The node reads the host tail word of its frame rings every SCH_Hx_POLL_US. -/
  | tailWordPoll (hb : Bool) (word : Nat) (rxSizes : List Nat)
  /-- `TRANSMIT_DESCRIPTOR_FETCH` (R228): A transmit descriptor and its frame are fetched, bound or queued. -/
  | transmitDescriptorFetch (hb : Bool) (desc : List Byte) (frame : Option (List Byte))
  /-- `PORT_TRANSMIT_SELECT` (R318): An idle port chooses the next frame from its launch and priority queues. -/
  | portTransmitSelect (mac : Nat)
  /-- `FRAME_TRANSMIT_COMPLETE` (R329): A frame copy finishes leaving a port and its reference count falls. -/
  | frameTransmitComplete (mac : Nat)
  /-- `MAC_FRAME_RECEIVE` (R305): A MAC receives and checks a whole frame and routes it. -/
  | macFrameReceive (rx : RxEth)
  /-- `PAUSE_EXPIRY` (R320): A pause time runs out and the transmitter resumes. -/
  | pauseExpiry (mac : Nat)
  /-- `QUEUE_AGE_EXPIRY` (R319): A queued frame waits MAC_n_TX_AGE_MS and is dropped. -/
  | queueAgeExpiry (mac queue : Nat)
  /-- `LINK_STATUS_CHANGE` (R308): A port's link goes up or down, raising LINK_CHANGE and dropping queues on loss. -/
  | linkStatusChange (mac link speed : Nat) (half : Bool)
  /-- `COLLISION` (R321): A 10BASE-T1S transmission collides and backs off, or is dropped. -/
  | collision (mac : Nat) (late : Bool)
  /-- `CSMA_BACKOFF_EXPIRY` (R321): The collision back-off ends and the frame is attempted again. -/
  | csmaBackoffExpiry (mac : Nat)
  /-- `PLCA_STATUS_CHANGE` (R322): PLCA status changes and the port enters or leaves CSMA/CD fallback. -/
  | plcaStatusChange (mac : Nat) (ok : Bool)
  /-- `JOB_TAKE` (R282): An engine takes the earliest-key job of its deque and processes its records. -/
  | jobTake (engine : Nat)
  /-- `STEAL_SEARCH` (R285): An idle engine searches victims and steals a batch under the eligibility rule. -/
  | stealSearch (engine : Nat)
  /-- `JOB_COMPLETE` (R290): A job completes, its store writes stand and its chunks go to the publish units. -/
  | jobComplete (engine : Nat)
  /-- `RECORDER_WRITE` (R475): A queued recorder record is written to the DRAM ring, or the oldest is dropped. -/
  | recorderWrite
  /-- `STALENESS_SWEEP` (R257): A sweep round visits signals and marks stale ones. -/
  | stalenessSweep (first count : Nat)
  /-- `FIELD_IMAGE_PRESENT` (R258): The digital and loop input images are presented to the job builder. -/
  | fieldImagePresent
  /-- `CHUNK_APPLY` (R290): A publish unit applies a chunk whole to its message image. -/
  | chunkApply (unit layout : Nat)
  /-- `RELEASE_POINT_CYCLIC` (R291): A mode 1 release point falls at its offset and closes a generation. -/
  | releasePointCyclic (unit layout : Nat)
  /-- `ENGINE_QUARANTINE` (R297): An engine fault quarantines the engine and returns its running job to the deque. -/
  | engineQuarantine (engine cause : Nat)
  /-- `ENGINE_SELFTEST_DONE` (R298): An engine completes or fails its idle or commanded self-test. -/
  | engineSelftestDone (engine : Nat) (good : Bool)
  /-- `ENVELOPE_INTERVAL` (R293): A 5 µs interval ends and fens over their envelope are counted. -/
  | envelopeInterval
  /-- `MVB_BASIC_PERIOD` (R346): An MVB basic period starts and the administrator polls its list. -/
  | mvbBasicPeriod (c : Nat)
  /-- `MVB_MASTER_FRAME_RECEIVE` (R347): A master frame arrives and a source port or device status is answered.  Bits 0
  and 1 of `lines` are the lines A and B it arrived on, bits 2 and 3 those on which it passed its checks. -/
  | mvbMasterFrameReceive (c fcode addr lines : Nat)
  /-- `MVB_SLAVE_FRAME_RECEIVE` (R341): A slave frame for a sink port is received and becomes an instance. -/
  | mvbSlaveFrameReceive (c line fcode addr : Nat) (data : List Byte) (goodA goodB : Bool)
  /-- `MVB_REPLY_TIMEOUT` (R347): A poll gets no reply within LEG_MVBc_TREPLY. -/
  | mvbReplyTimeout (c : Nat)
  /-- `MVB_SILENCE_TAKEOVER` (R349): An active administrator takes mastership after bus silence. -/
  | mvbSilenceTakeover (c : Nat)
  /-- `WTB_INAUGURATION_START` (R350): A WTB inauguration starts and the foreign table empties. -/
  | wtbInaugurationStart
  /-- `WTB_INAUGURATION_COMPLETE` (R352): A WTB inauguration completes, builds the foreign table and may trigger a Hoist. -/
  | wtbInaugurationComplete (w : WtbInaug)
  /-- `WTB_PROCESS_DATA_RECEIVE` (R353): A process data frame from a foreign position becomes an instance.  Bit n of
  `lines`: it arrived good on the line of port 88 + n; 0: it passed its checks on none. -/
  | wtbProcessDataReceive (addr : Nat) (data : List Byte) (lines : Nat)
  /-- `WTB_OWN_FRAME_SEND` (R351): The node's own process data is sent in its individual period. -/
  | wtbOwnFrameSend
  /-- `CAN_FRAME_RECEIVE` (R356): A CAN frame is received and matched to a receive entry. -/
  | canFrameReceive (k id ide fdf rtr : Nat) (data : List Byte)
  /-- `CAN_TRANSMIT_COMPLETE` (R357): A pending CAN frame wins arbitration and is sent. -/
  | canTransmitComplete (k : Nat)
  /-- `CAN_TX_AGE_EXPIRY` (R357): A pending CAN frame unsent after LEG_CANk_TX_AGE_MS is dropped. -/
  | canTxAgeExpiry (k entry : Nat)
  /-- `CAN_BUS_OFF` (R357): A controller enters bus-off and drops its pending frames. -/
  | canBusOff (k : Nat)
  /-- `CAN_BUS_OFF_RECOVERY` (R354): A bus-off controller recovers after 128 sequences of 11 recessive bits. -/
  | canBusOffRecovery (k : Nat)
  /-- `SERIAL_FRAME_CLOSE` (R359): An RS-485 frame closes on its gap or 256th byte and is checked and matched. -/
  | serialFrameClose (s : Nat) (data : List Byte) (charError break_ : Bool)
  /-- `SERIAL_TRANSMIT` (R361): The head of an RS-485 queue is sent once the line is idle. -/
  | serialTransmit (s : Nat)
  /-- `SERIAL_RESPONSE_TIMEOUT` (R361): A master port's response limit passes without a matching frame. -/
  | serialResponseTimeout (s : Nat)
  /-- `RECEIVE_TIMEOUT` (R342): A legacy receive entry is silent for its timeout and delivers one empty instance. -/
  | receiveTimeout (bus unit entry : Nat)
  /-- `BRIDGE_FRAME_RECEIVE` (R370): A kind 0x6 bridge frame for this node is reassembled and handled by type. -/
  | bridgeFrameReceive (rx : RxBb)
  /-- `REASSEMBLY_TIMEOUT` (R370): A packet's segments are incomplete after RAB_GAP_US and it is discarded. -/
  | reassemblyTimeout (origin xid : Nat)
  /-- `ORDER_GAP_TIMEOUT` (R371): Missing order numbers are skipped after RAB_GAP_US. -/
  | orderGapTimeout (originUid : Nat)
  /-- `TRANSACTION_TIMEOUT` (R367): A non-posted transaction reaches RAB_TIMEOUT_US and is answered TIMEOUT. -/
  | transactionTimeout (port tag : Nat)
  /-- `SEM_EXPIRY` (R376): A semaphore's hold time passes and it is released with SEM_EXPIRED. -/
  | semExpiry (index : Nat)
  /-- `BANK_SUPPLY_MEASURE` (R382): A bank supply measurement changes its supply state. -/
  | bankSupplyMeasure (bank mv : Nat)
  /-- `INPUT_SAMPLE` (R387): A digital input sample updates its filter counter and filtered state. -/
  | inputSample (channel level : Nat) (current : Int)
  /-- `LOOP_CONVERSION` (R395): A loop input current is converted and averaged every 50 µs. -/
  | loopConversion (channel : Nat) (code : Int)
  /-- `LOOP_WIRE_BREAK` (R395): A loop input stays below 1 mA for 10 ms, or recovers, and wire break changes. -/
  | loopWireBreak (channel : Nat) (broken : Bool)
  /-- `OVERCURRENT_LATCH` (R391): A current limit engaged for FC_OC_TIME latches the output off. -/
  | overcurrentLatch (channel : Nat)
  /-- `OVERTEMPERATURE_TRIP` (R391): An output switch's temperature sensor trips and latches it off. -/
  | overtemperatureTrip (channel : Nat)
  /-- `OPEN_LOAD` (R392): An on output draws under 5 mA for 100 ms, or recovers, and open load changes. -/
  | openLoad (channel : Nat) (open_ : Bool)
  /-- `DEMAGNETISATION_END` (R393): A demagnetisation clamp ends and its energy and bank average are judged. -/
  | demagnetisationEnd (channel energy bankMw : Nat)
  /-- `COMPLIANCE` (R396): A loop output shortfall lasts 500 µs, or ends for 10 ms, and compliance changes. -/
  | compliance (channel : Nat) (short : Bool)
  /-- `WATCHDOG_EXPIRED` (R400): An output watchdog expires and the output takes its safe state. -/
  | watchdogExpired (channel : Nat)
  /-- `HOLD_LIMIT` (R405): A hold passes FLD_HOLD_MS without a refresh and the channel takes its safe state. -/
  | holdLimit (channel : Nat)
  /-- `MIRROR_STALE` (R404): A standby receives no mirror for 30 µs and switches its paired outputs off. -/
  | mirrorStale
  /-- `FEED_STATE_CHANGE` (R418): A feed crosses a range limit and changes state. -/
  | feedStateChange (feed state mv : Nat)
  /-- `FEED_QUALIFIED` (R418): A feed stays in range for PWR_QUAL_MS and becomes VALID. -/
  | feedQualified (feed : Nat)
  /-- `RIDE_THROUGH_EXPIRY` (R420): PWR_RIDE_US passes in HOLDUP and the node shuts down for power loss. -/
  | rideThroughExpiry
  /-- `HEALTH_TRIP` (R424): A pair member stops being healthy and drives ARB_REQ low. -/
  | healthTrip (bit : Nat)
  /-- `ARB_GNT_CHANGE` (R425): ARB_GNT rises or falls and the node becomes active or standby. -/
  | arbGntChange (level : Nat)
  /-- `GUIDON_SEND` (R428): Every 10 µs a pair member sends a guidon and mirror on Halyard and the backbone. -/
  | guidonSend
  /-- `HALYARD_FRAME_RECEIVE` (R430): A Halyard guidon and mirror image arrive and are accepted or counted. -/
  | halyardFrameReceive (hdr mirror : List Byte)
  /-- `BACKBONE_GUIDON_RECEIVE` (R429): A guidon ordered set arrives on a backbone lane. -/
  | backboneGuidonReceive (mac : Nat) (hdr : List Byte)
  /-- `GUIDON_MISS` (R430): A guidon path goes 30 µs without an accepted guidon; both paths declare the partner failed. -/
  | guidonMiss (path : Nat)
  /-- `HALYARD_UP` (R428): Halyard comes up or is lost, and the partner identity is checked. -/
  | halyardUp (up : Bool) (partnerUid : Nat)
  /-- `DOMAIN_DESCENT` (R444): An idle domain descends one rung. -/
  | domainDescent (domain : Nat)
  /-- `DOMAIN_ASCENT` (R445): A domain returns to Run ahead of its next demand. -/
  | domainAscent (domain : Nat)
  /-- `DOMAIN_WAKE` (R445): A wake request returns a lowered domain to Run at once. -/
  | domainWake (domain : Nat)
  /-- `SLEEP_ACK_FRAME` (R449): A sleep acknowledgement reaches the Lead. -/
  | sleepAckFrame (rx : RxBb)
  /-- `SLEEP_ACK_CLOSE` (R449): The message phase of cycle n − 1 ends and the Lead ends TRAIN_SLEEP with its count. -/
  | sleepAckClose
  /-- `ORPHAN_TIMEOUT` (R451): A node in LISTEN without a present plane-end for LAD_ORPHAN_S enters Bog. -/
  | orphanTimeout
  /-- `WAKE_INDICATION` (R452): An enabled wake source indicates in Bog and the node wakes and sends the wake signal. -/
  | wakeIndication (source pes seconds : Nat)
  /-- `THERMAL_SAMPLE` (R454): Junction sensors are sampled and the thermal state updated. -/
  | thermalSample (tj : List Int)
  /-- `THROTTLE_STEP_TIMER` (R455): Every 1 ms in THROTTLE the ENG clock lowers a step, or rises every 10 ms in recovery. -/
  | throttleStepTimer
  /-- `SHED_STAGE_TIMER` (R455): A 10 ms interval raises or lowers the shed stage. -/
  | shedStageTimer
  /-- `ECO_STEP` (R456): The voltage loop lowers or raises the ENG step by load. -/
  | ecoStep (down : Bool)
  /-- `THERMAL_RESTART` (R457): All dies below 110 °C for 1 s, the power die reconnects a feed and restarts. -/
  | thermalRestart
  /-- `INTERNAL_RELEASE` (R462): Rails good, PLLs locked and RESET_N high release the core and latch the straps. -/
  | internalRelease (b : BoardLevels)
  /-- `RESET_N_PULSE` (R463): A low pulse on RESET_N resets the core and field dies or is ignored. -/
  | resetNPulse (ns : Nat)
  /-- `RAIL_SUPERVISOR_FAULT` (R463): A rail supervisor trips and resets its die and the core. -/
  | railSupervisorFault (die : Nat)
  /-- `IMAGE_CHECK_DONE` (R470): A slot's image check completes, booting, falling back or entering recovery. -/
  | imageCheckDone (slot result : Nat)
  /-- `LINE_LINK_TIMEOUT` (R340): An MVB or WTB line that has received no good frame for 100 ms reports link 0 and OPER DOWN and raises LINK_CHANGE. -/
  | lineLinkTimeout (port : Nat)
  /-- `POWER_LINK_RETURN` (R437): The core–power link returns after a loss, PWR_LINK_UP sets and PWR_LINK_LOST is raised with CLEARED. -/
  | powerLinkReturn
  /-- `CAN_ERROR_FRAME` (R354): A CAN controller detects a bus error or error frame, updates TEC and REC and may move between error active and error passive, changing OPER. -/
  | canErrorFrame (k tec rec : Nat)
  /-- `ANNOUNCE_RECEIPT_TIMEOUT` (R196): A PTP port in SLAVE receives no Announce within announceReceiptTimeout, leaves SLAVE, and the PTP reference becomes lost. -/
  | announceReceiptTimeout (port : Nat)
  /-- `PTP_MESSAGE_INTERVAL` (R196): At its logSyncInterval, logAnnounceInterval and logMinDelayReqInterval a PTP port sends Sync, follow-up, Announce or Delay_Req as the boundary clock requires. -/
  | ptpMessageInterval (port kind : Nat)
  /-- `TOD_MESSAGE_TIMEOUT` (R195): With time-of-day enabled, 900 ms pass after a pulse without a valid message, and the pulse is counted as missing in TIM_TOD_BAD. -/
  | todMessageTimeout (input : Nat)
  /-- `LINE_PERIOD_END` (R209): A supply period of the line-phase PLL ends, and its amplitude and phase error are judged, so lock and validity are lost after two bad periods even when no crossing comes. -/
  | linePeriodEnd (amplitude : Nat) (error : Int)
  /-- `PCIE_LINK_CHANGE` (R441): A PCIe endpoint link comes up or goes down, which changes whether its power domain is in use and whether its rings and BARs can serve. -/
  | pcieLinkChange (hb up : Bool)
  /-- `JOURNAL_RECORD_COMMITTED` (R468): An MRAM journal record in flight completes its CRC write, after which shutdown may assert RAIL_FAIL and held-back MRAM writes may proceed. -/
  | journalRecordCommitted
  /-- `PLCA_BEACON` (R322): A 10BASE-T1S port acting as PLCA coordinator sends a BEACON at each PLCA cycle and counts it in tx_plca_beacon, opening the transmit opportunities. -/
  | plcaBeacon (mac : Nat)
  deriving DecidableEq, Repr

end Sys2Proof
end

