-- ==== Sys2Proof/Decode.lean ====
section
/-!
DEFINITION. Commands from words of the opcode table, and the bytes a command packet spells.  The table of this block gives no
row bits: its rows are packets, accesses and happenings, and a packet's bytes are decoded by the command processor
(Machine/Cmd).
-/
namespace Sys2Proof
open Sys2Proof.Machine

/-- The command a word spells by the table's bits: the table gives none. -/
def decodeTableWord (_nbits _w : Nat) : Option Instr := none

/-- The header, opcode and parameters of a command that comes as a packet (Table 02-6); none for an access or a
happening. -/
def Instr.spell : Instr → Option (CmdHdr × Nat × List Byte)
  | .idRead h => some (h, 0x0101, [])
  | .infoRead h => some (h, 0x0102, [])
  | .unitStateRead h unit => some (h, 0x0103, toBE 2 unit)
  | .mismatchList h => some (h, 0x0104, [])
  | .echo h data => some (h, 0x0105, data)
  | .imageStageBegin h slot length => some (h, 0x0201, toBE 1 slot ++ toBE 4 length)
  | .imageStageData h offset data => some (h, 0x0202, toBE 4 offset ++ data)
  | .imageCommit h slot => some (h, 0x0203, toBE 1 slot)
  | .imageSelect h slot fallback => some (h, 0x0204, toBE 1 slot ++ toBE 1 fallback)
  | .imageInfo h slot => some (h, 0x0205, toBE 1 slot)
  | .configApply h mask cycle => some (h, 0x0206, toBE 4 mask ++ toBE 4 cycle)
  | .paramRead h offset count => some (h, 0x0207, toBE 4 offset ++ toBE 2 count)
  | .paramWrite h offset words => some (h, 0x0208, toBE 4 offset ++ toBE 2 words.length ++ zeros 2
      ++ (words.map (fun (w : Nat × Nat) => toBE 8 w.1 ++ toBE 8 w.2)).flatten)
  | .nodeReset h kind => some (h, 0x0209, toBE 1 kind)
  | .timeRead h => some (h, 0x0301, [])
  | .timeStep h cycle step => some (h, 0x0302, toBE 4 cycle ++ toBE 8 step)
  | .timeReintegrate h => some (h, 0x0303, [])
  | .refPriority h units => some (h, 0x0304, toBE 1 units.length ++ units.flatMap (toBE 2))
  | .servoLimit h freeze ppb => some (h, 0x0305, toBE 1 freeze ++ toBE 4 ppb)
  | .positionRead h => some (h, 0x0306, [])
  | .baliseCorrect h position time => some (h, 0x0307, toBE 8 position ++ toBE 8 time)
  | .phaseRead h => some (h, 0x0308, [])
  | .eventAdd h entry => some (h, 0x0401, entry)
  | .eventRemove h index => some (h, 0x0402, toBE 2 index)
  | .eventRead h index => some (h, 0x0403, toBE 2 index)
  | .disturbWindow h mask start duration => some (h, 0x0404, toBE 1 mask ++ toBE 8 start ++ toBE 4 duration)
  | .hoistRequest h reason => some (h, 0x0501, toBE 1 reason)
  | .directoryRead h which => some (h, 0x0502, toBE 1 which)
  | .cycleStatus h => some (h, 0x0503, [])
  | .trainSleep h cycle => some (h, 0x0504, toBE 4 cycle)
  | .laneForce h pe mask => some (h, 0x0505, toBE 1 pe ++ toBE 1 mask)
  | .scheduleSwitch h cycle => some (h, 0x0506, toBE 4 cycle)
  | .signalRead h index count => some (h, 0x0601, toBE 4 index ++ toBE 2 count)
  | .signalWrite h index value => some (h, 0x0602, toBE 4 index ++ toBE 8 value)
  | .smeRead h index profile => some (h, 0x0603, toBE 4 index ++ toBE 1 profile)
  | .smeWrite h index profile entry => some (h, 0x0604, toBE 4 index ++ toBE 1 profile ++ entry)
  | .profileSwitch h profile cycle => some (h, 0x0605, toBE 1 profile ++ toBE 4 cycle)
  | .profileRead h => some (h, 0x0606, [])
  | .fieldConfig h channel config => some (h, 0x0701, toBE 1 channel ++ config)
  | .fieldRead h first count => some (h, 0x0702, toBE 1 first ++ toBE 2 count)
  | .fieldSet h mask levels => some (h, 0x0703, mask ++ levels)
  | .loopSet h channel code => some (h, 0x0704, toBE 1 channel ++ toBE 2 code)
  | .fieldSafeSet h channel safe watchdog => some (h, 0x0705, toBE 1 channel ++ toBE 1 safe ++ toBE 4 watchdog)
  | .fieldFaultClear h channel => some (h, 0x0706, toBE 1 channel)
  | .ladderStatus h => some (h, 0x0801, [])
  | .ladderFloor h domain rung => some (h, 0x0802, toBE 2 domain ++ toBE 1 rung)
  | .feedPrefer h feed => some (h, 0x0803, toBE 1 feed)
  | .thermalRead h => some (h, 0x0804, [])
  | .perfFloor h floor => some (h, 0x0805, toBE 1 floor)
  | .pairStatus h => some (h, 0x0901, [])
  | .guardedSet h channels => some (h, 0x0902, toBE 1 channels.length ++ (channels.map (fun c => BitVec.ofNat 8 c)))
  | .failoverRequest h => some (h, 0x0903, [])
  | .semAcquire h index hold => some (h, 0x0A01, toBE 1 index ++ toBE 2 hold)
  | .semRelease h index => some (h, 0x0A02, toBE 1 index)
  | .bridgeStatus h => some (h, 0x0A03, [])
  | .statsRead h unit first count => some (h, 0x0B01, toBE 2 unit ++ toBE 1 first ++ toBE 1 count)
  | .statsClear h unit => some (h, 0x0B02, toBE 2 unit)
  | .recorderRead h start signal records => some (h, 0x0B03, toBE 8 start ++ toBE 4 signal ++ toBE 2 records)
  | .selftest h unit => some (h, 0x0B04, toBE 2 unit)
  | .eventSubscribe h ip udp groups => some (h, 0x0B05, toBE 4 ip ++ toBE 2 udp ++ toBE 2 groups)
  | .portEnable h port enable => some (h, 0x0C01, toBE 1 port ++ toBE 1 enable)
  | .portStatus h port => some (h, 0x0C02, toBE 1 port)
  | .wakePatternSet h mac pattern mask crc => some (h, 0x0C03, toBE 1 mac ++ toBE 1 pattern ++ fitBytes 16 mask
      ++ toBE 4 crc)
  | .phyTest h port mode => some (h, 0x0C04, toBE 1 port ++ toBE 1 mode)
  | _ => none

end Sys2Proof
end

