-- ==== Sys2Proof/Config.lean ====
section
/-!
DEFINITION. What the spec leaves to the board or leaves open: constants without a body, so that no proof can rest on a
value of theirs.
-/
namespace Sys2Proof.Config

/-- The n-th free value a run takes: a value the spec says exists and does not give.  Free. -/
opaque freeValue : Nat → Nat

/-- This node is the `E1_NODE` of its pair (Table 05-3): the spec gives the bit its meaning and not its source.  Free. -/
opaque e1Node : Bool

/-- Where the spec divides and gives no rounding, whether the quotient of these operands is rounded up.  Free. -/
opaque roundsUp : Int → Nat → Bool

/-- Which order of the two phases of an axle sensor counts as forward, and which level of a direction line (R197 names
forward motion, not the signal that shows it).  Free. -/
opaque aLeadsForward : Bool
opaque highIsForward : Bool

/-- clockAccuracy and offsetScaledLogVariance of this node's own PTP data set, which the spec does not give (R196). -/
opaque ptpAccuracy : Nat
opaque ptpVariance : Nat

/-- Lane-skew compensation in ns of the lane that MAC n serves, from the node's own calibration (R157).  Free. -/
opaque laneSkew : Nat → Nat

/-- The digest of an image (R450): the spec names it and gives no algorithm.  Free. -/
opaque imageDigest : List Byte → Nat

/-- The n-th byte of staging that nothing has written since `IMAGE_STAGE_BEGIN`.  Free. -/
opaque stagingByte : Nat → Byte

/-- The queue of frames of kind 0x2 from an origin at a forwarder: R326 speaks of the ring header's origin entry, which no
table gives.  Free. -/
opaque originQueue : Nat → Nat

/-- The records that the body of an image section of a number holds: the spec gives the layout of each record and not how a
body is cut into them.  Free. -/
opaque sectionItems : Nat → List Byte → List Item

/-- The slot and fallback of a node whose journal holds no boot selection record.  Free. -/
opaque bootSlotB : Bool
opaque bootFallback : Bool

end Sys2Proof.Config
end

