-- ==== Sys2Proof/Machine/Flags.lean ====
section
/-!
DEFINITION. The check values the spec computes over bytes: the CRC-32C of command packets (R36) and the other cyclic
checks its chapters name.  This block has no arithmetic status flags; its checks stand in their place.
-/
namespace Sys2Proof.Machine
open Sys2Proof

/-- One bit step of a reflected CRC whose reflected polynomial is `poly`. -/
def crcReflBit (poly c : Nat) : Nat := if c % 2 = 1 then c / 2 ^^^ poly else c / 2

/-- One byte of a reflected CRC. -/
def crcReflByte (poly c : Nat) (b : Byte) : Nat :=
  Nat.repeat (crcReflBit poly) 8 (c ^^^ b.toNat)

/-- A reflected CRC over bytes: initial value, then final exclusive-or. -/
def crcRefl (poly init fin : Nat) (bs : List Byte) : Nat := bs.foldl (crcReflByte poly) init ^^^ fin

/-- One bit step of a non-reflected CRC of width `w`. -/
def crcFwdBit (w poly c : Nat) : Nat :=
  if c.testBit (w - 1) then (c * 2 % 2 ^ w) ^^^ poly else c * 2 % 2 ^ w

/-- One byte of a non-reflected CRC of width `w`, at least 8. -/
def crcFwdByte (w poly c : Nat) (b : Byte) : Nat :=
  Nat.repeat (crcFwdBit w poly) 8 (c ^^^ b.toNat * 2 ^ (w - 8))

/-- A non-reflected CRC over bytes. -/
def crcFwd (w poly init fin : Nat) (bs : List Byte) : Nat := bs.foldl (crcFwdByte w poly) init ^^^ fin

/-- CRC-32C (R36): polynomial 0x1EDC_6F41 reflected, initial value and final exclusive-or all ones. -/
def crc32c (bs : List Byte) : Nat := crcRefl 0x82F63B78 0xFFFFFFFF 0xFFFFFFFF bs

/-- The CRC of safety messages (spec/08, R259 and its list): polynomial 0xF4AC_FB13 reflected, all ones before and after. -/
def crcSafety (bs : List Byte) : Nat := crcRefl 0xC8DF352F 0xFFFFFFFF 0xFFFFFFFF bs

/-- The CRC-32 of wake patterns (R323): polynomial 0x04C1_1DB7 reflected, all ones before and after. -/
def crc32 (bs : List Byte) : Nat := crcRefl 0xEDB88320 0xFFFFFFFF 0xFFFFFFFF bs

/-- The CRC-16 of RS-485 frames (R359): polynomial 0x8005 reflected, initial value 0xFFFF, no final exclusive-or. -/
def crc16 (bs : List Byte) : Nat := crcRefl 0xA001 0xFFFF 0 bs

/-- The CRC-8 of a guidon header (R428, Table 14-5): polynomial 0x07, not reflected, initial value 0x00. -/
def crc8 (bs : List Byte) : Nat := crcFwd 8 0x07 0 0 bs

end Sys2Proof.Machine
end

