-- ==== Sys2Proof/Machine/RegMap.lean ====
section
/-!
DEFINITION. The register fields of the parameter space, one row per field of the register tables of spec/
(Tables 02-10, 03-7, 04-9, 05-9, 06-9, 06-10, 07-11, 08-13, 09-7, 10-10, 10-11, 11-9, 12-5, 13-7, 14-6, 14-7,
15-5, 16-8 and 17-4), at its absolute byte offset (R480, Table 17-1): the offset of its word, the strides of its
indices, its least significant bit, its width, its access code (R7), its reset value and, for a field software
writes, the values its table admits.  A field whose reset column reads Live, Strap or Identity stands here at 0:
the happening that sets it is the one the spec names (INTERNAL_RELEASE and its like).
-/
namespace Sys2Proof.Machine
open Sys2Proof


/-! Block CMD, Table 02-10. -/

/-- Table 02-10: RW, `CMD_Hx_RING_BASE`. -/
def CMD_Hx_RING_BASE : Row := ⟨0x10000, [⟨0x40, 0, 0, 2⟩], 0, 64, .rw, 0x0, 0, 0xFFFFFFFFFFFFFFFF⟩
/-- Table 02-10: RW, `CMD_Hx_RING_LOG2`. -/
def CMD_Hx_RING_LOG2 : Row := ⟨0x10008, [⟨0x40, 0, 0, 2⟩], 0, 4, .rw, 0x4, 4, 0xC⟩
/-- Table 02-10: RW, `CMD_Hx_RING_EN`. -/
def CMD_Hx_RING_EN : Row := ⟨0x10008, [⟨0x40, 0, 0, 2⟩], 8, 1, .rw, 0x0, 0, 0x1⟩
/-- Table 02-10: RO, `CMD_Hx_RING_HEAD`. -/
def CMD_Hx_RING_HEAD : Row := ⟨0x10008, [⟨0x40, 0, 0, 2⟩], 16, 16, .ro, 0x0, 0, 0xFFFF⟩
/-- Table 02-10: W1C, `CMD_Hx_RING_ERR`. -/
def CMD_Hx_RING_ERR : Row := ⟨0x10008, [⟨0x40, 0, 0, 2⟩], 32, 1, .w1c, 0x0, 0, 0x1⟩
/-- Table 02-10: RW, `CMD_Hx_RING_TAIL`. -/
def CMD_Hx_RING_TAIL : Row := ⟨0x10010, [⟨0x40, 0, 0, 2⟩], 0, 16, .rw, 0x0, 0, 0xFFFF⟩
/-- Table 02-10: RW, `CMD_Hx_EVT_BASE`. -/
def CMD_Hx_EVT_BASE : Row := ⟨0x10018, [⟨0x40, 0, 0, 2⟩], 0, 64, .rw, 0x0, 0, 0xFFFFFFFFFFFFFFFF⟩
/-- Table 02-10: RW, `CMD_Hx_EVT_LOG2`. -/
def CMD_Hx_EVT_LOG2 : Row := ⟨0x10020, [⟨0x40, 0, 0, 2⟩], 0, 4, .rw, 0x4, 4, 0xC⟩
/-- Table 02-10: RW, `CMD_Hx_EVT_EN`. -/
def CMD_Hx_EVT_EN : Row := ⟨0x10020, [⟨0x40, 0, 0, 2⟩], 8, 1, .rw, 0x0, 0, 0x1⟩
/-- Table 02-10: RW, `CMD_Hx_EVT_URGENT`. -/
def CMD_Hx_EVT_URGENT : Row := ⟨0x10020, [⟨0x40, 0, 0, 2⟩], 9, 1, .rw, 0x0, 0, 0x1⟩
/-- Table 02-10: RW, `CMD_Hx_EVT_GROUPS`. -/
def CMD_Hx_EVT_GROUPS : Row := ⟨0x10020, [⟨0x40, 0, 0, 2⟩], 16, 16, .rw, 0x0, 0, 0xFFFF⟩
/-- Table 02-10: RO, `CMD_Hx_EVT_WRITE`. -/
def CMD_Hx_EVT_WRITE : Row := ⟨0x10020, [⟨0x40, 0, 0, 2⟩], 32, 16, .ro, 0x0, 0, 0xFFFF⟩
/-- Table 02-10: RW, `CMD_Hx_EVT_READ`. -/
def CMD_Hx_EVT_READ : Row := ⟨0x10028, [⟨0x40, 0, 0, 2⟩], 0, 16, .rw, 0x0, 0, 0xFFFF⟩
/-- Table 02-10: RO, `CMD_Hx_PENDING`. -/
def CMD_Hx_PENDING : Row := ⟨0x10030, [⟨0x40, 0, 0, 2⟩], 0, 16, .ro, 0x0, 0, 0xFFFF⟩
/-- Table 02-10: RC, `CMD_Hx_LOST`. -/
def CMD_Hx_LOST : Row := ⟨0x10030, [⟨0x40, 0, 0, 2⟩], 16, 32, .rc, 0x0, 0, 0xFFFFFFFF⟩
/-- Table 02-10: RW, `CMD_SS_GROUPS`. -/
def CMD_SS_GROUPS : Row := ⟨0x10080, [], 0, 16, .rw, 0xFFFE, 0, 0xFFFF⟩
/-- Table 02-10: RW, `CMD_SS_CTL_EVTN_EN`. -/
def CMD_SS_CTL_EVTN_EN : Row := ⟨0x10080, [], 16, 1, .rw, 0x1, 0, 0x1⟩
/-- Table 02-10: RC, `CMD_SS_LOST`. -/
def CMD_SS_LOST : Row := ⟨0x10080, [], 32, 32, .rc, 0x0, 0, 0xFFFFFFFF⟩
/-- Table 02-10: RW, `CMD_MT_IPV4`. -/
def CMD_MT_IPV4 : Row := ⟨0x10088, [], 0, 32, .rw, 0xA9FE4E47, 0, 0xFFFFFFFF⟩
/-- Table 02-10: RW, `CMD_MT_PREFIX`. -/
def CMD_MT_PREFIX : Row := ⟨0x10088, [], 32, 8, .rw, 0x10, 0, 0x20⟩
/-- Table 02-10: RW, `CMD_MT_UDP_PORT`. -/
def CMD_MT_UDP_PORT : Row := ⟨0x10090, [], 0, 16, .rw, 0xCE4E, 0, 0xFFFF⟩
/-- Table 02-10: RC, `CMD_DISCARD_MT`. -/
def CMD_DISCARD_MT : Row := ⟨0x10098, [], 0, 32, .rc, 0x0, 0, 0xFFFFFFFF⟩
/-- Table 02-10: RC, `CMD_DISCARD_TRAIN`. -/
def CMD_DISCARD_TRAIN : Row := ⟨0x10098, [], 32, 32, .rc, 0x0, 0, 0xFFFFFFFF⟩
/-- Table 02-10: RC, `CMD_BAR0_WRITES`. -/
def CMD_BAR0_WRITES : Row := ⟨0x100A0, [], 0, 32, .rc, 0x0, 0, 0xFFFFFFFF⟩

/-! Block BKB, Table 03-7. -/

/-- Table 03-7: RW, `BKB_PEp_CTL_SPEED`. -/
def BKB_PEp_CTL_SPEED : Row := ⟨0x80000, [⟨0x100, 0, 0, 4⟩], 0, 2, .rw, 0x0, 0, 0x2⟩
/-- Table 03-7: RW, `BKB_PEp_CTL_EXT`. -/
def BKB_PEp_CTL_EXT : Row := ⟨0x80000, [⟨0x100, 0, 0, 4⟩], 2, 1, .rw, 0x0, 0, 0x1⟩
/-- Table 03-7: RW, `BKB_PEp_QUAL_NS`. -/
def BKB_PEp_QUAL_NS : Row := ⟨0x80008, [⟨0x100, 0, 0, 4⟩], 0, 17, .rw, 0x1F40, 2000, 0x186A0⟩
/-- Table 03-7: RW, `BKB_PEp_DEG_COUNT`. -/
def BKB_PEp_DEG_COUNT : Row := ⟨0x80010, [⟨0x100, 0, 0, 4⟩], 0, 16, .rw, 0x10, 1, 0xFFFF⟩
/-- Table 03-7: RW, `BKB_PEp_DEG_WIN_MS`. -/
def BKB_PEp_DEG_WIN_MS : Row := ⟨0x80010, [⟨0x100, 0, 0, 4⟩], 16, 16, .rw, 0x64, 1, 0xEA60⟩
/-- Table 03-7: RW, `BKB_PEp_RECOVER_MS`. -/
def BKB_PEp_RECOVER_MS : Row := ⟨0x80010, [⟨0x100, 0, 0, 4⟩], 32, 32, .rw, 0x3E8, 10, 0x927C0⟩
/-- Table 03-7: RO, `BKB_PEp_END`. -/
def BKB_PEp_END : Row := ⟨0x80018, [⟨0x100, 0, 0, 4⟩], 0, 1, .ro, 0x0, 0, 0x1⟩
/-- Table 03-7: RO, `BKB_PEp_PRESENT`. -/
def BKB_PEp_PRESENT : Row := ⟨0x80018, [⟨0x100, 0, 0, 4⟩], 1, 1, .ro, 0x0, 0, 0x1⟩
/-- Table 03-7: RO, `BKB_PEp_RX_GOOD`. -/
def BKB_PEp_RX_GOOD : Row := ⟨0x80018, [⟨0x100, 0, 0, 4⟩], 2, 4, .ro, 0x0, 0, 0xF⟩
/-- Table 03-7: RO, `BKB_PEp_NB_GOOD`. -/
def BKB_PEp_NB_GOOD : Row := ⟨0x80018, [⟨0x100, 0, 0, 4⟩], 6, 4, .ro, 0x0, 0, 0xF⟩
/-- Table 03-7: RO, `BKB_PEp_IN_USE`. -/
def BKB_PEp_IN_USE : Row := ⟨0x80018, [⟨0x100, 0, 0, 4⟩], 10, 4, .ro, 0x0, 0, 0xF⟩
/-- Table 03-7: RO, `BKB_PEp_TABLE`. -/
def BKB_PEp_TABLE : Row := ⟨0x80018, [⟨0x100, 0, 0, 4⟩], 14, 3, .ro, 0x7, 0, 0x7⟩
/-- Table 03-7: RO, `BKB_PEp_ARMED`. -/
def BKB_PEp_ARMED : Row := ⟨0x80018, [⟨0x100, 0, 0, 4⟩], 17, 1, .ro, 0x0, 0, 0x1⟩
/-- Table 03-7: RO, `BKB_PEp_BANK`. -/
def BKB_PEp_BANK : Row := ⟨0x80018, [⟨0x100, 0, 0, 4⟩], 18, 1, .ro, 0x0, 0, 0x1⟩
/-- Table 03-7: RO, `BKB_PEp_FORCED`. -/
def BKB_PEp_FORCED : Row := ⟨0x80018, [⟨0x100, 0, 0, 4⟩], 19, 4, .ro, 0x0, 0, 0xF⟩
/-- Table 03-7: RC, `BKB_PEp_Ll_BURST`. -/
def BKB_PEp_Ll_BURST : Row := ⟨0x80020, [⟨0x100, 0, 0, 4⟩, ⟨0x8, 0, 0, 4⟩], 0, 16, .rc, 0x0, 0, 0xFFFF⟩
/-- Table 03-7: RC, `BKB_PEp_Ll_QLOSS`. -/
def BKB_PEp_Ll_QLOSS : Row := ⟨0x80020, [⟨0x100, 0, 0, 4⟩, ⟨0x8, 0, 0, 4⟩], 16, 16, .rc, 0x0, 0, 0xFFFF⟩
/-- Table 03-7: RC, `BKB_PEp_Ll_DWERR`. -/
def BKB_PEp_Ll_DWERR : Row := ⟨0x80020, [⟨0x100, 0, 0, 4⟩, ⟨0x8, 0, 0, 4⟩], 32, 16, .rc, 0x0, 0, 0xFFFF⟩
/-- Table 03-7: RO, `BKB_PEp_Ll_DEGRADED`. -/
def BKB_PEp_Ll_DEGRADED : Row := ⟨0x80020, [⟨0x100, 0, 0, 4⟩, ⟨0x8, 0, 0, 4⟩], 48, 1, .ro, 0x0, 0, 0x1⟩
/-- Table 03-7: RC, `BKB_PEp_LANEDROP`. -/
def BKB_PEp_LANEDROP : Row := ⟨0x80040, [⟨0x100, 0, 0, 4⟩], 0, 32, .rc, 0x0, 0, 0xFFFFFFFF⟩
/-- Table 03-7: RC, `BKB_PEp_FLIPS`. -/
def BKB_PEp_FLIPS : Row := ⟨0x80040, [⟨0x100, 0, 0, 4⟩], 32, 32, .rc, 0x0, 0, 0xFFFFFFFF⟩
/-- Table 03-7: RW, `BKB_HOP_LIMIT`. -/
def BKB_HOP_LIMIT : Row := ⟨0x80400, [], 0, 16, .rw, 0x104, 130, 0x3FF⟩
/-- Table 03-7: RW, `BKB_LSF_PERIOD`. -/
def BKB_LSF_PERIOD : Row := ⟨0x80400, [], 16, 16, .rw, 0x32, 10, 0x3E8⟩
/-- Table 03-7: RC, `BKB_DUP_DISC`. -/
def BKB_DUP_DISC : Row := ⟨0x80408, [], 0, 32, .rc, 0x0, 0, 0xFFFFFFFF⟩
/-- Table 03-7: RC, `BKB_STALE_DISC`. -/
def BKB_STALE_DISC : Row := ⟨0x80408, [], 32, 32, .rc, 0x0, 0, 0xFFFFFFFF⟩
/-- Table 03-7: RC, `BKB_HOPLIM_DISC`. -/
def BKB_HOPLIM_DISC : Row := ⟨0x80410, [], 0, 32, .rc, 0x0, 0, 0xFFFFFFFF⟩
/-- Table 03-7: RC, `BKB_RETURNED`. -/
def BKB_RETURNED : Row := ⟨0x80410, [], 32, 32, .rc, 0x0, 0, 0xFFFFFFFF⟩
/-- Table 03-7: RC, `BKB_LOOPED_DISC`. -/
def BKB_LOOPED_DISC : Row := ⟨0x80418, [], 0, 32, .rc, 0x0, 0, 0xFFFFFFFF⟩
/-- Table 03-7: RC, `BKB_HDR_DISC`. -/
def BKB_HDR_DISC : Row := ⟨0x80418, [], 32, 32, .rc, 0x0, 0, 0xFFFFFFFF⟩
/-- Table 03-7: RO, `BKB_DW_n_START`. -/
def BKB_DW_n_START : Row := ⟨0x80500, [⟨0x10, 0, 0, 16⟩], 0, 64, .ro, 0x0, 0, 0xFFFFFFFFFFFFFFFF⟩
/-- Table 03-7: RO, `BKB_DW_n_DUR`. -/
def BKB_DW_n_DUR : Row := ⟨0x80508, [⟨0x10, 0, 0, 16⟩], 0, 32, .ro, 0x0, 0, 0xFFFFFFFF⟩
/-- Table 03-7: RO, `BKB_DW_n_MASK`. -/
def BKB_DW_n_MASK : Row := ⟨0x80508, [⟨0x10, 0, 0, 16⟩], 32, 4, .ro, 0x0, 0, 0xF⟩
/-- Table 03-7: RO, `BKB_DW_n_ACTIVE`. -/
def BKB_DW_n_ACTIVE : Row := ⟨0x80508, [⟨0x10, 0, 0, 16⟩], 36, 1, .ro, 0x0, 0, 0x1⟩
/-- Table 03-7: RO, `BKB_DW_n_VALID`. -/
def BKB_DW_n_VALID : Row := ⟨0x80508, [⟨0x10, 0, 0, 16⟩], 37, 1, .ro, 0x0, 0, 0x1⟩
/-- Table 03-7: RO, `BKB_DW_n_SRC`. -/
def BKB_DW_n_SRC : Row := ⟨0x80508, [⟨0x10, 0, 0, 16⟩], 38, 1, .ro, 0x0, 0, 0x1⟩
/-- Table 03-7: RO, `BKB_DW_n_EVENT`. -/
def BKB_DW_n_EVENT : Row := ⟨0x80508, [⟨0x10, 0, 0, 16⟩], 40, 16, .ro, 0x0, 0, 0xFFFF⟩

/-! Block TCY, Table 04-9. -/

/-- Table 04-9: RO, `TCY_CYCLE_NS`. -/
def TCY_CYCLE_NS : Row := ⟨0xA0000, [], 0, 32, .ro, 0xF4240, 0, 0xFFFFFFFF⟩
/-- Table 04-9: RO, `TCY_CFG_ID`. -/
def TCY_CFG_ID : Row := ⟨0xA0000, [], 48, 16, .ro, 0x0, 0, 0xFFFF⟩
/-- Table 04-9: RO, `TCY_MSG_START_NS`. -/
def TCY_MSG_START_NS : Row := ⟨0xA0008, [], 0, 32, .ro, 0x927C0, 0, 0xFFFFFFFF⟩
/-- Table 04-9: RO, `TCY_CGUARD_NS`. -/
def TCY_CGUARD_NS : Row := ⟨0xA0008, [], 32, 32, .ro, 0x2710, 0, 0xFFFFFFFF⟩
/-- Table 04-9: RO, `TCY_SLOT_GUARD_NS`. -/
def TCY_SLOT_GUARD_NS : Row := ⟨0xA0010, [], 0, 16, .ro, 0xFA, 0, 0xFFFF⟩
/-- Table 04-9: RW, `TCY_INTEG_CYCLES`. -/
def TCY_INTEG_CYCLES : Row := ⟨0xA0010, [], 16, 8, .rw, 0x2, 1, 0x10⟩
/-- Table 04-9: RW, `TCY_LOST_CYCLES`. -/
def TCY_LOST_CYCLES : Row := ⟨0xA0010, [], 24, 8, .rw, 0xA, 10, 0xFF⟩
/-- Table 04-9: RO, `TCY_STATE`. -/
def TCY_STATE : Row := ⟨0xA0018, [], 0, 4, .ro, 0x0, 0, 0xF⟩
/-- Table 04-9: RO, `TCY_SLOT_BANK`. -/
def TCY_SLOT_BANK : Row := ⟨0xA0018, [], 4, 1, .ro, 0x0, 0, 0x1⟩
/-- Table 04-9: RO, `TCY_SCHED_ARMED`. -/
def TCY_SCHED_ARMED : Row := ⟨0xA0018, [], 5, 1, .ro, 0x0, 0, 0x1⟩
/-- Table 04-9: RO reset Strap, `TCY_COLD_CAP`. -/
def TCY_COLD_CAP : Row := ⟨0xA0018, [], 6, 1, .ro, 0x0, 0, 0x1⟩
/-- Table 04-9: RO, `TCY_LEAD_LOST`. -/
def TCY_LEAD_LOST : Row := ⟨0xA0018, [], 7, 1, .ro, 0x0, 0, 0x1⟩
/-- Table 04-9: RO, `TCY_SUCC_RANK`. -/
def TCY_SUCC_RANK : Row := ⟨0xA0018, [], 8, 3, .ro, 0x0, 0, 0x7⟩
/-- Table 04-9: RO, `TCY_COLD_EXCESS`. -/
def TCY_COLD_EXCESS : Row := ⟨0xA0018, [], 11, 1, .ro, 0x0, 0, 0x1⟩
/-- Table 04-9: RO, `TCY_CYCLE_NUM`. -/
def TCY_CYCLE_NUM : Row := ⟨0xA0018, [], 32, 32, .ro, 0x0, 0, 0xFFFFFFFF⟩
/-- Table 04-9: RO, `TCY_ALIGN_ERR_NS`. -/
def TCY_ALIGN_ERR_NS : Row := ⟨0xA0020, [], 0, 32, .ro, 0x0, 0, 0xFFFFFFFF⟩
/-- Table 04-9: RO, `TCY_LEAD_NODE`. -/
def TCY_LEAD_NODE : Row := ⟨0xA0020, [], 32, 16, .ro, 0x0, 0, 0xFFFF⟩
/-- Table 04-9: RO, `TCY_SCHED_ID`. -/
def TCY_SCHED_ID : Row := ⟨0xA0020, [], 48, 16, .ro, 0x0, 0, 0xFFFF⟩
/-- Table 04-9: RO, `TCY_LEAD_UID`. -/
def TCY_LEAD_UID : Row := ⟨0xA0028, [], 0, 64, .ro, 0x0, 0, 0xFFFFFFFFFFFFFFFF⟩
/-- Table 04-9: RC, `TCY_SKIP`. -/
def TCY_SKIP : Row := ⟨0xA0030, [], 0, 32, .rc, 0x0, 0, 0xFFFFFFFF⟩
/-- Table 04-9: RC, `TCY_LATE_PUBLISH`. -/
def TCY_LATE_PUBLISH : Row := ⟨0xA0030, [], 32, 32, .rc, 0x0, 0, 0xFFFFFFFF⟩
/-- Table 04-9: RC, `TCY_PN_MISSED`. -/
def TCY_PN_MISSED : Row := ⟨0xA0038, [], 0, 32, .rc, 0x0, 0, 0xFFFFFFFF⟩
/-- Table 04-9: RC, `TCY_MSG_DEFER`. -/
def TCY_MSG_DEFER : Row := ⟨0xA0038, [], 32, 32, .rc, 0x0, 0, 0xFFFFFFFF⟩
/-- Table 04-9: RC, `TCY_MSG_NOFIT`. -/
def TCY_MSG_NOFIT : Row := ⟨0xA0040, [], 0, 32, .rc, 0x0, 0, 0xFFFFFFFF⟩
/-- Table 04-9: RC, `TCY_SILENCED`. -/
def TCY_SILENCED : Row := ⟨0xA0040, [], 32, 16, .rc, 0x0, 0, 0xFFFF⟩
/-- Table 04-9: RC, `TCY_SCHED_MISMATCH`. -/
def TCY_SCHED_MISMATCH : Row := ⟨0xA0040, [], 48, 16, .rc, 0x0, 0, 0xFFFF⟩
/-- Table 04-9: RC, `TCY_STARTUP_TX`. -/
def TCY_STARTUP_TX : Row := ⟨0xA0048, [], 0, 16, .rc, 0x0, 0, 0xFFFF⟩
/-- Table 04-9: RC, `TCY_STARTUP_LOST`. -/
def TCY_STARTUP_LOST : Row := ⟨0xA0048, [], 16, 16, .rc, 0x0, 0, 0xFFFF⟩
/-- Table 04-9: RC, `TCY_FOREIGN_PN`. -/
def TCY_FOREIGN_PN : Row := ⟨0xA0048, [], 32, 16, .rc, 0x0, 0, 0xFFFF⟩
/-- Table 04-9: RC, `TCY_SUCCESSIONS`. -/
def TCY_SUCCESSIONS : Row := ⟨0xA0048, [], 48, 16, .rc, 0x0, 0, 0xFFFF⟩
/-- Table 04-9: RC, `TCY_CFG_MISMATCH`. -/
def TCY_CFG_MISMATCH : Row := ⟨0xA0050, [], 0, 16, .rc, 0x0, 0, 0xFFFF⟩
/-- Table 04-9: RC, `TCY_STARTUP_SEEN`. -/
def TCY_STARTUP_SEEN : Row := ⟨0xA0050, [], 16, 16, .rc, 0x0, 0, 0xFFFF⟩
/-- Table 04-9: RC, `TCY_WIN_DISC_k_0`. -/
def TCY_WIN_DISC_k_0 : Row := ⟨0xA0100, [⟨0x8, 0, 0, 32⟩], 0, 16, .rc, 0x0, 0, 0xFFFF⟩
/-- Table 04-9: RC, `TCY_WIN_DISC_k_1`. -/
def TCY_WIN_DISC_k_1 : Row := ⟨0xA0100, [⟨0x8, 0, 0, 32⟩], 16, 16, .rc, 0x0, 0, 0xFFFF⟩
/-- Table 04-9: RC, `TCY_WIN_DISC_k_2`. -/
def TCY_WIN_DISC_k_2 : Row := ⟨0xA0100, [⟨0x8, 0, 0, 32⟩], 32, 16, .rc, 0x0, 0, 0xFFFF⟩
/-- Table 04-9: RC, `TCY_WIN_DISC_k_3`. -/
def TCY_WIN_DISC_k_3 : Row := ⟨0xA0100, [⟨0x8, 0, 0, 32⟩], 48, 16, .rc, 0x0, 0, 0xFFFF⟩

/-! Block HST, Table 05-9. -/

/-- Table 05-9: RO, `HST_EPOCH`. -/
def HST_EPOCH : Row := ⟨0xB0000, [], 0, 16, .ro, 0x0, 0, 0xFFFF⟩
/-- Table 05-9: RO, `HST_PEND_EPOCH`. -/
def HST_PEND_EPOCH : Row := ⟨0xB0000, [], 16, 16, .ro, 0x0, 0, 0xFFFF⟩
/-- Table 05-9: RO, `HST_HOIST_ID`. -/
def HST_HOIST_ID : Row := ⟨0xB0000, [], 32, 16, .ro, 0x0, 0, 0xFFFF⟩
/-- Table 05-9: RO, `HST_STATE`. -/
def HST_STATE : Row := ⟨0xB0000, [], 48, 4, .ro, 0x0, 0, 0xF⟩
/-- Table 05-9: RO, `HST_LEAD_STATE`. -/
def HST_LEAD_STATE : Row := ⟨0xB0000, [], 52, 4, .ro, 0x0, 0, 0xF⟩
/-- Table 05-9: RW, `HST_DEBOUNCE_MS`. -/
def HST_DEBOUNCE_MS : Row := ⟨0xB0008, [], 0, 6, .rw, 0xA, 1, 0x32⟩
/-- Table 05-9: RW, `HST_JOIN_HOLD`. -/
def HST_JOIN_HOLD : Row := ⟨0xB0008, [], 8, 8, .rw, 0x4, 1, 0x40⟩
/-- Table 05-9: RW, `HST_COLLECT_PHASES`. -/
def HST_COLLECT_PHASES : Row := ⟨0xB0008, [], 16, 4, .rw, 0x1, 1, 0xF⟩
/-- Table 05-9: RW, `HST_RETRIES`. -/
def HST_RETRIES : Row := ⟨0xB0008, [], 20, 4, .rw, 0x3, 0, 0xF⟩
/-- Table 05-9: RW, `HST_PROV_EN`. -/
def HST_PROV_EN : Row := ⟨0xB0008, [], 24, 1, .rw, 0x1, 0, 0x1⟩
/-- Table 05-9: RW, `HST_DELAY_MAX_NS`. -/
def HST_DELAY_MAX_NS : Row := ⟨0xB0008, [], 32, 16, .rw, 0x190, 100, 0x7D0⟩
/-- Table 05-9: RO, `HST_NODE_NUM`. -/
def HST_NODE_NUM : Row := ⟨0xB0010, [], 0, 8, .ro, 0x0, 0, 0xFF⟩
/-- Table 05-9: RO, `HST_VEH_NUM`. -/
def HST_VEH_NUM : Row := ⟨0xB0010, [], 8, 8, .ro, 0x0, 0, 0xFF⟩
/-- Table 05-9: RO, `HST_ORIENT`. -/
def HST_ORIENT : Row := ⟨0xB0010, [], 16, 1, .ro, 0x0, 0, 0x1⟩
/-- Table 05-9: RO, `HST_OPEN_E1`. -/
def HST_OPEN_E1 : Row := ⟨0xB0010, [], 17, 1, .ro, 0x0, 0, 0x1⟩
/-- Table 05-9: RO, `HST_OPEN_E2`. -/
def HST_OPEN_E2 : Row := ⟨0xB0010, [], 18, 1, .ro, 0x0, 0, 0x1⟩
/-- Table 05-9: RO, `HST_MULTI_CAB`. -/
def HST_MULTI_CAB : Row := ⟨0xB0010, [], 19, 1, .ro, 0x0, 0, 0x1⟩
/-- Table 05-9: RO, `HST_INCOMPLETE`. -/
def HST_INCOMPLETE : Row := ⟨0xB0010, [], 20, 1, .ro, 0x0, 0, 0x1⟩
/-- Table 05-9: RO reset Identity, `HST_UID`. -/
def HST_UID : Row := ⟨0xB0018, [], 0, 64, .ro, 0x0, 0, 0xFFFFFFFFFFFFFFFF⟩
/-- Table 05-9: RO reset Identity, `HST_VEH_ID`. -/
def HST_VEH_ID : Row := ⟨0xB0020, [], 0, 64, .ro, 0x0, 0, 0xFFFFFFFFFFFFFFFF⟩
/-- Table 05-9: RO, `HST_CLASS`. -/
def HST_CLASS : Row := ⟨0xB0028, [], 0, 16, .ro, 0x0, 0, 0xFFFF⟩
/-- Table 05-9: RO, `HST_DEMAND_ID`. -/
def HST_DEMAND_ID : Row := ⟨0xB0028, [], 16, 16, .ro, 0x0, 0, 0xFFFF⟩
/-- Table 05-9: RC, `HST_COMMITS`. -/
def HST_COMMITS : Row := ⟨0xB0030, [], 0, 16, .rc, 0x0, 0, 0xFFFF⟩
/-- Table 05-9: RC, `HST_STRIKES`. -/
def HST_STRIKES : Row := ⟨0xB0030, [], 16, 16, .rc, 0x0, 0, 0xFFFF⟩
/-- Table 05-9: RC, `HST_PROV_RX`. -/
def HST_PROV_RX : Row := ⟨0xB0030, [], 32, 16, .rc, 0x0, 0, 0xFFFF⟩
/-- Table 05-9: RC, `HST_PROV_DISC`. -/
def HST_PROV_DISC : Row := ⟨0xB0030, [], 48, 16, .rc, 0x0, 0, 0xFFFF⟩
/-- Table 05-9: RC, `HST_LATE_RECORDS`. -/
def HST_LATE_RECORDS : Row := ⟨0xB0038, [], 0, 16, .rc, 0x0, 0, 0xFFFF⟩
/-- Table 05-9: RC, `HST_LATE_SWAP`. -/
def HST_LATE_SWAP : Row := ⟨0xB0038, [], 16, 16, .rc, 0x0, 0, 0xFFFF⟩
/-- Table 05-9: RC, `HST_FOREIGN_HC`. -/
def HST_FOREIGN_HC : Row := ⟨0xB0038, [], 32, 16, .rc, 0x0, 0, 0xFFFF⟩
/-- Table 05-9: RC, `HST_OVER_LIMIT`. -/
def HST_OVER_LIMIT : Row := ⟨0xB0038, [], 48, 16, .rc, 0x0, 0, 0xFFFF⟩
/-- Table 05-9: RC, `HST_STRIKE_IGNORED`. -/
def HST_STRIKE_IGNORED : Row := ⟨0xB0040, [], 0, 16, .rc, 0x0, 0, 0xFFFF⟩
/-- Table 05-9: RC, `HST_HC_DISC`. -/
def HST_HC_DISC : Row := ⟨0xB0040, [], 16, 16, .rc, 0x0, 0, 0xFFFF⟩
/-- Table 05-9: RC, `HST_YIELDS`. -/
def HST_YIELDS : Row := ⟨0xB0040, [], 32, 16, .rc, 0x0, 0, 0xFFFF⟩
/-- Table 05-9: RC, `HST_UNPLACED`. -/
def HST_UNPLACED : Row := ⟨0xB0040, [], 48, 16, .rc, 0x0, 0, 0xFFFF⟩
/-- Table 05-9: RO, `HST_LAST_TRIGGER_CYCLE`. -/
def HST_LAST_TRIGGER_CYCLE : Row := ⟨0xB0048, [], 0, 32, .ro, 0x0, 0, 0xFFFFFFFF⟩
/-- Table 05-9: RO, `HST_LAST_REASON`. -/
def HST_LAST_REASON : Row := ⟨0xB0048, [], 32, 8, .ro, 0x0, 0, 0xFF⟩
/-- Table 05-9: RO, `HST_LAST_SWAP_CYCLE`. -/
def HST_LAST_SWAP_CYCLE : Row := ⟨0xB0050, [], 0, 32, .ro, 0x0, 0, 0xFFFFFFFF⟩
/-- Table 05-9: RO, `HST_PREV_EPOCH`. -/
def HST_PREV_EPOCH : Row := ⟨0xB0050, [], 32, 16, .ro, 0x0, 0, 0xFFFF⟩
/-- Table 05-9: RO, `HST_PROPOSED_LAST`. -/
def HST_PROPOSED_LAST : Row := ⟨0xB0050, [], 48, 16, .ro, 0x0, 0, 0xFFFF⟩

/-! Block TIM, Table 06-9. -/

/-- Table 06-9: RO, `TIM_SEC`. -/
def TIM_SEC : Row := ⟨0x40000, [], 0, 48, .ro, 0x0, 0, 0xFFFFFFFFFFFF⟩
/-- Table 06-9: RO, `TIM_NS_LATCH`. -/
def TIM_NS_LATCH : Row := ⟨0x40008, [], 0, 30, .ro, 0x0, 0, 0x3FFFFFFF⟩
/-- Table 06-9: RO, `TIM_FRAC_LATCH`. -/
def TIM_FRAC_LATCH : Row := ⟨0x40008, [], 32, 32, .ro, 0x0, 0, 0xFFFFFFFF⟩
/-- Table 06-9: RO, `TIM_RATE`. -/
def TIM_RATE : Row := ⟨0x40010, [], 0, 32, .ro, 0x0, 0, 0xFFFFFFFF⟩
/-- Table 06-9: RO, `TIM_HOLD_FREQ`. -/
def TIM_HOLD_FREQ : Row := ⟨0x40010, [], 32, 32, .ro, 0x0, 0, 0xFFFFFFFF⟩
/-- Table 06-9: RW, `TIM_SLEW_PPB`. -/
def TIM_SLEW_PPB : Row := ⟨0x40018, [], 0, 14, .rw, 0x2710, 1, 0x2710⟩
/-- Table 06-9: RW, `TIM_FREEZE`. -/
def TIM_FREEZE : Row := ⟨0x40018, [], 16, 1, .rw, 0x0, 0, 0x1⟩
/-- Table 06-9: RW, `TIM_JUMP_NS`. -/
def TIM_JUMP_NS : Row := ⟨0x40020, [], 0, 30, .rw, 0x3E8, 100, 0x3B9ACA00⟩
/-- Table 06-9: RW, `TIM_REFUSE_CONSIST`. -/
def TIM_REFUSE_CONSIST : Row := ⟨0x40020, [], 32, 8, .rw, 0x0, 0, 0xFF⟩
/-- Table 06-9: RO, `TIM_QUALITY`. -/
def TIM_QUALITY : Row := ⟨0x40028, [], 0, 3, .ro, 0x2, 0, 0x7⟩
/-- Table 06-9: RO, `TIM_REFUSING`. -/
def TIM_REFUSING : Row := ⟨0x40028, [], 3, 1, .ro, 0x0, 0, 0x1⟩
/-- Table 06-9: RO, `TIM_SOURCE`. -/
def TIM_SOURCE : Row := ⟨0x40028, [], 8, 8, .ro, 0xFE, 0, 0xFF⟩
/-- Table 06-9: RO, `TIM_STEP_ARMED`. -/
def TIM_STEP_ARMED : Row := ⟨0x40028, [], 16, 1, .ro, 0x0, 0, 0x1⟩
/-- Table 06-9: RO, `TIM_STEP_CYCLE`. -/
def TIM_STEP_CYCLE : Row := ⟨0x40028, [], 32, 32, .ro, 0x0, 0, 0xFFFFFFFF⟩
/-- Table 06-9: RO, `TIM_STEP_NS`. -/
def TIM_STEP_NS : Row := ⟨0x40030, [], 0, 64, .ro, 0x0, 0, 0xFFFFFFFFFFFFFFFF⟩
/-- Table 06-9: RO, `TIM_REFUSED_NS`. -/
def TIM_REFUSED_NS : Row := ⟨0x40038, [], 0, 32, .ro, 0x0, 0, 0xFFFFFFFF⟩
/-- Table 06-9: RO, `TIM_CONSIST_COUNT`. -/
def TIM_CONSIST_COUNT : Row := ⟨0x40038, [], 32, 16, .ro, 0x0, 0, 0xFFFF⟩
/-- Table 06-9: RW, `TIM_REF_PRIO`. -/
def TIM_REF_PRIO : Row := ⟨0x40040, [], 0, 20, .rw, 0xF0432, 0, 0xFFFFF⟩
/-- Table 06-9: RO, `TIM_REF_ACTIVE`. -/
def TIM_REF_ACTIVE : Row := ⟨0x40040, [], 20, 4, .ro, 0xF, 0, 0xF⟩
/-- Table 06-9: RW, `TIM_AUTOSTEP_NS`. -/
def TIM_AUTOSTEP_NS : Row := ⟨0x40048, [], 0, 30, .rw, 0xF4240, 1000, 0x3B9ACA00⟩
/-- Table 06-9: RW, `TIM_AUTOSTEP_EN`. -/
def TIM_AUTOSTEP_EN : Row := ⟨0x40048, [], 32, 1, .rw, 0x1, 0, 0x1⟩
/-- Table 06-9: RW, `TIM_AUTOSTEP_LEAD`. -/
def TIM_AUTOSTEP_LEAD : Row := ⟨0x40048, [], 40, 8, .rw, 0x8, 4, 0xFF⟩
/-- Table 06-9: RW, `TIM_DX_PERIOD_MS`. -/
def TIM_DX_PERIOD_MS : Row := ⟨0x40050, [], 0, 10, .rw, 0xA, 1, 0x3E8⟩
/-- Table 06-9: RW, `TIM_PPSA_POL`. -/
def TIM_PPSA_POL : Row := ⟨0x40058, [], 0, 1, .rw, 0x0, 0, 0x1⟩
/-- Table 06-9: RW, `TIM_PPSA_TOD_EN`. -/
def TIM_PPSA_TOD_EN : Row := ⟨0x40058, [], 1, 1, .rw, 0x1, 0, 0x1⟩
/-- Table 06-9: RW, `TIM_PPSB_POL`. -/
def TIM_PPSB_POL : Row := ⟨0x40058, [], 2, 1, .rw, 0x0, 0, 0x1⟩
/-- Table 06-9: RW, `TIM_PPSB_TOD_EN`. -/
def TIM_PPSB_TOD_EN : Row := ⟨0x40058, [], 3, 1, .rw, 0x1, 0, 0x1⟩
/-- Table 06-9: RW, `TIM_PPSA_COMP_NS`. -/
def TIM_PPSA_COMP_NS : Row := ⟨0x40058, [], 16, 16, .rw, 0x0, 0, 0xFFFF⟩
/-- Table 06-9: RW, `TIM_PPSB_COMP_NS`. -/
def TIM_PPSB_COMP_NS : Row := ⟨0x40058, [], 32, 16, .rw, 0x0, 0, 0xFFFF⟩
/-- Table 06-9: RW, `TIM_PPSO_EN`. -/
def TIM_PPSO_EN : Row := ⟨0x40060, [], 0, 1, .rw, 0x0, 0, 0x1⟩
/-- Table 06-9: RW, `TIM_PPSO_HOLDOVER`. -/
def TIM_PPSO_HOLDOVER : Row := ⟨0x40060, [], 1, 1, .rw, 0x1, 0, 0x1⟩
/-- Table 06-9: RW, `TIM_PPSO_WIDTH_US`. -/
def TIM_PPSO_WIDTH_US : Row := ⟨0x40060, [], 8, 24, .rw, 0x186A0, 1, 0xDBBA0⟩
/-- Table 06-9: RW, `TIM_PPSO_COMP_NS`. -/
def TIM_PPSO_COMP_NS : Row := ⟨0x40060, [], 32, 16, .rw, 0x0, 0, 0xFFFF⟩
/-- Table 06-9: RW, `TIM_PTP_DOMAIN`. -/
def TIM_PTP_DOMAIN : Row := ⟨0x40068, [], 0, 8, .rw, 0x0, 0, 0x7F⟩
/-- Table 06-9: RW, `TIM_PTP_UDP`. -/
def TIM_PTP_UDP : Row := ⟨0x40068, [], 8, 1, .rw, 0x0, 0, 0x1⟩
/-- Table 06-9: RW, `TIM_PTP_LOG_SYNC`. -/
def TIM_PTP_LOG_SYNC : Row := ⟨0x40068, [], 12, 4, .rw, 0x0, 0, 0xF⟩
/-- Table 06-9: RW, `TIM_PTP_LOG_ANN`. -/
def TIM_PTP_LOG_ANN : Row := ⟨0x40068, [], 16, 4, .rw, 0x0, 0, 0x3⟩
/-- Table 06-9: RW, `TIM_PTP_ANN_TMO`. -/
def TIM_PTP_ANN_TMO : Row := ⟨0x40068, [], 20, 4, .rw, 0x3, 2, 0xA⟩
/-- Table 06-9: RW, `TIM_PTP_LOG_MINDREQ`. -/
def TIM_PTP_LOG_MINDREQ : Row := ⟨0x40068, [], 24, 4, .rw, 0x0, 0, 0xF⟩
/-- Table 06-9: RW, `TIM_PTP_PRIO1`. -/
def TIM_PTP_PRIO1 : Row := ⟨0x40068, [], 32, 8, .rw, 0x80, 0, 0xFF⟩
/-- Table 06-9: RW, `TIM_PTP_PRIO2`. -/
def TIM_PTP_PRIO2 : Row := ⟨0x40068, [], 40, 8, .rw, 0x80, 0, 0xFF⟩
/-- Table 06-9: RW, `TIM_PTP_EN`. -/
def TIM_PTP_EN : Row := ⟨0x40070, [], 0, 48, .rw, 0x0, 0, 0xFFFFFFFFFFFF⟩
/-- Table 06-9: RW, `TIM_PTP_SLAVE_EN`. -/
def TIM_PTP_SLAVE_EN : Row := ⟨0x40078, [], 0, 48, .rw, 0x0, 0, 0xFFFFFFFFFFFF⟩
/-- Table 06-9: RC, `TIM_REFUSALS`. -/
def TIM_REFUSALS : Row := ⟨0x40080, [], 0, 16, .rc, 0x0, 0, 0xFFFF⟩
/-- Table 06-9: RC, `TIM_STEPS`. -/
def TIM_STEPS : Row := ⟨0x40080, [], 16, 16, .rc, 0x0, 0, 0xFFFF⟩
/-- Table 06-9: RC, `TIM_AUTOSTEPS`. -/
def TIM_AUTOSTEPS : Row := ⟨0x40080, [], 32, 16, .rc, 0x0, 0, 0xFFFF⟩
/-- Table 06-9: RC, `TIM_REF_SWITCHES`. -/
def TIM_REF_SWITCHES : Row := ⟨0x40080, [], 48, 16, .rc, 0x0, 0, 0xFFFF⟩
/-- Table 06-9: RC, `TIM_TOD_BAD`. -/
def TIM_TOD_BAD : Row := ⟨0x40088, [], 0, 32, .rc, 0x0, 0, 0xFFFFFFFF⟩
/-- Table 06-9: RC, `TIM_PN_NODELAY`. -/
def TIM_PN_NODELAY : Row := ⟨0x40088, [], 32, 32, .rc, 0x0, 0, 0xFFFFFFFF⟩
/-- Table 06-9: RO, `TIM_REF_OFFSET_NS`. -/
def TIM_REF_OFFSET_NS : Row := ⟨0x40090, [], 0, 32, .ro, 0x0, 0, 0xFFFFFFFF⟩
/-- Table 06-9: RO, `TIM_REFr_STATE`. -/
def TIM_REFr_STATE : Row := ⟨0x40100, [⟨0x10, 0, 2, 3⟩], 0, 3, .ro, 0x0, 0, 0x7⟩
/-- Table 06-9: RO, `TIM_REFr_PHASE_NS`. -/
def TIM_REFr_PHASE_NS : Row := ⟨0x40100, [⟨0x10, 0, 2, 3⟩], 32, 32, .ro, 0x0, 0, 0xFFFFFFFF⟩
/-- Table 06-9: RO, `TIM_REFr_FREQ_PPT`. -/
def TIM_REFr_FREQ_PPT : Row := ⟨0x40108, [⟨0x10, 0, 2, 3⟩], 0, 32, .ro, 0x0, 0, 0xFFFFFFFF⟩
/-- Table 06-9: RO, `TIM_REFr_STABLE_S`. -/
def TIM_REFr_STABLE_S : Row := ⟨0x40108, [⟨0x10, 0, 2, 3⟩], 32, 32, .ro, 0x0, 0, 0xFFFFFFFF⟩
/-- Table 06-9: RO, `TIM_DLY_PEp_Ll`. -/
def TIM_DLY_PEp_Ll : Row := ⟨0x40200, [⟨0x20, 0, 0, 4⟩, ⟨0x8, 0, 0, 4⟩], 0, 32, .ro, 0x0, 0, 0xFFFFFFFF⟩
/-- Table 06-9: RW, `TIM_ASYM_PEp_Ll`. -/
def TIM_ASYM_PEp_Ll : Row := ⟨0x40200, [⟨0x20, 0, 0, 4⟩, ⟨0x8, 0, 0, 4⟩], 32, 16, .rw, 0x0, 0, 0xFFFF⟩
/-- Table 06-9: RO, `TIM_DLY_PEp_Ll_VALID`. -/
def TIM_DLY_PEp_Ll_VALID : Row := ⟨0x40200, [⟨0x20, 0, 0, 4⟩, ⟨0x8, 0, 0, 4⟩], 48, 1, .ro, 0x0, 0, 0x1⟩
/-- Table 06-9: RC, `TIM_DX_FAIL_PEp_Ll`. -/
def TIM_DX_FAIL_PEp_Ll : Row := ⟨0x40200, [⟨0x20, 0, 0, 4⟩, ⟨0x8, 0, 0, 4⟩], 56, 8, .rc, 0x0, 0, 0xFF⟩
/-- Table 06-9: RW, `TIM_QSGk_RX_NS`. -/
def TIM_QSGk_RX_NS : Row := ⟨0x40300, [⟨0x8, 0, 0, 12⟩], 0, 16, .rw, 0x0, 0, 0xFFFF⟩
/-- Table 06-9: RW, `TIM_QSGk_TX_NS`. -/
def TIM_QSGk_TX_NS : Row := ⟨0x40300, [⟨0x8, 0, 0, 12⟩], 16, 16, .rw, 0x0, 0, 0xFFFF⟩

/-! Block POS, Table 06-10. -/

/-- Table 06-10: RW, `POS_ODO_CAP`. -/
def POS_ODO_CAP : Row := ⟨0x50000, [], 0, 1, .rw, 0x0, 0, 0x1⟩
/-- Table 06-10: RO, `POS_ODO_DESIG`. -/
def POS_ODO_DESIG : Row := ⟨0x50000, [], 1, 1, .ro, 0x0, 0, 0x1⟩
/-- Table 06-10: RW, `POS_ODO_PRIO`. -/
def POS_ODO_PRIO : Row := ⟨0x50000, [], 4, 4, .rw, 0x8, 0, 0xF⟩
/-- Table 06-10: RO, `POS_VALID`. -/
def POS_VALID : Row := ⟨0x50000, [], 8, 1, .ro, 0x0, 0, 0x1⟩
/-- Table 06-10: RO, `POS_VEL_VALID`. -/
def POS_VEL_VALID : Row := ⟨0x50000, [], 9, 1, .ro, 0x0, 0, 0x1⟩
/-- Table 06-10: RO, `POS_QUALITY`. -/
def POS_QUALITY : Row := ⟨0x50000, [], 10, 6, .ro, 0x0, 0, 0x3F⟩
/-- Table 06-10: RO, `POS_POSITION`. -/
def POS_POSITION : Row := ⟨0x50008, [], 0, 64, .ro, 0x0, 0, 0xFFFFFFFFFFFFFFFF⟩
/-- Table 06-10: RO, `POS_VELOCITY`. -/
def POS_VELOCITY : Row := ⟨0x50010, [], 0, 64, .ro, 0x0, 0, 0xFFFFFFFFFFFFFFFF⟩
/-- Table 06-10: RO, `POS_TIME`. -/
def POS_TIME : Row := ⟨0x50018, [], 0, 64, .ro, 0x0, 0, 0xFFFFFFFFFFFFFFFF⟩
/-- Table 06-10: RW, `POS_AX_EN`. -/
def POS_AX_EN : Row := ⟨0x50020, [], 0, 4, .rw, 0x0, 0, 0xF⟩
/-- Table 06-10: RW, `POS_AX_PD`. -/
def POS_AX_PD : Row := ⟨0x50020, [], 4, 4, .rw, 0x0, 0, 0xF⟩
/-- Table 06-10: RW, `POS_AX_INV`. -/
def POS_AX_INV : Row := ⟨0x50020, [], 8, 4, .rw, 0x0, 0, 0xF⟩
/-- Table 06-10: RW, `POS_SLIP_ABS_MMS`. -/
def POS_SLIP_ABS_MMS : Row := ⟨0x50020, [], 16, 16, .rw, 0x1F4, 10, 0x2710⟩
/-- Table 06-10: RW, `POS_SLIP_REL_PCT`. -/
def POS_SLIP_REL_PCT : Row := ⟨0x50020, [], 32, 8, .rw, 0x5, 1, 0x32⟩
/-- Table 06-10: RW, `POS_AGREE_MS`. -/
def POS_AGREE_MS : Row := ⟨0x50020, [], 40, 16, .rw, 0x64, 10, 0x2710⟩
/-- Table 06-10: RW, `POS_STILL_MS`. -/
def POS_STILL_MS : Row := ⟨0x50028, [], 0, 16, .rw, 0x1F4, 10, 0x2710⟩
/-- Table 06-10: RW, `POS_EXTRAP_MS`. -/
def POS_EXTRAP_MS : Row := ⟨0x50028, [], 16, 16, .rw, 0x7D0, 10, 0xEA60⟩
/-- Table 06-10: RW, `POS_BALISE_MAX_UM`. -/
def POS_BALISE_MAX_UM : Row := ⟨0x50028, [], 32, 32, .rw, 0x2FAF080, 1000, 0xEE6B2800⟩
/-- Table 06-10: RC, `POS_HANDOFFS`. -/
def POS_HANDOFFS : Row := ⟨0x50030, [], 0, 16, .rc, 0x0, 0, 0xFFFF⟩
/-- Table 06-10: RC, `POS_BALISE_APPLIED`. -/
def POS_BALISE_APPLIED : Row := ⟨0x50030, [], 16, 16, .rc, 0x0, 0, 0xFFFF⟩
/-- Table 06-10: RC, `POS_BALISE_REFUSED`. -/
def POS_BALISE_REFUSED : Row := ⟨0x50030, [], 32, 16, .rc, 0x0, 0, 0xFFFF⟩
/-- Table 06-10: RC, `POS_REPORTS_MISSED`. -/
def POS_REPORTS_MISSED : Row := ⟨0x50030, [], 48, 16, .rc, 0x0, 0, 0xFFFF⟩
/-- Table 06-10: RO, `POS_ODO_UID`. -/
def POS_ODO_UID : Row := ⟨0x50038, [], 0, 64, .ro, 0x0, 0, 0xFFFFFFFFFFFFFFFF⟩
/-- Table 06-10: RW, `POS_AXn_DIAM_UM`. -/
def POS_AXn_DIAM_UM : Row := ⟨0x50040, [⟨0x10, 0, 0, 4⟩], 0, 32, .rw, 0xE09C0, 200000, 0x16E360⟩
/-- Table 06-10: RW, `POS_AXn_PPR`. -/
def POS_AXn_PPR : Row := ⟨0x50040, [⟨0x10, 0, 0, 4⟩], 32, 16, .rw, 0x64, 1, 0x1000⟩
/-- Table 06-10: RO, `POS_AXn_EXCL`. -/
def POS_AXn_EXCL : Row := ⟨0x50040, [⟨0x10, 0, 0, 4⟩], 48, 1, .ro, 0x0, 0, 0x1⟩
/-- Table 06-10: RO, `POS_AXn_FAULT`. -/
def POS_AXn_FAULT : Row := ⟨0x50040, [⟨0x10, 0, 0, 4⟩], 49, 1, .ro, 0x0, 0, 0x1⟩
/-- Table 06-10: RO, `POS_AXn_SUSPECT`. -/
def POS_AXn_SUSPECT : Row := ⟨0x50040, [⟨0x10, 0, 0, 4⟩], 50, 1, .ro, 0x0, 0, 0x1⟩
/-- Table 06-10: RO, `POS_AXn_VEL_MMS`. -/
def POS_AXn_VEL_MMS : Row := ⟨0x50048, [⟨0x10, 0, 0, 4⟩], 0, 32, .ro, 0x0, 0, 0xFFFFFFFF⟩
/-- Table 06-10: RC, `POS_AXn_EXCLS`. -/
def POS_AXn_EXCLS : Row := ⟨0x50048, [⟨0x10, 0, 0, 4⟩], 32, 16, .rc, 0x0, 0, 0xFFFF⟩
/-- Table 06-10: RC, `POS_AXn_FAULTS`. -/
def POS_AXn_FAULTS : Row := ⟨0x50048, [⟨0x10, 0, 0, 4⟩], 48, 16, .rc, 0x0, 0, 0xFFFF⟩
/-- Table 06-10: RW, `POS_LP_SYS`. -/
def POS_LP_SYS : Row := ⟨0x50100, [], 0, 3, .rw, 0x0, 0, 0x4⟩
/-- Table 06-10: RO, `POS_LP_VALID`. -/
def POS_LP_VALID : Row := ⟨0x50100, [], 3, 1, .ro, 0x0, 0, 0x1⟩
/-- Table 06-10: RO, `POS_LP_DETECTED`. -/
def POS_LP_DETECTED : Row := ⟨0x50100, [], 4, 3, .ro, 0x0, 0, 0x7⟩
/-- Table 06-10: RW, `POS_LP_MIN_MV`. -/
def POS_LP_MIN_MV : Row := ⟨0x50100, [], 16, 16, .rw, 0x64, 20, 0x320⟩
/-- Table 06-10: RO, `POS_LP_ANGLE`. -/
def POS_LP_ANGLE : Row := ⟨0x50100, [], 32, 32, .ro, 0x0, 0, 0xFFFFFFFF⟩
/-- Table 06-10: RO, `POS_LP_FREQ_MHZ`. -/
def POS_LP_FREQ_MHZ : Row := ⟨0x50108, [], 0, 32, .ro, 0x0, 0, 0xFFFFFFFF⟩
/-- Table 06-10: RO, `POS_LP_AMPL_MV`. -/
def POS_LP_AMPL_MV : Row := ⟨0x50108, [], 32, 16, .ro, 0x0, 0, 0xFFFF⟩
/-- Table 06-10: RC, `POS_LP_UNLOCKS`. -/
def POS_LP_UNLOCKS : Row := ⟨0x50108, [], 48, 16, .rc, 0x0, 0, 0xFFFF⟩

/-! Block SCH, Table 07-11. -/

/-- Table 07-11: RW, `SCH_Hx_TX_BASE`. -/
def SCH_Hx_TX_BASE : Row := ⟨0x60000, [⟨0x40, 0, 0, 2⟩], 0, 64, .rw, 0x0, 0, 0xFFFFFFFFFFFFFFFF⟩
/-- Table 07-11: RW, `SCH_Hx_TX_LOG2`. -/
def SCH_Hx_TX_LOG2 : Row := ⟨0x60008, [⟨0x40, 0, 0, 2⟩], 0, 4, .rw, 0x4, 4, 0xC⟩
/-- Table 07-11: RW, `SCH_Hx_TX_EN`. -/
def SCH_Hx_TX_EN : Row := ⟨0x60008, [⟨0x40, 0, 0, 2⟩], 8, 1, .rw, 0x0, 0, 0x1⟩
/-- Table 07-11: RO, `SCH_Hx_TX_HEAD`. -/
def SCH_Hx_TX_HEAD : Row := ⟨0x60008, [⟨0x40, 0, 0, 2⟩], 16, 16, .ro, 0x0, 0, 0xFFFF⟩
/-- Table 07-11: RW, `SCH_Hx_RX_BASE`. -/
def SCH_Hx_RX_BASE : Row := ⟨0x60010, [⟨0x40, 0, 0, 2⟩], 0, 64, .rw, 0x0, 0, 0xFFFFFFFFFFFFFFFF⟩
/-- Table 07-11: RW, `SCH_Hx_RX_LOG2`. -/
def SCH_Hx_RX_LOG2 : Row := ⟨0x60018, [⟨0x40, 0, 0, 2⟩], 0, 4, .rw, 0x4, 4, 0xC⟩
/-- Table 07-11: RW, `SCH_Hx_RX_EN`. -/
def SCH_Hx_RX_EN : Row := ⟨0x60018, [⟨0x40, 0, 0, 2⟩], 8, 1, .rw, 0x0, 0, 0x1⟩
/-- Table 07-11: RO, `SCH_Hx_RX_HEAD`. -/
def SCH_Hx_RX_HEAD : Row := ⟨0x60018, [⟨0x40, 0, 0, 2⟩], 16, 16, .ro, 0x0, 0, 0xFFFF⟩
/-- Table 07-11: RW, `SCH_Hx_TAIL_ADDR`. -/
def SCH_Hx_TAIL_ADDR : Row := ⟨0x60020, [⟨0x40, 0, 0, 2⟩], 0, 64, .rw, 0x0, 0, 0xFFFFFFFFFFFFFFFF⟩
/-- Table 07-11: RW, `SCH_Hx_POLL_US`. -/
def SCH_Hx_POLL_US : Row := ⟨0x60028, [⟨0x40, 0, 0, 2⟩], 0, 7, .rw, 0x2, 1, 0x64⟩
/-- Table 07-11: RC, `SCH_Hx_RX_NOBUF`. -/
def SCH_Hx_RX_NOBUF : Row := ⟨0x60028, [⟨0x40, 0, 0, 2⟩], 32, 32, .rc, 0x0, 0, 0xFFFFFFFF⟩
/-- Table 07-11: RC, `SCH_Hx_TX_BAD`. -/
def SCH_Hx_TX_BAD : Row := ⟨0x60030, [⟨0x40, 0, 0, 2⟩], 0, 32, .rc, 0x0, 0, 0xFFFFFFFF⟩
/-- Table 07-11: RC, `SCH_Hx_DMA_ERR`. -/
def SCH_Hx_DMA_ERR : Row := ⟨0x60030, [⟨0x40, 0, 0, 2⟩], 32, 32, .rc, 0x0, 0, 0xFFFFFFFF⟩
/-- Table 07-11: RO, `SCH_EVENTS_USED`. -/
def SCH_EVENTS_USED : Row := ⟨0x60100, [], 0, 13, .ro, 0x0, 0, 0x1FFF⟩
/-- Table 07-11: RO, `SCH_LAUNCH_USED`. -/
def SCH_LAUNCH_USED : Row := ⟨0x60100, [], 16, 11, .ro, 0x0, 0, 0x7FF⟩
/-- Table 07-11: RW, `SCH_DEFER_MAX`. -/
def SCH_DEFER_MAX : Row := ⟨0x60100, [], 32, 4, .rw, 0x8, 0, 0xF⟩
/-- Table 07-11: RC, `SCH_FIRED`. -/
def SCH_FIRED : Row := ⟨0x60108, [], 0, 32, .rc, 0x0, 0, 0xFFFFFFFF⟩
/-- Table 07-11: RC, `SCH_LATE`. -/
def SCH_LATE : Row := ⟨0x60108, [], 32, 32, .rc, 0x0, 0, 0xFFFFFFFF⟩
/-- Table 07-11: RC, `SCH_LATE_WINDOW`. -/
def SCH_LATE_WINDOW : Row := ⟨0x60110, [], 0, 32, .rc, 0x0, 0, 0xFFFFFFFF⟩
/-- Table 07-11: RC, `SCH_DEFERRED`. -/
def SCH_DEFERRED : Row := ⟨0x60110, [], 32, 32, .rc, 0x0, 0, 0xFFFFFFFF⟩
/-- Table 07-11: RC, `SCH_MISSED`. -/
def SCH_MISSED : Row := ⟨0x60118, [], 0, 16, .rc, 0x0, 0, 0xFFFF⟩
/-- Table 07-11: RC, `SCH_FIELD_SKIP`. -/
def SCH_FIELD_SKIP : Row := ⟨0x60118, [], 16, 16, .rc, 0x0, 0, 0xFFFF⟩
/-- Table 07-11: RC, `SCH_ACTION_FAIL`. -/
def SCH_ACTION_FAIL : Row := ⟨0x60118, [], 32, 16, .rc, 0x0, 0, 0xFFFF⟩
/-- Table 07-11: RC, `SCH_PROFILE_LATE`. -/
def SCH_PROFILE_LATE : Row := ⟨0x60118, [], 48, 16, .rc, 0x0, 0, 0xFFFF⟩
/-- Table 07-11: RO, `SCH_EVi_STATE`. -/
def SCH_EVi_STATE : Row := ⟨0x68000, [⟨0x8, 0, 0, 4096⟩], 0, 3, .ro, 0x0, 0, 0x7⟩
/-- Table 07-11: RO, `SCH_EVi_LATE`. -/
def SCH_EVi_LATE : Row := ⟨0x68000, [⟨0x8, 0, 0, 4096⟩], 3, 1, .ro, 0x0, 0, 0x1⟩
/-- Table 07-11: RO, `SCH_EVi_REVERSED`. -/
def SCH_EVi_REVERSED : Row := ⟨0x68000, [⟨0x8, 0, 0, 4096⟩], 4, 1, .ro, 0x0, 0, 0x1⟩
/-- Table 07-11: RO, `SCH_EVi_FIRINGS`. -/
def SCH_EVi_FIRINGS : Row := ⟨0x68000, [⟨0x8, 0, 0, 4096⟩], 16, 16, .ro, 0x0, 0, 0xFFFF⟩
/-- Table 07-11: RO, `SCH_EVi_BOUND`. -/
def SCH_EVi_BOUND : Row := ⟨0x68000, [⟨0x8, 0, 0, 4096⟩], 32, 11, .ro, 0x0, 0, 0x7FF⟩

/-! Block SIG, Table 08-13. -/

/-- Table 08-13: RO, `SIG_PROFILE`. -/
def SIG_PROFILE : Row := ⟨0x100000, [], 0, 3, .ro, 0x0, 0, 0x7⟩
/-- Table 08-13: RO, `SIG_PROFILE_ARMED`. -/
def SIG_PROFILE_ARMED : Row := ⟨0x100000, [], 3, 1, .ro, 0x0, 0, 0x1⟩
/-- Table 08-13: RO, `SIG_PROFILE_NEXT`. -/
def SIG_PROFILE_NEXT : Row := ⟨0x100000, [], 4, 3, .ro, 0x0, 0, 0x7⟩
/-- Table 08-13: RO, `SIG_PROFILE_BANK`. -/
def SIG_PROFILE_BANK : Row := ⟨0x100000, [], 7, 1, .ro, 0x0, 0, 0x1⟩
/-- Table 08-13: RO, `SIG_PROFILE_RESET`. -/
def SIG_PROFILE_RESET : Row := ⟨0x100000, [], 8, 3, .ro, 0x0, 0, 0x7⟩
/-- Table 08-13: RO, `SIG_PROFILE_CYCLE`. -/
def SIG_PROFILE_CYCLE : Row := ⟨0x100000, [], 32, 32, .ro, 0x0, 0, 0xFFFFFFFF⟩
/-- Table 08-13: RW, `SIG_SWEEP_US`. -/
def SIG_SWEEP_US : Row := ⟨0x100008, [], 0, 14, .rw, 0x3E8, 100, 0x2710⟩
/-- Table 08-13: RW, `SIG_FIELD_MS`. -/
def SIG_FIELD_MS : Row := ⟨0x100008, [], 16, 10, .rw, 0x1, 1, 0x3E8⟩
/-- Table 08-13: RO, `SIG_SIGNALS`. -/
def SIG_SIGNALS : Row := ⟨0x100010, [], 0, 19, .ro, 0x0, 0, 0x7FFFF⟩
/-- Table 08-13: RO, `SIG_DESCRIPTORS`. -/
def SIG_DESCRIPTORS : Row := ⟨0x100010, [], 32, 16, .ro, 0x0, 0, 0xFFFF⟩
/-- Table 08-13: RO, `SIG_RULES_UNBOUND`. -/
def SIG_RULES_UNBOUND : Row := ⟨0x100018, [], 0, 9, .ro, 0x0, 0, 0x1FF⟩
/-- Table 08-13: RC, `SIG_DECODE_FAIL`. -/
def SIG_DECODE_FAIL : Row := ⟨0x100020, [], 0, 32, .rc, 0x0, 0, 0xFFFFFFFF⟩
/-- Table 08-13: RC, `SIG_RANGE_FAIL`. -/
def SIG_RANGE_FAIL : Row := ⟨0x100020, [], 32, 32, .rc, 0x0, 0, 0xFFFFFFFF⟩
/-- Table 08-13: RC, `SIG_SAFETY_CRC`. -/
def SIG_SAFETY_CRC : Row := ⟨0x100028, [], 0, 32, .rc, 0x0, 0, 0xFFFFFFFF⟩
/-- Table 08-13: RC, `SIG_SAFETY_SEQ`. -/
def SIG_SAFETY_SEQ : Row := ⟨0x100028, [], 32, 32, .rc, 0x0, 0, 0xFFFFFFFF⟩
/-- Table 08-13: RC, `SIG_SAFETY_REPEAT`. -/
def SIG_SAFETY_REPEAT : Row := ⟨0x100030, [], 0, 32, .rc, 0x0, 0, 0xFFFFFFFF⟩
/-- Table 08-13: RC, `SIG_STALE`. -/
def SIG_STALE : Row := ⟨0x100030, [], 32, 32, .rc, 0x0, 0, 0xFFFFFFFF⟩
/-- Table 08-13: RC, `SIG_OUT_OF_ORDER`. -/
def SIG_OUT_OF_ORDER : Row := ⟨0x100038, [], 0, 32, .rc, 0x0, 0, 0xFFFFFFFF⟩
/-- Table 08-13: RC, `SIG_OLD_EPOCH_DISC`. -/
def SIG_OLD_EPOCH_DISC : Row := ⟨0x100038, [], 32, 32, .rc, 0x0, 0, 0xFFFFFFFF⟩
/-- Table 08-13: RC, `SIG_NO_BINDING`. -/
def SIG_NO_BINDING : Row := ⟨0x100040, [], 0, 32, .rc, 0x0, 0, 0xFFFFFFFF⟩
/-- Table 08-13: RC, `SIG_DST_SAT`. -/
def SIG_DST_SAT : Row := ⟨0x100040, [], 32, 32, .rc, 0x0, 0, 0xFFFFFFFF⟩
/-- Table 08-13: RC, `SIG_FIELD_SKIP`. -/
def SIG_FIELD_SKIP : Row := ⟨0x100048, [], 0, 32, .rc, 0x0, 0, 0xFFFFFFFF⟩
/-- Table 08-13: RC, `SIG_DEPTH_DROP`. -/
def SIG_DEPTH_DROP : Row := ⟨0x100048, [], 32, 32, .rc, 0x0, 0, 0xFFFFFFFF⟩
/-- Table 08-13: RC, `SIG_MAP_FAULT`. -/
def SIG_MAP_FAULT : Row := ⟨0x100050, [], 0, 32, .rc, 0x0, 0, 0xFFFFFFFF⟩
/-- Table 08-13: RC, `SIG_HOST_WRITES`. -/
def SIG_HOST_WRITES : Row := ⟨0x100050, [], 32, 32, .rc, 0x0, 0, 0xFFFFFFFF⟩
/-- Table 08-13: RC, `SIG_PROFILE_SWITCHES`. -/
def SIG_PROFILE_SWITCHES : Row := ⟨0x100058, [], 0, 16, .rc, 0x0, 0, 0xFFFF⟩
/-- Table 08-13: RC, `SIG_SOURCE_FAIL`. -/
def SIG_SOURCE_FAIL : Row := ⟨0x100058, [], 32, 32, .rc, 0x0, 0, 0xFFFFFFFF⟩
/-- Table 08-13: RO, `SIG_RULE_NODE`. -/
def SIG_RULE_NODE : Row := ⟨0x100400, [⟨0x8, 0, 0, 32⟩, ⟨0x0, 8, 0, 8⟩], 0, 8, .ro, 0x0, 0, 0xFF⟩

/-! Block STL, Table 09-7. -/

/-- Table 09-7: RO, `STL_HASH_SEED`. -/
def STL_HASH_SEED : Row := ⟨0x140000, [], 0, 32, .ro, 0x0, 0, 0xFFFFFFFF⟩
/-- Table 09-7: RW, `STL_MAX_HOPS`. -/
def STL_MAX_HOPS : Row := ⟨0x140000, [], 32, 3, .rw, 0x4, 0, 0x4⟩
/-- Table 09-7: RW, `STL_STEAL_EN`. -/
def STL_STEAL_EN : Row := ⟨0x140000, [], 35, 1, .rw, 0x1, 0, 0x1⟩
/-- Table 09-7: RW, `STL_DL_SCHED_NS`. -/
def STL_DL_SCHED_NS : Row := ⟨0x140008, [], 0, 16, .rw, 0x1388, 1000, 0xEA60⟩
/-- Table 09-7: RW, `STL_DL_SAFETY_NS`. -/
def STL_DL_SAFETY_NS : Row := ⟨0x140008, [], 16, 16, .rw, 0x1388, 1000, 0xEA60⟩
/-- Table 09-7: RW, `STL_DL_EVENT_US`. -/
def STL_DL_EVENT_US : Row := ⟨0x140008, [], 32, 16, .rw, 0x32, 10, 0xEA60⟩
/-- Table 09-7: RW, `STL_DL_DIAG_US`. -/
def STL_DL_DIAG_US : Row := ⟨0x140008, [], 48, 16, .rw, 0x3E8, 10, 0xEA60⟩
/-- Table 09-7: RW, `STL_SELFTEST_EN`. -/
def STL_SELFTEST_EN : Row := ⟨0x140010, [], 0, 1, .rw, 0x1, 0, 0x1⟩
/-- Table 09-7: RO, `STL_SHED_STATE`. -/
def STL_SHED_STATE : Row := ⟨0x140010, [], 4, 2, .ro, 0x0, 0, 0x3⟩
/-- Table 09-7: RO, `STL_ENV_RECORDS`. -/
def STL_ENV_RECORDS : Row := ⟨0x140010, [], 16, 16, .ro, 0x0, 0, 0xFFFF⟩
/-- Table 09-7: RW, `STL_PRIO_CMD`. -/
def STL_PRIO_CMD : Row := ⟨0x140018, [], 0, 3, .rw, 0x5, 0, 0x7⟩
/-- Table 09-7: RW, `STL_PRIO_HOST`. -/
def STL_PRIO_HOST : Row := ⟨0x140018, [], 4, 3, .rw, 0x2, 0, 0x7⟩
/-- Table 09-7: RW, `STL_PRIO_REC`. -/
def STL_PRIO_REC : Row := ⟨0x140018, [], 8, 3, .rw, 0x1, 0, 0x7⟩
/-- Table 09-7: RW, `STL_PRIO_FENf`. -/
def STL_PRIO_FENf : Row := ⟨0x140020, [⟨0x8, 0, 0, 2⟩, ⟨0x0, 4, 0, 16⟩], 0, 3, .rw, 0x4, 0, 0x7⟩
/-- Table 09-7: RO, `STL_FENf_NEED`. -/
def STL_FENf_NEED : Row := ⟨0x140030, [⟨0x8, 0, 0, 4⟩, ⟨0x0, 8, 0, 8⟩], 0, 5, .ro, 0x0, 0, 0x1F⟩
/-- Table 09-7: RC, `STL_PUSHED`. -/
def STL_PUSHED : Row := ⟨0x140080, [], 0, 32, .rc, 0x0, 0, 0xFFFFFFFF⟩
/-- Table 09-7: RC, `STL_STEALS_LOCAL`. -/
def STL_STEALS_LOCAL : Row := ⟨0x140080, [], 32, 32, .rc, 0x0, 0, 0xFFFFFFFF⟩
/-- Table 09-7: RC, `STL_STEALS_REMOTE`. -/
def STL_STEALS_REMOTE : Row := ⟨0x140088, [], 0, 32, .rc, 0x0, 0, 0xFFFFFFFF⟩
/-- Table 09-7: RC, `STL_STEAL_INELIG`. -/
def STL_STEAL_INELIG : Row := ⟨0x140088, [], 32, 32, .rc, 0x0, 0, 0xFFFFFFFF⟩
/-- Table 09-7: RC, `STL_SPILL`. -/
def STL_SPILL : Row := ⟨0x140090, [], 0, 32, .rc, 0x0, 0, 0xFFFFFFFF⟩
/-- Table 09-7: RC, `STL_EVICT`. -/
def STL_EVICT : Row := ⟨0x140090, [], 32, 32, .rc, 0x0, 0, 0xFFFFFFFF⟩
/-- Table 09-7: RC, `STL_FULL_DROP`. -/
def STL_FULL_DROP : Row := ⟨0x140098, [], 0, 32, .rc, 0x0, 0, 0xFFFFFFFF⟩
/-- Table 09-7: RC, `STL_SHED_DROP`. -/
def STL_SHED_DROP : Row := ⟨0x140098, [], 32, 32, .rc, 0x0, 0, 0xFFFFFFFF⟩
/-- Table 09-7: RC, `STL_MISS_SCHED`. -/
def STL_MISS_SCHED : Row := ⟨0x1400A0, [], 0, 16, .rc, 0x0, 0, 0xFFFF⟩
/-- Table 09-7: RC, `STL_MISS_SAFETY`. -/
def STL_MISS_SAFETY : Row := ⟨0x1400A0, [], 16, 16, .rc, 0x0, 0, 0xFFFF⟩
/-- Table 09-7: RC, `STL_MISS_EVENT`. -/
def STL_MISS_EVENT : Row := ⟨0x1400A0, [], 32, 16, .rc, 0x0, 0, 0xFFFF⟩
/-- Table 09-7: RC, `STL_MISS_DIAG`. -/
def STL_MISS_DIAG : Row := ⟨0x1400A0, [], 48, 16, .rc, 0x0, 0, 0xFFFF⟩
/-- Table 09-7: RC, `STL_QUARANTINES`. -/
def STL_QUARANTINES : Row := ⟨0x1400A8, [], 0, 16, .rc, 0x0, 0, 0xFFFF⟩
/-- Table 09-7: RC, `STL_SELFTEST_FAIL`. -/
def STL_SELFTEST_FAIL : Row := ⟨0x1400A8, [], 16, 16, .rc, 0x0, 0, 0xFFFF⟩
/-- Table 09-7: RC, `STL_SELFTEST_RUNS`. -/
def STL_SELFTEST_RUNS : Row := ⟨0x1400A8, [], 32, 32, .rc, 0x0, 0, 0xFFFFFFFF⟩
/-- Table 09-7: RC, `STL_ENV_EXCEED`. -/
def STL_ENV_EXCEED : Row := ⟨0x1400B0, [], 0, 32, .rc, 0x0, 0, 0xFFFFFFFF⟩
/-- Table 09-7: RC, `STL_RERUNS`. -/
def STL_RERUNS : Row := ⟨0x1400B0, [], 32, 32, .rc, 0x0, 0, 0xFFFFFFFF⟩
/-- Table 09-7: RC, `STL_LAT_MAX_NS`. -/
def STL_LAT_MAX_NS : Row := ⟨0x1400B8, [], 0, 32, .rc, 0x0, 0, 0xFFFFFFFF⟩
/-- Table 09-7: RC, `STL_LATE_RELEASE`. -/
def STL_LATE_RELEASE : Row := ⟨0x1400B8, [], 32, 32, .rc, 0x0, 0, 0xFFFFFFFF⟩
/-- Table 09-7: RW, `STL_ENGe_CFG`. -/
def STL_ENGe_CFG : Row := ⟨0x141000, [⟨0x8, 0, 0, 512⟩], 0, 1, .rw, 0x1, 0, 0x1⟩
/-- Table 09-7: RO, `STL_ENGe_OPER`. -/
def STL_ENGe_OPER : Row := ⟨0x141000, [⟨0x8, 0, 0, 512⟩], 4, 4, .ro, 0x1, 0, 0xF⟩
/-- Table 09-7: RO, `STL_ENGe_DEPTH`. -/
def STL_ENGe_DEPTH : Row := ⟨0x141000, [⟨0x8, 0, 0, 512⟩], 8, 7, .ro, 0x0, 0, 0x7F⟩
/-- Table 09-7: RO, `STL_ENGe_BUSY`. -/
def STL_ENGe_BUSY : Row := ⟨0x141000, [⟨0x8, 0, 0, 512⟩], 15, 1, .ro, 0x0, 0, 0x1⟩
/-- Table 09-7: RO, `STL_ENGe_QCAUSE`. -/
def STL_ENGe_QCAUSE : Row := ⟨0x141000, [⟨0x8, 0, 0, 512⟩], 16, 4, .ro, 0x0, 0, 0xF⟩
/-- Table 09-7: RC, `STL_ENGe_JOBS`. -/
def STL_ENGe_JOBS : Row := ⟨0x141000, [⟨0x8, 0, 0, 512⟩], 32, 32, .rc, 0x0, 0, 0xFFFFFFFF⟩
/-- Table 09-7: RO, `STL_PUBu_LAYOUTS`. -/
def STL_PUBu_LAYOUTS : Row := ⟨0x142000, [⟨0x8, 0, 0, 32⟩], 0, 8, .ro, 0x0, 0, 0xFF⟩
/-- Table 09-7: RC, `STL_PUBu_RELEASES`. -/
def STL_PUBu_RELEASES : Row := ⟨0x142000, [⟨0x8, 0, 0, 32⟩], 32, 32, .rc, 0x0, 0, 0xFFFFFFFF⟩
/-- Table 09-7: RO, `STL_PLu_k_Ww`. -/
def STL_PLu_k_Ww : Row := ⟨0x150000, [⟨0x1000, 0, 0, 32⟩, ⟨0x20, 0, 0, 128⟩, ⟨0x8, 0, 0, 4⟩], 0, 64, .ro, 0x0, 0, 0xFFFFFFFFFFFFFFFF⟩

/-! Block MAC, Table 10-10. -/

/-- Table 10-10: RW, `MAC_n_CFG_EN`. -/
def MAC_n_CFG_EN : Row := ⟨0x200000, [⟨0x1000, 0, 0, 81⟩], 0, 1, .rw, 0x1, 0, 0x1⟩
/-- Table 10-10: RW, `MAC_n_DEF_PCP`. -/
def MAC_n_DEF_PCP : Row := ⟨0x200000, [⟨0x1000, 0, 0, 81⟩], 1, 3, .rw, 0x0, 0, 0x7⟩
/-- Table 10-10: RW, `MAC_n_PAUSE_EN`. -/
def MAC_n_PAUSE_EN : Row := ⟨0x200000, [⟨0x1000, 0, 0, 81⟩], 4, 1, .rw, 0x1, 0, 0x1⟩
/-- Table 10-10: RW, `MAC_n_MAXLEN`. -/
def MAC_n_MAXLEN : Row := ⟨0x200000, [⟨0x1000, 0, 0, 81⟩], 16, 16, .rw, 0x5F2, 1522, 0x1042⟩
/-- Table 10-10: RW, `MAC_n_TX_AGE_MS`. -/
def MAC_n_TX_AGE_MS : Row := ⟨0x200000, [⟨0x1000, 0, 0, 81⟩], 32, 16, .rw, 0x64, 1, 0x2710⟩
/-- Table 10-10: RO, `MAC_n_OPER`. -/
def MAC_n_OPER : Row := ⟨0x200008, [⟨0x1000, 0, 0, 81⟩], 0, 4, .ro, 0x2, 0, 0xF⟩
/-- Table 10-10: RO, `MAC_n_LINK`. -/
def MAC_n_LINK : Row := ⟨0x200008, [⟨0x1000, 0, 0, 81⟩], 4, 1, .ro, 0x0, 0, 0x1⟩
/-- Table 10-10: RO, `MAC_n_SPEED`. -/
def MAC_n_SPEED : Row := ⟨0x200008, [⟨0x1000, 0, 0, 81⟩], 5, 3, .ro, 0x0, 0, 0x7⟩
/-- Table 10-10: RO, `MAC_n_PAUSED`. -/
def MAC_n_PAUSED : Row := ⟨0x200008, [⟨0x1000, 0, 0, 81⟩], 8, 1, .ro, 0x0, 0, 0x1⟩
/-- Table 10-10: RO, `MAC_n_PLCA_ACTIVE`. -/
def MAC_n_PLCA_ACTIVE : Row := ⟨0x200008, [⟨0x1000, 0, 0, 81⟩], 9, 1, .ro, 0x0, 0, 0x1⟩
/-- Table 10-10: RO, `MAC_n_PAUSE_LEFT`. -/
def MAC_n_PAUSE_LEFT : Row := ⟨0x200008, [⟨0x1000, 0, 0, 81⟩], 16, 16, .ro, 0x0, 0, 0xFFFF⟩
/-- Table 10-10: RO, `MAC_n_RES_CELLS`. -/
def MAC_n_RES_CELLS : Row := ⟨0x200010, [⟨0x1000, 0, 0, 81⟩], 0, 18, .ro, 0x0, 0, 0x3FFFF⟩
/-- Table 10-10: RO, `MAC_n_SHARED_MAX`. -/
def MAC_n_SHARED_MAX : Row := ⟨0x200010, [⟨0x1000, 0, 0, 81⟩], 32, 18, .ro, 0x30000, 0, 0x3FFFF⟩
/-- Table 10-10: RO, `MAC_n_RES_USED`. -/
def MAC_n_RES_USED : Row := ⟨0x200018, [⟨0x1000, 0, 0, 81⟩], 0, 18, .ro, 0x0, 0, 0x3FFFF⟩
/-- Table 10-10: RO, `MAC_n_SH_USED`. -/
def MAC_n_SH_USED : Row := ⟨0x200018, [⟨0x1000, 0, 0, 81⟩], 32, 18, .ro, 0x0, 0, 0x3FFFF⟩
/-- Table 10-10: RW, `MAC_n_QDEPTH`. -/
def MAC_n_QDEPTH : Row := ⟨0x200020, [⟨0x1000, 0, 0, 81⟩], 0, 11, .rw, 0x100, 1, 0x400⟩
/-- Table 10-10: RO, `MAC_n_LQ_FILL`. -/
def MAC_n_LQ_FILL : Row := ⟨0x200020, [⟨0x1000, 0, 0, 81⟩], 16, 11, .ro, 0x0, 0, 0x7FF⟩
/-- Table 10-10: RO, `MAC_n_Qq_FILL_LO`. -/
def MAC_n_Qq_FILL_LO : Row := ⟨0x200028, [⟨0x1000, 0, 0, 81⟩, ⟨0x0, 16, 0, 4⟩], 0, 11, .ro, 0x0, 0, 0x7FF⟩
/-- Table 10-10: RO, `MAC_n_Qq_FILL_HI`. -/
def MAC_n_Qq_FILL_HI : Row := ⟨0x200030, [⟨0x1000, 0, 0, 81⟩, ⟨0x0, 16, 0, 4⟩], 0, 11, .ro, 0x0, 0, 0x7FF⟩
/-- Table 10-10: RW, `MAC_n_PLCA_EN`. -/
def MAC_n_PLCA_EN : Row := ⟨0x200040, [⟨0x1000, 0, 0, 81⟩], 0, 1, .rw, 0x0, 0, 0x1⟩
/-- Table 10-10: RW, `MAC_n_PLCA_ID`. -/
def MAC_n_PLCA_ID : Row := ⟨0x200040, [⟨0x1000, 0, 0, 81⟩], 8, 4, .rw, 0x0, 0, 0xF⟩
/-- Table 10-10: RW, `MAC_n_PLCA_COUNT`. -/
def MAC_n_PLCA_COUNT : Row := ⟨0x200040, [⟨0x1000, 0, 0, 81⟩], 16, 5, .rw, 0x8, 1, 0x10⟩
/-- Table 10-10: RW, `MAC_n_PLCA_TO`. -/
def MAC_n_PLCA_TO : Row := ⟨0x200040, [⟨0x1000, 0, 0, 81⟩], 24, 8, .rw, 0x20, 1, 0xFF⟩
/-- Table 10-10: RW, `MAC_n_PLCA_BURST`. -/
def MAC_n_PLCA_BURST : Row := ⟨0x200040, [⟨0x1000, 0, 0, 81⟩], 32, 8, .rw, 0x0, 0, 0xFF⟩
/-- Table 10-10: RW, `MAC_n_PLCA_BTMR`. -/
def MAC_n_PLCA_BTMR : Row := ⟨0x200040, [⟨0x1000, 0, 0, 81⟩], 40, 8, .rw, 0x80, 0, 0xFF⟩
/-- Table 10-10: RO, `MAC_n_WPi_MASK_LO`. -/
def MAC_n_WPi_MASK_LO : Row := ⟨0x200080, [⟨0x1000, 0, 0, 81⟩, ⟨0x18, 0, 0, 16⟩], 0, 64, .ro, 0x0, 0, 0xFFFFFFFFFFFFFFFF⟩
/-- Table 10-10: RO, `MAC_n_WPi_MASK_HI`. -/
def MAC_n_WPi_MASK_HI : Row := ⟨0x200088, [⟨0x1000, 0, 0, 81⟩, ⟨0x18, 0, 0, 16⟩], 0, 64, .ro, 0x0, 0, 0xFFFFFFFFFFFFFFFF⟩
/-- Table 10-10: RO, `MAC_n_WPi_CRC`. -/
def MAC_n_WPi_CRC : Row := ⟨0x200090, [⟨0x1000, 0, 0, 81⟩, ⟨0x18, 0, 0, 16⟩], 0, 32, .ro, 0x0, 0, 0xFFFFFFFF⟩
/-- Table 10-10: RO, `MAC_n_WPi_EN`. -/
def MAC_n_WPi_EN : Row := ⟨0x200090, [⟨0x1000, 0, 0, 81⟩, ⟨0x18, 0, 0, 16⟩], 32, 1, .ro, 0x0, 0, 0x1⟩
/-- Table 10-10: RC, `MAC_n_WAKES`. -/
def MAC_n_WAKES : Row := ⟨0x200200, [⟨0x1000, 0, 0, 81⟩], 0, 16, .rc, 0x0, 0, 0xFFFF⟩
/-- Table 10-10: RO, `MAC_n_STAT_k`. -/
def MAC_n_STAT_k : Row := ⟨0x200800, [⟨0x1000, 0, 0, 81⟩, ⟨0x8, 0, 0, 64⟩], 0, 48, .ro, 0x0, 0, 0xFFFFFFFFFFFF⟩

/-! Block MAC, Table 10-11. -/

/-- Table 10-11: RO, `MAC_BUF_TOTAL`. -/
def MAC_BUF_TOTAL : Row := ⟨0x280000, [], 0, 18, .ro, 0x30000, 0, 0x3FFFF⟩
/-- Table 10-11: RO, `MAC_BUF_RETIRED`. -/
def MAC_BUF_RETIRED : Row := ⟨0x280000, [], 32, 18, .ro, 0x0, 0, 0x3FFFF⟩
/-- Table 10-11: RO, `MAC_RES_SCHED`. -/
def MAC_RES_SCHED : Row := ⟨0x280008, [], 0, 18, .ro, 0x0, 0, 0x3FFFF⟩
/-- Table 10-11: RO, `MAC_RES_PUB`. -/
def MAC_RES_PUB : Row := ⟨0x280008, [], 32, 18, .ro, 0x0, 0, 0x3FFFF⟩
/-- Table 10-11: RO, `MAC_RES_LAUNCH`. -/
def MAC_RES_LAUNCH : Row := ⟨0x280010, [], 0, 18, .ro, 0x0, 0, 0x3FFFF⟩
/-- Table 10-11: RO, `MAC_RES_CTL`. -/
def MAC_RES_CTL : Row := ⟨0x280010, [], 32, 18, .ro, 0x0, 0, 0x3FFFF⟩
/-- Table 10-11: RO, `MAC_RES_HOST`. -/
def MAC_RES_HOST : Row := ⟨0x280018, [], 0, 18, .ro, 0x0, 0, 0x3FFFF⟩
/-- Table 10-11: RO, `MAC_SHARED`. -/
def MAC_SHARED : Row := ⟨0x280018, [], 32, 18, .ro, 0x30000, 0, 0x3FFFF⟩
/-- Table 10-11: RO, `MAC_RES_PRIO_q`. -/
def MAC_RES_PRIO_q : Row := ⟨0x280020, [⟨0x8, 0, 0, 4⟩, ⟨0x0, 32, 0, 2⟩], 0, 18, .ro, 0x0, 0, 0x3FFFF⟩
/-- Table 10-11: RO, `MAC_USED_SCHED`. -/
def MAC_USED_SCHED : Row := ⟨0x280040, [], 0, 18, .ro, 0x0, 0, 0x3FFFF⟩
/-- Table 10-11: RO, `MAC_USED_PUB`. -/
def MAC_USED_PUB : Row := ⟨0x280040, [], 32, 18, .ro, 0x0, 0, 0x3FFFF⟩
/-- Table 10-11: RO, `MAC_USED_LAUNCH`. -/
def MAC_USED_LAUNCH : Row := ⟨0x280048, [], 0, 18, .ro, 0x0, 0, 0x3FFFF⟩
/-- Table 10-11: RO, `MAC_USED_CTL`. -/
def MAC_USED_CTL : Row := ⟨0x280048, [], 32, 18, .ro, 0x0, 0, 0x3FFFF⟩
/-- Table 10-11: RO, `MAC_USED_HA`. -/
def MAC_USED_HA : Row := ⟨0x280050, [], 0, 18, .ro, 0x0, 0, 0x3FFFF⟩
/-- Table 10-11: RO, `MAC_USED_HB`. -/
def MAC_USED_HB : Row := ⟨0x280050, [], 32, 18, .ro, 0x0, 0, 0x3FFFF⟩
/-- Table 10-11: RO, `MAC_USED_SHARED`. -/
def MAC_USED_SHARED : Row := ⟨0x280058, [], 0, 18, .ro, 0x0, 0, 0x3FFFF⟩
/-- Table 10-11: RO, `MAC_FREE`. -/
def MAC_FREE : Row := ⟨0x280058, [], 32, 18, .ro, 0x30000, 0, 0x3FFFF⟩
/-- Table 10-11: RC, `MAC_SCHED_NOBUF`. -/
def MAC_SCHED_NOBUF : Row := ⟨0x280060, [], 0, 32, .rc, 0x0, 0, 0xFFFFFFFF⟩
/-- Table 10-11: RC, `MAC_UNBOUND`. -/
def MAC_UNBOUND : Row := ⟨0x280060, [], 32, 32, .rc, 0x0, 0, 0xFFFFFFFF⟩
/-- Table 10-11: RO, `MAC_RT_ENTRIES`. -/
def MAC_RT_ENTRIES : Row := ⟨0x280068, [], 0, 14, .ro, 0x0, 0, 0x3FFF⟩
/-- Table 10-11: RO, `MAC_EH_ENTRIES`. -/
def MAC_EH_ENTRIES : Row := ⟨0x280068, [], 16, 11, .ro, 0x0, 0, 0x7FF⟩
/-- Table 10-11: RW, `MAC_HOSTMSG_RING`. -/
def MAC_HOSTMSG_RING : Row := ⟨0x280068, [], 32, 2, .rw, 0x1, 0, 0x3⟩
/-- Table 10-11: RC, `MAC_MSG_UNKNOWN`. -/
def MAC_MSG_UNKNOWN : Row := ⟨0x280070, [], 0, 32, .rc, 0x0, 0, 0xFFFFFFFF⟩
/-- Table 10-11: RC, `MAC_PUB_NOBUF`. -/
def MAC_PUB_NOBUF : Row := ⟨0x280070, [], 32, 32, .rc, 0x0, 0, 0xFFFFFFFF⟩

/-! Block LEG, Table 11-9. -/

/-- Table 11-9: RW, `LEG_MVBc_EN_A`. -/
def LEG_MVBc_EN_A : Row := ⟨0x300000, [⟨0x100, 0, 0, 4⟩], 0, 1, .rw, 0x0, 0, 0x1⟩
/-- Table 11-9: RW, `LEG_MVBc_EN_B`. -/
def LEG_MVBc_EN_B : Row := ⟨0x300000, [⟨0x100, 0, 0, 4⟩], 1, 1, .rw, 0x0, 0, 0x1⟩
/-- Table 11-9: RW, `LEG_MVBc_ADMIN`. -/
def LEG_MVBc_ADMIN : Row := ⟨0x300000, [⟨0x100, 0, 0, 4⟩], 2, 1, .rw, 0x0, 0, 0x1⟩
/-- Table 11-9: RW, `LEG_MVBc_PAIR`. -/
def LEG_MVBc_PAIR : Row := ⟨0x300000, [⟨0x100, 0, 0, 4⟩], 3, 1, .rw, 0x0, 0, 0x1⟩
/-- Table 11-9: RW, `LEG_MVBc_ALIGN`. -/
def LEG_MVBc_ALIGN : Row := ⟨0x300000, [⟨0x100, 0, 0, 4⟩], 4, 1, .rw, 0x0, 0, 0x1⟩
/-- Table 11-9: RW, `LEG_MVBc_BP`. -/
def LEG_MVBc_BP : Row := ⟨0x300000, [⟨0x100, 0, 0, 4⟩], 5, 1, .rw, 0x0, 0, 0x1⟩
/-- Table 11-9: RW, `LEG_MVBc_TREPLY`. -/
def LEG_MVBc_TREPLY : Row := ⟨0x300000, [⟨0x100, 0, 0, 4⟩], 8, 2, .rw, 0x1, 0, 0x3⟩
/-- Table 11-9: RW, `LEG_MVBc_DEVADDR`. -/
def LEG_MVBc_DEVADDR : Row := ⟨0x300000, [⟨0x100, 0, 0, 4⟩], 16, 12, .rw, 0x0, 0, 0xFFF⟩
/-- Table 11-9: RW, `LEG_MVBc_OFFSET_US`. -/
def LEG_MVBc_OFFSET_US : Row := ⟨0x300000, [⟨0x100, 0, 0, 4⟩], 32, 11, .rw, 0x0, 0, 0x7CF⟩
/-- Table 11-9: RW, `LEG_MVBc_SILENCE_US`. -/
def LEG_MVBc_SILENCE_US : Row := ⟨0x300008, [⟨0x100, 0, 0, 4⟩], 0, 16, .rw, 0x7D0, 500, 0x2710⟩
/-- Table 11-9: RO, `LEG_MVBc_OPER_A`. -/
def LEG_MVBc_OPER_A : Row := ⟨0x300010, [⟨0x100, 0, 0, 4⟩], 0, 4, .ro, 0x0, 0, 0xF⟩
/-- Table 11-9: RO, `LEG_MVBc_OPER_B`. -/
def LEG_MVBc_OPER_B : Row := ⟨0x300010, [⟨0x100, 0, 0, 4⟩], 4, 4, .ro, 0x0, 0, 0xF⟩
/-- Table 11-9: RO, `LEG_MVBc_MASTER`. -/
def LEG_MVBc_MASTER : Row := ⟨0x300010, [⟨0x100, 0, 0, 4⟩], 8, 1, .ro, 0x0, 0, 0x1⟩
/-- Table 11-9: RO, `LEG_MVBc_TRUST`. -/
def LEG_MVBc_TRUST : Row := ⟨0x300010, [⟨0x100, 0, 0, 4⟩], 9, 1, .ro, 0x0, 0, 0x1⟩
/-- Table 11-9: RO, `LEG_MVBc_PORTS`. -/
def LEG_MVBc_PORTS : Row := ⟨0x300010, [⟨0x100, 0, 0, 4⟩], 16, 11, .ro, 0x0, 0, 0x7FF⟩
/-- Table 11-9: RC, `LEG_MVBc_ERR_A`. -/
def LEG_MVBc_ERR_A : Row := ⟨0x300018, [⟨0x100, 0, 0, 4⟩], 0, 16, .rc, 0x0, 0, 0xFFFF⟩
/-- Table 11-9: RC, `LEG_MVBc_ERR_B`. -/
def LEG_MVBc_ERR_B : Row := ⟨0x300018, [⟨0x100, 0, 0, 4⟩], 16, 16, .rc, 0x0, 0, 0xFFFF⟩
/-- Table 11-9: RC, `LEG_MVBc_NOREPLY`. -/
def LEG_MVBc_NOREPLY : Row := ⟨0x300018, [⟨0x100, 0, 0, 4⟩], 32, 16, .rc, 0x0, 0, 0xFFFF⟩
/-- Table 11-9: RC, `LEG_MVBc_TMO`. -/
def LEG_MVBc_TMO : Row := ⟨0x300018, [⟨0x100, 0, 0, 4⟩], 48, 16, .rc, 0x0, 0, 0xFFFF⟩
/-- Table 11-9: RC, `LEG_MVBc_SWITCH`. -/
def LEG_MVBc_SWITCH : Row := ⟨0x300020, [⟨0x100, 0, 0, 4⟩], 0, 16, .rc, 0x0, 0, 0xFFFF⟩
/-- Table 11-9: RC, `LEG_MVBc_IGNORED`. -/
def LEG_MVBc_IGNORED : Row := ⟨0x300020, [⟨0x100, 0, 0, 4⟩], 16, 16, .rc, 0x0, 0, 0xFFFF⟩
/-- Table 11-9: RC, `LEG_MVBc_OVERWRITE`. -/
def LEG_MVBc_OVERWRITE : Row := ⟨0x300020, [⟨0x100, 0, 0, 4⟩], 32, 16, .rc, 0x0, 0, 0xFFFF⟩
/-- Table 11-9: RC, `LEG_MVBc_TAKEOVERS`. -/
def LEG_MVBc_TAKEOVERS : Row := ⟨0x300020, [⟨0x100, 0, 0, 4⟩], 48, 16, .rc, 0x0, 0, 0xFFFF⟩
/-- Table 11-9: RW, `LEG_WTB_LINE_EN`. -/
def LEG_WTB_LINE_EN : Row := ⟨0x300400, [], 0, 4, .rw, 0x0, 0, 0xF⟩
/-- Table 11-9: RW, `LEG_WTB_ROLE`. -/
def LEG_WTB_ROLE : Row := ⟨0x300400, [], 4, 2, .rw, 0x0, 0, 0x3⟩
/-- Table 11-9: RW, `LEG_WTB_FOREIGN_DIR`. -/
def LEG_WTB_FOREIGN_DIR : Row := ⟨0x300400, [], 6, 1, .rw, 0x0, 0, 0x1⟩
/-- Table 11-9: RW, `LEG_WTB_END`. -/
def LEG_WTB_END : Row := ⟨0x300400, [], 7, 1, .rw, 0x0, 0, 0x1⟩
/-- Table 11-9: RW, `LEG_WTB_FRAME_SIZE`. -/
def LEG_WTB_FRAME_SIZE : Row := ⟨0x300400, [], 8, 8, .rw, 0x0, 0, 0x80⟩
/-- Table 11-9: RW, `LEG_WTB_PERIOD`. -/
def LEG_WTB_PERIOD : Row := ⟨0x300400, [], 16, 3, .rw, 0x0, 0, 0x6⟩
/-- Table 11-9: RW, `LEG_WTB_NODE_KEY`. -/
def LEG_WTB_NODE_KEY : Row := ⟨0x300400, [], 32, 16, .rw, 0x0, 0, 0xFFFF⟩
/-- Table 11-9: RW, `LEG_WTB_PD_TMO`. -/
def LEG_WTB_PD_TMO : Row := ⟨0x300408, [], 0, 16, .rw, 0x0, 0, 0xEA60⟩
/-- Table 11-9: RO, `LEG_WTB_STATE`. -/
def LEG_WTB_STATE : Row := ⟨0x300410, [], 0, 3, .ro, 0x0, 0, 0x7⟩
/-- Table 11-9: RO, `LEG_WTB_MASTER`. -/
def LEG_WTB_MASTER : Row := ⟨0x300410, [], 3, 1, .ro, 0x0, 0, 0x1⟩
/-- Table 11-9: RO, `LEG_WTB_END_NODE`. -/
def LEG_WTB_END_NODE : Row := ⟨0x300410, [], 4, 1, .ro, 0x0, 0, 0x1⟩
/-- Table 11-9: RO, `LEG_WTB_ADDR`. -/
def LEG_WTB_ADDR : Row := ⟨0x300410, [], 8, 6, .ro, 0x0, 0, 0x3F⟩
/-- Table 11-9: RO, `LEG_WTB_FOREIGN`. -/
def LEG_WTB_FOREIGN : Row := ⟨0x300410, [], 16, 6, .ro, 0x0, 0, 0x3F⟩
/-- Table 11-9: RO, `LEG_WTB_NODES`. -/
def LEG_WTB_NODES : Row := ⟨0x300410, [], 24, 6, .ro, 0x0, 0, 0x3F⟩
/-- Table 11-9: RO, `LEG_WTB_OTHERSIDE`. -/
def LEG_WTB_OTHERSIDE : Row := ⟨0x300410, [], 32, 6, .ro, 0x0, 0, 0x3F⟩
/-- Table 11-9: RC, `LEG_WTB_INAUGS`. -/
def LEG_WTB_INAUGS : Row := ⟨0x300418, [], 0, 16, .rc, 0x0, 0, 0xFFFF⟩
/-- Table 11-9: RC, `LEG_WTB_ERR`. -/
def LEG_WTB_ERR : Row := ⟨0x300418, [], 16, 16, .rc, 0x0, 0, 0xFFFF⟩
/-- Table 11-9: RC, `LEG_WTB_TMO`. -/
def LEG_WTB_TMO : Row := ⟨0x300418, [], 32, 16, .rc, 0x0, 0, 0xFFFF⟩
/-- Table 11-9: RC, `LEG_WTB_IGNORED`. -/
def LEG_WTB_IGNORED : Row := ⟨0x300418, [], 48, 16, .rc, 0x0, 0, 0xFFFF⟩
/-- Table 11-9: RO, `LEG_WTB_FNk_ADDR`. -/
def LEG_WTB_FNk_ADDR : Row := ⟨0x3004F8, [⟨0x8, 0, 1, 63⟩], 0, 6, .ro, 0x0, 0, 0x3F⟩
/-- Table 11-9: RO, `LEG_WTB_FNk_INV`. -/
def LEG_WTB_FNk_INV : Row := ⟨0x3004F8, [⟨0x8, 0, 1, 63⟩], 6, 1, .ro, 0x0, 0, 0x1⟩
/-- Table 11-9: RO, `LEG_WTB_FNk_VALID`. -/
def LEG_WTB_FNk_VALID : Row := ⟨0x3004F8, [⟨0x8, 0, 1, 63⟩], 7, 1, .ro, 0x0, 0, 0x1⟩
/-- Table 11-9: RO, `LEG_WTB_FNk_KEY`. -/
def LEG_WTB_FNk_KEY : Row := ⟨0x3004F8, [⟨0x8, 0, 1, 63⟩], 16, 16, .ro, 0x0, 0, 0xFFFF⟩
/-- Table 11-9: RW, `LEG_CANk_CFG_EN`. -/
def LEG_CANk_CFG_EN : Row := ⟨0x301000, [⟨0x100, 0, 0, 12⟩], 0, 1, .rw, 0x0, 0, 0x1⟩
/-- Table 11-9: RW, `LEG_CANk_LISTEN`. -/
def LEG_CANk_LISTEN : Row := ⟨0x301000, [⟨0x100, 0, 0, 12⟩], 1, 1, .rw, 0x0, 0, 0x1⟩
/-- Table 11-9: RW, `LEG_CANk_FD_EN`. -/
def LEG_CANk_FD_EN : Row := ⟨0x301000, [⟨0x100, 0, 0, 12⟩], 2, 1, .rw, 0x0, 0, 0x1⟩
/-- Table 11-9: RW, `LEG_CANk_AUTO_RECOVER`. -/
def LEG_CANk_AUTO_RECOVER : Row := ⟨0x301000, [⟨0x100, 0, 0, 12⟩], 3, 1, .rw, 0x1, 0, 0x1⟩
/-- Table 11-9: RW, `LEG_CANk_NBRP`. -/
def LEG_CANk_NBRP : Row := ⟨0x301008, [⟨0x100, 0, 0, 12⟩], 0, 6, .rw, 0x1, 1, 0x20⟩
/-- Table 11-9: RW, `LEG_CANk_NTSEG1`. -/
def LEG_CANk_NTSEG1 : Row := ⟨0x301008, [⟨0x100, 0, 0, 12⟩], 8, 8, .rw, 0x7F, 2, 0xFF⟩
/-- Table 11-9: RW, `LEG_CANk_NTSEG2`. -/
def LEG_CANk_NTSEG2 : Row := ⟨0x301008, [⟨0x100, 0, 0, 12⟩], 16, 8, .rw, 0x20, 2, 0x80⟩
/-- Table 11-9: RW, `LEG_CANk_NSJW`. -/
def LEG_CANk_NSJW : Row := ⟨0x301008, [⟨0x100, 0, 0, 12⟩], 24, 8, .rw, 0x20, 1, 0x80⟩
/-- Table 11-9: RW, `LEG_CANk_DBRP`. -/
def LEG_CANk_DBRP : Row := ⟨0x301008, [⟨0x100, 0, 0, 12⟩], 32, 6, .rw, 0x2, 1, 0x20⟩
/-- Table 11-9: RW, `LEG_CANk_DTSEG1`. -/
def LEG_CANk_DTSEG1 : Row := ⟨0x301008, [⟨0x100, 0, 0, 12⟩], 40, 5, .rw, 0xF, 1, 0x1F⟩
/-- Table 11-9: RW, `LEG_CANk_DTSEG2`. -/
def LEG_CANk_DTSEG2 : Row := ⟨0x301008, [⟨0x100, 0, 0, 12⟩], 48, 4, .rw, 0x4, 1, 0xF⟩
/-- Table 11-9: RW, `LEG_CANk_DSJW`. -/
def LEG_CANk_DSJW : Row := ⟨0x301008, [⟨0x100, 0, 0, 12⟩], 56, 4, .rw, 0x4, 1, 0xF⟩
/-- Table 11-9: RW, `LEG_CANk_TDCO`. -/
def LEG_CANk_TDCO : Row := ⟨0x301010, [⟨0x100, 0, 0, 12⟩], 0, 7, .rw, 0x10, 0, 0x7F⟩
/-- Table 11-9: RW, `LEG_CANk_TDC_EN`. -/
def LEG_CANk_TDC_EN : Row := ⟨0x301010, [⟨0x100, 0, 0, 12⟩], 16, 1, .rw, 0x0, 0, 0x1⟩
/-- Table 11-9: RW, `LEG_CANk_TX_AGE_MS`. -/
def LEG_CANk_TX_AGE_MS : Row := ⟨0x301010, [⟨0x100, 0, 0, 12⟩], 32, 16, .rw, 0x64, 1, 0x2710⟩
/-- Table 11-9: RO, `LEG_CANk_OPER`. -/
def LEG_CANk_OPER : Row := ⟨0x301018, [⟨0x100, 0, 0, 12⟩], 0, 4, .ro, 0x0, 0, 0xF⟩
/-- Table 11-9: RO, `LEG_CANk_ESTATE`. -/
def LEG_CANk_ESTATE : Row := ⟨0x301018, [⟨0x100, 0, 0, 12⟩], 4, 2, .ro, 0x0, 0, 0x3⟩
/-- Table 11-9: RO, `LEG_CANk_TEC`. -/
def LEG_CANk_TEC : Row := ⟨0x301018, [⟨0x100, 0, 0, 12⟩], 8, 8, .ro, 0x0, 0, 0xFF⟩
/-- Table 11-9: RO, `LEG_CANk_REC`. -/
def LEG_CANk_REC : Row := ⟨0x301018, [⟨0x100, 0, 0, 12⟩], 16, 8, .ro, 0x0, 0, 0xFF⟩
/-- Table 11-9: RO, `LEG_CANk_TDC_MEAS`. -/
def LEG_CANk_TDC_MEAS : Row := ⟨0x301018, [⟨0x100, 0, 0, 12⟩], 32, 9, .ro, 0x0, 0, 0x1FF⟩
/-- Table 11-9: RC, `LEG_CANk_NOMATCH`. -/
def LEG_CANk_NOMATCH : Row := ⟨0x301020, [⟨0x100, 0, 0, 12⟩], 0, 16, .rc, 0x0, 0, 0xFFFF⟩
/-- Table 11-9: RC, `LEG_CANk_TMO`. -/
def LEG_CANk_TMO : Row := ⟨0x301020, [⟨0x100, 0, 0, 12⟩], 16, 16, .rc, 0x0, 0, 0xFFFF⟩
/-- Table 11-9: RC, `LEG_CANk_OVERWRITE`. -/
def LEG_CANk_OVERWRITE : Row := ⟨0x301020, [⟨0x100, 0, 0, 12⟩], 32, 16, .rc, 0x0, 0, 0xFFFF⟩
/-- Table 11-9: RC, `LEG_CANk_TX_AGED`. -/
def LEG_CANk_TX_AGED : Row := ⟨0x301020, [⟨0x100, 0, 0, 12⟩], 48, 16, .rc, 0x0, 0, 0xFFFF⟩
/-- Table 11-9: RC, `LEG_CANk_BUSOFF`. -/
def LEG_CANk_BUSOFF : Row := ⟨0x301028, [⟨0x100, 0, 0, 12⟩], 0, 16, .rc, 0x0, 0, 0xFFFF⟩
/-- Table 11-9: RC, `LEG_CANk_REMOTE`. -/
def LEG_CANk_REMOTE : Row := ⟨0x301028, [⟨0x100, 0, 0, 12⟩], 16, 16, .rc, 0x0, 0, 0xFFFF⟩
/-- Table 11-9: RC, `LEG_CANk_ERRFRAMES`. -/
def LEG_CANk_ERRFRAMES : Row := ⟨0x301028, [⟨0x100, 0, 0, 12⟩], 32, 16, .rc, 0x0, 0, 0xFFFF⟩
/-- Table 11-9: RC, `LEG_CANk_LENDIFF`. -/
def LEG_CANk_LENDIFF : Row := ⟨0x301028, [⟨0x100, 0, 0, 12⟩], 48, 16, .rc, 0x0, 0, 0xFFFF⟩
/-- Table 11-9: RW, `LEG_SERs_CFG_EN`. -/
def LEG_SERs_CFG_EN : Row := ⟨0x302000, [⟨0x100, 0, 0, 12⟩], 0, 1, .rw, 0x0, 0, 0x1⟩
/-- Table 11-9: RW, `LEG_SERs_MODE`. -/
def LEG_SERs_MODE : Row := ⟨0x302000, [⟨0x100, 0, 0, 12⟩], 1, 1, .rw, 0x0, 0, 0x1⟩
/-- Table 11-9: RW, `LEG_SERs_DATA7`. -/
def LEG_SERs_DATA7 : Row := ⟨0x302000, [⟨0x100, 0, 0, 12⟩], 2, 1, .rw, 0x0, 0, 0x1⟩
/-- Table 11-9: RW, `LEG_SERs_PARITY`. -/
def LEG_SERs_PARITY : Row := ⟨0x302000, [⟨0x100, 0, 0, 12⟩], 3, 2, .rw, 0x0, 0, 0x2⟩
/-- Table 11-9: RW, `LEG_SERs_STOP2`. -/
def LEG_SERs_STOP2 : Row := ⟨0x302000, [⟨0x100, 0, 0, 12⟩], 5, 1, .rw, 0x0, 0, 0x1⟩
/-- Table 11-9: RW, `LEG_SERs_CRC`. -/
def LEG_SERs_CRC : Row := ⟨0x302000, [⟨0x100, 0, 0, 12⟩], 6, 1, .rw, 0x0, 0, 0x1⟩
/-- Table 11-9: RW, `LEG_SERs_DE_LEAD`. -/
def LEG_SERs_DE_LEAD : Row := ⟨0x302000, [⟨0x100, 0, 0, 12⟩], 8, 4, .rw, 0x1, 0, 0xF⟩
/-- Table 11-9: RW, `LEG_SERs_DE_LAG`. -/
def LEG_SERs_DE_LAG : Row := ⟨0x302000, [⟨0x100, 0, 0, 12⟩], 12, 4, .rw, 0x1, 0, 0xF⟩
/-- Table 11-9: RW, `LEG_SERs_GAP`. -/
def LEG_SERs_GAP : Row := ⟨0x302000, [⟨0x100, 0, 0, 12⟩], 16, 16, .rw, 0x28, 10, 0x3E8⟩
/-- Table 11-9: RW, `LEG_SERs_DIV`. -/
def LEG_SERs_DIV : Row := ⟨0x302000, [⟨0x100, 0, 0, 12⟩], 32, 22, .rw, 0x54C5, 208, 0x1FCA06⟩
/-- Table 11-9: RW, `LEG_SERs_RESP_US`. -/
def LEG_SERs_RESP_US : Row := ⟨0x302008, [⟨0x100, 0, 0, 12⟩], 0, 16, .rw, 0x3E8, 10, 0xEA60⟩
/-- Table 11-9: RO, `LEG_SERs_OPER`. -/
def LEG_SERs_OPER : Row := ⟨0x302010, [⟨0x100, 0, 0, 12⟩], 0, 4, .ro, 0x0, 0, 0xF⟩
/-- Table 11-9: RO, `LEG_SERs_WAITING`. -/
def LEG_SERs_WAITING : Row := ⟨0x302010, [⟨0x100, 0, 0, 12⟩], 4, 1, .ro, 0x0, 0, 0x1⟩
/-- Table 11-9: RC, `LEG_SERs_FRAME_ERR`. -/
def LEG_SERs_FRAME_ERR : Row := ⟨0x302018, [⟨0x100, 0, 0, 12⟩], 0, 16, .rc, 0x0, 0, 0xFFFF⟩
/-- Table 11-9: RC, `LEG_SERs_CRC_ERR`. -/
def LEG_SERs_CRC_ERR : Row := ⟨0x302018, [⟨0x100, 0, 0, 12⟩], 16, 16, .rc, 0x0, 0, 0xFFFF⟩
/-- Table 11-9: RC, `LEG_SERs_NOMATCH`. -/
def LEG_SERs_NOMATCH : Row := ⟨0x302018, [⟨0x100, 0, 0, 12⟩], 32, 16, .rc, 0x0, 0, 0xFFFF⟩
/-- Table 11-9: RC, `LEG_SERs_TMO`. -/
def LEG_SERs_TMO : Row := ⟨0x302018, [⟨0x100, 0, 0, 12⟩], 48, 16, .rc, 0x0, 0, 0xFFFF⟩
/-- Table 11-9: RC, `LEG_SERs_NORESP`. -/
def LEG_SERs_NORESP : Row := ⟨0x302020, [⟨0x100, 0, 0, 12⟩], 0, 16, .rc, 0x0, 0, 0xFFFF⟩
/-- Table 11-9: RC, `LEG_SERs_LATE`. -/
def LEG_SERs_LATE : Row := ⟨0x302020, [⟨0x100, 0, 0, 12⟩], 16, 16, .rc, 0x0, 0, 0xFFFF⟩
/-- Table 11-9: RC, `LEG_SERs_TXQ_DROP`. -/
def LEG_SERs_TXQ_DROP : Row := ⟨0x302020, [⟨0x100, 0, 0, 12⟩], 32, 16, .rc, 0x0, 0, 0xFFFF⟩
/-- Table 11-9: RC, `LEG_SERs_BREAK`. -/
def LEG_SERs_BREAK : Row := ⟨0x302020, [⟨0x100, 0, 0, 12⟩], 48, 16, .rc, 0x0, 0, 0xFFFF⟩
/-- Table 11-9: RO, `MP_ADDR`. -/
def MP_ADDR : Row := ⟨0x310000, [⟨0x2000, 0, 0, 4⟩, ⟨0x8, 0, 0, 1024⟩], 0, 12, .ro, 0x0, 0, 0xFFF⟩
/-- Table 11-9: RO, `MP_FCODE`. -/
def MP_FCODE : Row := ⟨0x310000, [⟨0x2000, 0, 0, 4⟩, ⟨0x8, 0, 0, 1024⟩], 12, 3, .ro, 0x0, 0, 0x7⟩
/-- Table 11-9: RO, `MP_VALID`. -/
def MP_VALID : Row := ⟨0x310000, [⟨0x2000, 0, 0, 4⟩, ⟨0x8, 0, 0, 1024⟩], 15, 1, .ro, 0x0, 0, 0x1⟩
/-- Table 11-9: RO, `MP_SOURCE`. -/
def MP_SOURCE : Row := ⟨0x310000, [⟨0x2000, 0, 0, 4⟩, ⟨0x8, 0, 0, 1024⟩], 16, 1, .ro, 0x0, 0, 0x1⟩
/-- Table 11-9: RO, `MP_POLL`. -/
def MP_POLL : Row := ⟨0x310000, [⟨0x2000, 0, 0, 4⟩, ⟨0x8, 0, 0, 1024⟩], 17, 1, .ro, 0x0, 0, 0x1⟩
/-- Table 11-9: RO, `MP_PERIOD`. -/
def MP_PERIOD : Row := ⟨0x310000, [⟨0x2000, 0, 0, 4⟩, ⟨0x8, 0, 0, 1024⟩], 18, 4, .ro, 0x0, 0, 0xF⟩
/-- Table 11-9: RO, `MP_PHASE`. -/
def MP_PHASE : Row := ⟨0x310000, [⟨0x2000, 0, 0, 4⟩, ⟨0x8, 0, 0, 1024⟩], 22, 10, .ro, 0x0, 0, 0x3FF⟩
/-- Table 11-9: RO, `MP_TMO`. -/
def MP_TMO : Row := ⟨0x310000, [⟨0x2000, 0, 0, 4⟩, ⟨0x8, 0, 0, 1024⟩], 32, 16, .ro, 0x0, 0, 0xFFFF⟩
/-- Table 11-9: RO, `CM_ID`. -/
def CM_ID : Row := ⟨0x320000, [⟨0x400, 0, 0, 12⟩, ⟨0x8, 0, 0, 128⟩], 0, 29, .ro, 0x0, 0, 0x1FFFFFFF⟩
/-- Table 11-9: RO, `CM_IDE`. -/
def CM_IDE : Row := ⟨0x320000, [⟨0x400, 0, 0, 12⟩, ⟨0x8, 0, 0, 128⟩], 31, 1, .ro, 0x0, 0, 0x1⟩
/-- Table 11-9: RO, `CM_VALID`. -/
def CM_VALID : Row := ⟨0x320000, [⟨0x400, 0, 0, 12⟩, ⟨0x8, 0, 0, 128⟩], 32, 1, .ro, 0x0, 0, 0x1⟩
/-- Table 11-9: RO, `CM_TX`. -/
def CM_TX : Row := ⟨0x320000, [⟨0x400, 0, 0, 12⟩, ⟨0x8, 0, 0, 128⟩], 33, 1, .ro, 0x0, 0, 0x1⟩
/-- Table 11-9: RO, `CM_FDF`. -/
def CM_FDF : Row := ⟨0x320000, [⟨0x400, 0, 0, 12⟩, ⟨0x8, 0, 0, 128⟩], 34, 1, .ro, 0x0, 0, 0x1⟩
/-- Table 11-9: RO, `CM_BRS`. -/
def CM_BRS : Row := ⟨0x320000, [⟨0x400, 0, 0, 12⟩, ⟨0x8, 0, 0, 128⟩], 35, 1, .ro, 0x0, 0, 0x1⟩
/-- Table 11-9: RO, `CM_LEN`. -/
def CM_LEN : Row := ⟨0x320000, [⟨0x400, 0, 0, 12⟩, ⟨0x8, 0, 0, 128⟩], 40, 7, .ro, 0x0, 0, 0x7F⟩
/-- Table 11-9: RO, `CM_TMO`. -/
def CM_TMO : Row := ⟨0x320000, [⟨0x400, 0, 0, 12⟩, ⟨0x8, 0, 0, 128⟩], 48, 16, .ro, 0x0, 0, 0xFFFF⟩
/-- Table 11-9: RO, `SE_VALUE`. -/
def SE_VALUE : Row := ⟨0x330000, [⟨0x400, 0, 0, 12⟩, ⟨0x10, 0, 0, 64⟩], 0, 32, .ro, 0x0, 0, 0xFFFFFFFF⟩
/-- Table 11-9: RO, `SE_MASK`. -/
def SE_MASK : Row := ⟨0x330000, [⟨0x400, 0, 0, 12⟩, ⟨0x10, 0, 0, 64⟩], 32, 32, .ro, 0x0, 0, 0xFFFFFFFF⟩
/-- Table 11-9: RO, `SE_VALID`. -/
def SE_VALID : Row := ⟨0x330008, [⟨0x400, 0, 0, 12⟩, ⟨0x10, 0, 0, 64⟩], 0, 1, .ro, 0x0, 0, 0x1⟩
/-- Table 11-9: RO, `SE_TX`. -/
def SE_TX : Row := ⟨0x330008, [⟨0x400, 0, 0, 12⟩, ⟨0x10, 0, 0, 64⟩], 1, 1, .ro, 0x0, 0, 0x1⟩
/-- Table 11-9: RO, `SE_EXPECT`. -/
def SE_EXPECT : Row := ⟨0x330008, [⟨0x400, 0, 0, 12⟩, ⟨0x10, 0, 0, 64⟩], 2, 1, .ro, 0x0, 0, 0x1⟩
/-- Table 11-9: RO, `SE_LEN_MIN`. -/
def SE_LEN_MIN : Row := ⟨0x330008, [⟨0x400, 0, 0, 12⟩, ⟨0x10, 0, 0, 64⟩], 16, 9, .ro, 0x0, 0, 0x1FF⟩
/-- Table 11-9: RO, `SE_LEN_MAX`. -/
def SE_LEN_MAX : Row := ⟨0x330008, [⟨0x400, 0, 0, 12⟩, ⟨0x10, 0, 0, 64⟩], 32, 9, .ro, 0x0, 0, 0x1FF⟩
/-- Table 11-9: RO, `SE_TMO`. -/
def SE_TMO : Row := ⟨0x330008, [⟨0x400, 0, 0, 12⟩, ⟨0x10, 0, 0, 64⟩], 48, 16, .ro, 0x0, 0, 0xFFFF⟩

/-! Block RAB, Table 12-5. -/

/-- Table 12-5: RW, `RAB_TIMEOUT_US`. -/
def RAB_TIMEOUT_US : Row := ⟨0x340000, [], 0, 20, .rw, 0x7D0, 100, 0xF4240⟩
/-- Table 12-5: RW, `RAB_GAP_US`. -/
def RAB_GAP_US : Row := ⟨0x340000, [], 32, 16, .rw, 0x3E8, 100, 0xEA60⟩
/-- Table 12-5: RW, `RAB_TARGET_EN`. -/
def RAB_TARGET_EN : Row := ⟨0x340000, [], 48, 1, .rw, 0x1, 0, 0x1⟩
/-- Table 12-5: RO, `RAB_OUT_HA`. -/
def RAB_OUT_HA : Row := ⟨0x340008, [], 0, 9, .ro, 0x0, 0, 0x1FF⟩
/-- Table 12-5: RO, `RAB_OUT_HB`. -/
def RAB_OUT_HB : Row := ⟨0x340008, [], 16, 9, .ro, 0x0, 0, 0x1FF⟩
/-- Table 12-5: RO, `RAB_OUT_SS`. -/
def RAB_OUT_SS : Row := ⟨0x340008, [], 32, 9, .ro, 0x0, 0, 0x1FF⟩
/-- Table 12-5: RO, `RAB_OUT_MT`. -/
def RAB_OUT_MT : Row := ⟨0x340008, [], 48, 9, .ro, 0x0, 0, 0x1FF⟩
/-- Table 12-5: RO, `RAB_POSTED_Q`. -/
def RAB_POSTED_Q : Row := ⟨0x340010, [], 0, 16, .ro, 0x0, 0, 0xFFFF⟩
/-- Table 12-5: RO, `RAB_SEM_HELD`. -/
def RAB_SEM_HELD : Row := ⟨0x340010, [], 16, 7, .ro, 0x0, 0, 0x7F⟩
/-- Table 12-5: RC, `RAB_LATE`. -/
def RAB_LATE : Row := ⟨0x340018, [], 0, 32, .rc, 0x0, 0, 0xFFFFFFFF⟩
/-- Table 12-5: RC, `RAB_TIMEOUTS`. -/
def RAB_TIMEOUTS : Row := ⟨0x340018, [], 32, 32, .rc, 0x0, 0, 0xFFFFFFFF⟩
/-- Table 12-5: RC, `RAB_GAP_SKIPS`. -/
def RAB_GAP_SKIPS : Row := ⟨0x340020, [], 0, 32, .rc, 0x0, 0, 0xFFFFFFFF⟩
/-- Table 12-5: RC, `RAB_REASM_FAIL`. -/
def RAB_REASM_FAIL : Row := ⟨0x340020, [], 32, 32, .rc, 0x0, 0, 0xFFFFFFFF⟩
/-- Table 12-5: RC, `RAB_POSTED_ERR`. -/
def RAB_POSTED_ERR : Row := ⟨0x340028, [], 0, 32, .rc, 0x0, 0, 0xFFFFFFFF⟩
/-- Table 12-5: RC, `RAB_TGT_FULL`. -/
def RAB_TGT_FULL : Row := ⟨0x340028, [], 32, 32, .rc, 0x0, 0, 0xFFFFFFFF⟩
/-- Table 12-5: RC, `RAB_REQ_TX`. -/
def RAB_REQ_TX : Row := ⟨0x340030, [], 0, 32, .rc, 0x0, 0, 0xFFFFFFFF⟩
/-- Table 12-5: RC, `RAB_REQ_RX`. -/
def RAB_REQ_RX : Row := ⟨0x340030, [], 32, 32, .rc, 0x0, 0, 0xFFFFFFFF⟩
/-- Table 12-5: RO, `RAB_PERR_NODE`. -/
def RAB_PERR_NODE : Row := ⟨0x340038, [], 0, 16, .ro, 0x0, 0, 0xFFFF⟩
/-- Table 12-5: RO, `RAB_PERR_OPCODE`. -/
def RAB_PERR_OPCODE : Row := ⟨0x340038, [], 16, 16, .ro, 0x0, 0, 0xFFFF⟩
/-- Table 12-5: RO, `RAB_PERR_STATUS`. -/
def RAB_PERR_STATUS : Row := ⟨0x340038, [], 32, 16, .ro, 0x0, 0, 0xFFFF⟩
/-- Table 12-5: RO, `RAB_PERR_SEQ`. -/
def RAB_PERR_SEQ : Row := ⟨0x340038, [], 48, 16, .ro, 0x0, 0, 0xFFFF⟩
/-- Table 12-5: RC, `RAB_SEM_EXPIRED`. -/
def RAB_SEM_EXPIRED : Row := ⟨0x340040, [], 0, 16, .rc, 0x0, 0, 0xFFFF⟩
/-- Table 12-5: RC, `RAB_SEM_PORTREL`. -/
def RAB_SEM_PORTREL : Row := ⟨0x340040, [], 16, 16, .rc, 0x0, 0, 0xFFFF⟩
/-- Table 12-5: RO, `RAB_PERR_REASON`. -/
def RAB_PERR_REASON : Row := ⟨0x340040, [], 32, 16, .ro, 0x0, 0, 0xFFFF⟩
/-- Table 12-5: RO, `RAB_SEMi_OWNER_UID`. -/
def RAB_SEMi_OWNER_UID : Row := ⟨0x340100, [⟨0x10, 0, 0, 64⟩], 0, 64, .ro, 0x0, 0, 0xFFFFFFFFFFFFFFFF⟩
/-- Table 12-5: RO, `RAB_SEMi_PORT`. -/
def RAB_SEMi_PORT : Row := ⟨0x340108, [⟨0x10, 0, 0, 64⟩], 0, 8, .ro, 0x0, 0, 0xFF⟩
/-- Table 12-5: RO, `RAB_SEMi_HELD`. -/
def RAB_SEMi_HELD : Row := ⟨0x340108, [⟨0x10, 0, 0, 64⟩], 8, 1, .ro, 0x0, 0, 0x1⟩
/-- Table 12-5: RO, `RAB_SEMi_LEFT_MS`. -/
def RAB_SEMi_LEFT_MS : Row := ⟨0x340108, [⟨0x10, 0, 0, 64⟩], 32, 32, .ro, 0x0, 0, 0xFFFFFFFF⟩

/-! Block FLD, Table 13-7. -/

/-- Table 13-7: RW, `FC_MODE`. -/
def FC_MODE : Row := ⟨0x380000, [⟨0x100, 0, 0, 256⟩], 0, 3, .rw, 0x0, 0, 0x5⟩
/-- Table 13-7: RW, `FC_ITYPE`. -/
def FC_ITYPE : Row := ⟨0x380000, [⟨0x100, 0, 0, 256⟩], 3, 1, .rw, 0x0, 0, 0x1⟩
/-- Table 13-7: RW, `FC_PAIRED`. -/
def FC_PAIRED : Row := ⟨0x380000, [⟨0x100, 0, 0, 256⟩], 4, 1, .rw, 0x0, 0, 0x1⟩
/-- Table 13-7: RW, `FC_OPEN_ON_FAULT`. -/
def FC_OPEN_ON_FAULT : Row := ⟨0x380000, [⟨0x100, 0, 0, 256⟩], 5, 1, .rw, 0x0, 0, 0x1⟩
/-- Table 13-7: RW, `FC_OL_EN`. -/
def FC_OL_EN : Row := ⟨0x380000, [⟨0x100, 0, 0, 256⟩], 6, 1, .rw, 0x0, 0, 0x1⟩
/-- Table 13-7: RW, `FC_FILT_N`. -/
def FC_FILT_N : Row := ⟨0x380000, [⟨0x100, 0, 0, 256⟩], 16, 16, .rw, 0xA, 1, 0xFFFF⟩
/-- Table 13-7: RW, `FC_SAMPLE_US`. -/
def FC_SAMPLE_US : Row := ⟨0x380000, [⟨0x100, 0, 0, 256⟩], 32, 10, .rw, 0x64, 1, 0x3E8⟩
/-- Table 13-7: RW, `FC_LAVG_LOG2`. -/
def FC_LAVG_LOG2 : Row := ⟨0x380000, [⟨0x100, 0, 0, 256⟩], 48, 4, .rw, 0x4, 0, 0x8⟩
/-- Table 13-7: RW, `FC_OWNER_KIND`. -/
def FC_OWNER_KIND : Row := ⟨0x380008, [⟨0x100, 0, 0, 256⟩], 0, 2, .rw, 0x0, 0, 0x2⟩
/-- Table 13-7: RW, `FC_OWNER_SIG`. -/
def FC_OWNER_SIG : Row := ⟨0x380008, [⟨0x100, 0, 0, 256⟩], 32, 18, .rw, 0x0, 0, 0x3FFFF⟩
/-- Table 13-7: RW, `FC_OC_TIME`. -/
def FC_OC_TIME : Row := ⟨0x380010, [⟨0x100, 0, 0, 256⟩], 0, 10, .rw, 0x64, 1, 0x3E8⟩
/-- Table 13-7: RO, the reserved word 0x18 of a channel. -/
def FC_RESERVED : Row := ⟨0x380018, [⟨0x100, 0, 0, 256⟩], 0, 64, .ro, 0x0, 0, 0xFFFFFFFFFFFFFFFF⟩
/-- Table 13-7: RW, `FC_SAFE_LEVEL`. -/
def FC_SAFE_LEVEL : Row := ⟨0x380020, [⟨0x100, 0, 0, 256⟩], 0, 2, .rw, 0x0, 0, 0x3⟩
/-- Table 13-7: RW, `FC_SAFE_LATCH`. -/
def FC_SAFE_LATCH : Row := ⟨0x380020, [⟨0x100, 0, 0, 256⟩], 7, 1, .rw, 0x0, 0, 0x1⟩
/-- Table 13-7: RW, `FC_WDT_MS`. -/
def FC_WDT_MS : Row := ⟨0x380020, [⟨0x100, 0, 0, 256⟩], 32, 14, .rw, 0x64, 1, 0x2710⟩
/-- Table 13-7: RO, `FC_IN_STATE`. -/
def FC_IN_STATE : Row := ⟨0x380040, [⟨0x100, 0, 0, 256⟩], 0, 1, .ro, 0x0, 0, 0x1⟩
/-- Table 13-7: RO, `FC_WBREAK`. -/
def FC_WBREAK : Row := ⟨0x380040, [⟨0x100, 0, 0, 256⟩], 1, 1, .ro, 0x0, 0, 0x1⟩
/-- Table 13-7: RO, `FC_OUT_LEVEL`. -/
def FC_OUT_LEVEL : Row := ⟨0x380040, [⟨0x100, 0, 0, 256⟩], 2, 1, .ro, 0x0, 0, 0x1⟩
/-- Table 13-7: RO, `FC_SAFE`. -/
def FC_SAFE : Row := ⟨0x380040, [⟨0x100, 0, 0, 256⟩], 3, 1, .ro, 0x0, 0, 0x1⟩
/-- Table 13-7: RO, `FC_HOLD`. -/
def FC_HOLD : Row := ⟨0x380040, [⟨0x100, 0, 0, 256⟩], 4, 1, .ro, 0x0, 0, 0x1⟩
/-- Table 13-7: RO, `FC_LATCHED`. -/
def FC_LATCHED : Row := ⟨0x380040, [⟨0x100, 0, 0, 256⟩], 5, 1, .ro, 0x0, 0, 0x1⟩
/-- Table 13-7: RO, `FC_COMPLIANCE`. -/
def FC_COMPLIANCE : Row := ⟨0x380040, [⟨0x100, 0, 0, 256⟩], 6, 1, .ro, 0x0, 0, 0x1⟩
/-- Table 13-7: RO, `FC_OPENLOAD`. -/
def FC_OPENLOAD : Row := ⟨0x380040, [⟨0x100, 0, 0, 256⟩], 7, 1, .ro, 0x0, 0, 0x1⟩
/-- Table 13-7: RO, `FC_MIRROR_STALE`. -/
def FC_MIRROR_STALE : Row := ⟨0x380040, [⟨0x100, 0, 0, 256⟩], 8, 1, .ro, 0x0, 0, 0x1⟩
/-- Table 13-7: RO, `FC_LIMITING`. -/
def FC_LIMITING : Row := ⟨0x380040, [⟨0x100, 0, 0, 256⟩], 9, 1, .ro, 0x0, 0, 0x1⟩
/-- Table 13-7: RO, `FC_WDT_RUN`. -/
def FC_WDT_RUN : Row := ⟨0x380040, [⟨0x100, 0, 0, 256⟩], 10, 1, .ro, 0x0, 0, 0x1⟩
/-- Table 13-7: RO, `FC_OPER`. -/
def FC_OPER : Row := ⟨0x380040, [⟨0x100, 0, 0, 256⟩], 12, 4, .ro, 0x0, 0, 0xF⟩
/-- Table 13-7: RO, `FC_LATCH_CAUSE`. -/
def FC_LATCH_CAUSE : Row := ⟨0x380040, [⟨0x100, 0, 0, 256⟩], 16, 3, .ro, 0x0, 0, 0x7⟩
/-- Table 13-7: RO, `FC_FILT_CNT`. -/
def FC_FILT_CNT : Row := ⟨0x380040, [⟨0x100, 0, 0, 256⟩], 32, 16, .ro, 0x0, 0, 0xFFFF⟩
/-- Table 13-7: RO, `FC_LOOP_CMD`. -/
def FC_LOOP_CMD : Row := ⟨0x380048, [⟨0x100, 0, 0, 256⟩], 0, 16, .ro, 0x0, 0, 0xFFFF⟩
/-- Table 13-7: RO, `FC_LOOP_MEAS`. -/
def FC_LOOP_MEAS : Row := ⟨0x380048, [⟨0x100, 0, 0, 256⟩], 16, 16, .ro, 0x0, 0, 0xFFFF⟩
/-- Table 13-7: RO, `FC_VTERM`. -/
def FC_VTERM : Row := ⟨0x380048, [⟨0x100, 0, 0, 256⟩], 32, 16, .ro, 0x0, 0, 0xFFFF⟩
/-- Table 13-7: RC, `FC_WDT_EXPIRIES`. -/
def FC_WDT_EXPIRIES : Row := ⟨0x380050, [⟨0x100, 0, 0, 256⟩], 0, 16, .rc, 0x0, 0, 0xFFFF⟩
/-- Table 13-7: RC, `FC_FAULT_CNT`. -/
def FC_FAULT_CNT : Row := ⟨0x380050, [⟨0x100, 0, 0, 256⟩], 16, 16, .rc, 0x0, 0, 0xFFFF⟩
/-- Table 13-7: RC, `FC_TRANSITIONS`. -/
def FC_TRANSITIONS : Row := ⟨0x380050, [⟨0x100, 0, 0, 256⟩], 32, 32, .rc, 0x0, 0, 0xFFFFFFFF⟩
/-- Table 13-7: RO, `FC_WDT_LEFT_MS`. -/
def FC_WDT_LEFT_MS : Row := ⟨0x380058, [⟨0x100, 0, 0, 256⟩], 0, 14, .ro, 0x0, 0, 0x3FFF⟩
/-- Table 13-7: RO, `FC_HOLD_LEFT_MS`. -/
def FC_HOLD_LEFT_MS : Row := ⟨0x380058, [⟨0x100, 0, 0, 256⟩], 16, 7, .ro, 0x0, 0, 0x7F⟩
/-- Table 13-7: RC, `FC_MIRROR_DIFF`. -/
def FC_MIRROR_DIFF : Row := ⟨0x380058, [⟨0x100, 0, 0, 256⟩], 32, 16, .rc, 0x0, 0, 0xFFFF⟩
/-- Table 13-7: RO, `FLD_Bb_VFB_MV`. -/
def FLD_Bb_VFB_MV : Row := ⟨0x390000, [⟨0x20, 0, 0, 8⟩], 0, 16, .ro, 0x0, 0, 0xFFFF⟩
/-- Table 13-7: RO, `FLD_Bb_STATE`. -/
def FLD_Bb_STATE : Row := ⟨0x390000, [⟨0x20, 0, 0, 8⟩], 16, 2, .ro, 0x2, 0, 0x3⟩
/-- Table 13-7: RO, `FLD_Bb_OPER`. -/
def FLD_Bb_OPER : Row := ⟨0x390000, [⟨0x20, 0, 0, 8⟩], 20, 4, .ro, 0x0, 0, 0xF⟩
/-- Table 13-7: RO, `FLD_Bb_DEMAG_MW`. -/
def FLD_Bb_DEMAG_MW : Row := ⟨0x390000, [⟨0x20, 0, 0, 8⟩], 32, 16, .ro, 0x0, 0, 0xFFFF⟩
/-- Table 13-7: RC, `FLD_Bb_LOWS`. -/
def FLD_Bb_LOWS : Row := ⟨0x390008, [⟨0x20, 0, 0, 8⟩], 0, 16, .rc, 0x0, 0, 0xFFFF⟩
/-- Table 13-7: RC, `FLD_Bb_RELEASES`. -/
def FLD_Bb_RELEASES : Row := ⟨0x390008, [⟨0x20, 0, 0, 8⟩], 16, 16, .rc, 0x0, 0, 0xFFFF⟩
/-- Table 13-7: RC, `FLD_Bb_DEMAG_OVER`. -/
def FLD_Bb_DEMAG_OVER : Row := ⟨0x390008, [⟨0x20, 0, 0, 8⟩], 32, 16, .rc, 0x0, 0, 0xFFFF⟩
/-- Table 13-7: RW, `FLD_HOLD_MS`. -/
def FLD_HOLD_MS : Row := ⟨0x390100, [], 0, 7, .rw, 0x32, 1, 0x64⟩
/-- Table 13-7: RO, `FLD_LINK0_UP`. -/
def FLD_LINK0_UP : Row := ⟨0x390100, [], 8, 1, .ro, 0x0, 0, 0x1⟩
/-- Table 13-7: RO, `FLD_LINK1_UP`. -/
def FLD_LINK1_UP : Row := ⟨0x390100, [], 9, 1, .ro, 0x0, 0, 0x1⟩

/-! Block PWR, Table 14-6. -/

/-- Table 14-6: RO reset Live, `PWR_ARB_STATE`. -/
def PWR_ARB_STATE : Row := ⟨0x20000, [], 0, 2, .ro, 0x0, 0, 0x3⟩
/-- Table 14-6: RO reset Live, `PWR_FEEDA_STATE`. -/
def PWR_FEEDA_STATE : Row := ⟨0x20000, [], 2, 2, .ro, 0x0, 0, 0x3⟩
/-- Table 14-6: RO reset Live, `PWR_FEEDB_STATE`. -/
def PWR_FEEDB_STATE : Row := ⟨0x20000, [], 4, 2, .ro, 0x0, 0, 0x3⟩
/-- Table 14-6: RW, `PWR_PREFER`. -/
def PWR_PREFER : Row := ⟨0x20000, [], 6, 2, .rw, 0x0, 0, 0x2⟩
/-- Table 14-6: RO, `PWR_HOLDUP_WARN`. -/
def PWR_HOLDUP_WARN : Row := ⟨0x20000, [], 8, 1, .ro, 0x0, 0, 0x1⟩
/-- Table 14-6: RO reset Live, `PWR_LINK_UP`. -/
def PWR_LINK_UP : Row := ⟨0x20000, [], 9, 1, .ro, 0x0, 0, 0x1⟩
/-- Table 14-6: RO reset Live, `PWR_FEEDA_MV`. -/
def PWR_FEEDA_MV : Row := ⟨0x20008, [], 0, 16, .ro, 0x0, 0, 0xFFFF⟩
/-- Table 14-6: RO reset Live, `PWR_FEEDB_MV`. -/
def PWR_FEEDB_MV : Row := ⟨0x20008, [], 16, 16, .ro, 0x0, 0, 0xFFFF⟩
/-- Table 14-6: RO reset Live, `PWR_INPUT_DW`. -/
def PWR_INPUT_DW : Row := ⟨0x20008, [], 32, 16, .ro, 0x0, 0, 0xFFFF⟩
/-- Table 14-6: RW, `PWR_QUAL_MS`. -/
def PWR_QUAL_MS : Row := ⟨0x20010, [], 0, 10, .rw, 0xA, 1, 0x3E8⟩
/-- Table 14-6: RW, `PWR_RIDE_US`. -/
def PWR_RIDE_US : Row := ⟨0x20010, [], 16, 4, .rw, 0x8, 2, 0xA⟩
/-- Table 14-6: RC, `PWR_SWITCHES`. -/
def PWR_SWITCHES : Row := ⟨0x20018, [], 0, 16, .rc, 0x0, 0, 0xFFFF⟩
/-- Table 14-6: RC, `PWR_RIDES`. -/
def PWR_RIDES : Row := ⟨0x20018, [], 16, 16, .rc, 0x0, 0, 0xFFFF⟩
/-- Table 14-6: RC, `PWR_FEEDA_LOSSES`. -/
def PWR_FEEDA_LOSSES : Row := ⟨0x20018, [], 32, 16, .rc, 0x0, 0, 0xFFFF⟩
/-- Table 14-6: RC, `PWR_FEEDB_LOSSES`. -/
def PWR_FEEDB_LOSSES : Row := ⟨0x20018, [], 48, 16, .rc, 0x0, 0, 0xFFFF⟩
/-- Table 14-6: RO, `PWR_LAST_SWITCH_NS`. -/
def PWR_LAST_SWITCH_NS : Row := ⟨0x20020, [], 0, 16, .ro, 0x0, 0, 0xFFFF⟩

/-! Block RED, Table 14-7. -/

/-- Table 14-7: RO reset Strap, `RED_PAIR`. -/
def RED_PAIR : Row := ⟨0x3C0000, [], 0, 1, .ro, 0x0, 0, 0x1⟩
/-- Table 14-7: RW, `RED_REQ_EN`. -/
def RED_REQ_EN : Row := ⟨0x3C0000, [], 1, 1, .rw, 0x1, 0, 0x1⟩
/-- Table 14-7: RO, `RED_ACTIVE`. -/
def RED_ACTIVE : Row := ⟨0x3C0000, [], 2, 1, .ro, 0x0, 0, 0x1⟩
/-- Table 14-7: RO, `RED_ARB_REQ`. -/
def RED_ARB_REQ : Row := ⟨0x3C0000, [], 3, 1, .ro, 0x0, 0, 0x1⟩
/-- Table 14-7: RO, `RED_ARB_GNT`. -/
def RED_ARB_GNT : Row := ⟨0x3C0000, [], 4, 1, .ro, 0x0, 0, 0x1⟩
/-- Table 14-7: RO, `RED_HEALTHY`. -/
def RED_HEALTHY : Row := ⟨0x3C0000, [], 5, 1, .ro, 0x0, 0, 0x1⟩
/-- Table 14-7: RO, `RED_DECLARED`. -/
def RED_DECLARED : Row := ⟨0x3C0000, [], 6, 1, .ro, 0x0, 0, 0x1⟩
/-- Table 14-7: RO, `RED_DUAL_ACTIVE`. -/
def RED_DUAL_ACTIVE : Row := ⟨0x3C0000, [], 7, 1, .ro, 0x0, 0, 0x1⟩
/-- Table 14-7: RO, `RED_HAL_UP`. -/
def RED_HAL_UP : Row := ⟨0x3C0000, [], 8, 1, .ro, 0x0, 0, 0x1⟩
/-- Table 14-7: RO, `RED_BB_PATH`. -/
def RED_BB_PATH : Row := ⟨0x3C0000, [], 9, 1, .ro, 0x0, 0, 0x1⟩
/-- Table 14-7: RW, `RED_GATE_WTB`. -/
def RED_GATE_WTB : Row := ⟨0x3C0000, [], 10, 1, .rw, 0x0, 0, 0x1⟩
/-- Table 14-7: RW, `RED_HEALTH_MASK`. -/
def RED_HEALTH_MASK : Row := ⟨0x3C0000, [], 12, 4, .rw, 0x3, 0, 0xF⟩
/-- Table 14-7: RO, `RED_GUARDED_N`. -/
def RED_GUARDED_N : Row := ⟨0x3C0000, [], 16, 6, .ro, 0x0, 0, 0x3F⟩
/-- Table 14-7: RO, `RED_PARTNER_UID`. -/
def RED_PARTNER_UID : Row := ⟨0x3C0000, [], 32, 32, .ro, 0x0, 0, 0xFFFFFFFF⟩
/-- Table 14-7: RO, `RED_GUARDED_w`. -/
def RED_GUARDED_w : Row := ⟨0x3C0008, [⟨0x8, 0, 0, 4⟩], 0, 64, .ro, 0x0, 0, 0xFFFFFFFFFFFFFFFF⟩
/-- Table 14-7: RC, `RED_HAL_MISS`. -/
def RED_HAL_MISS : Row := ⟨0x3C0028, [], 0, 32, .rc, 0x0, 0, 0xFFFFFFFF⟩
/-- Table 14-7: RC, `RED_BB_MISS`. -/
def RED_BB_MISS : Row := ⟨0x3C0028, [], 32, 32, .rc, 0x0, 0, 0xFFFFFFFF⟩
/-- Table 14-7: RC, `RED_FAILOVERS`. -/
def RED_FAILOVERS : Row := ⟨0x3C0030, [], 0, 16, .rc, 0x0, 0, 0xFFFF⟩
/-- Table 14-7: RC, `RED_DECLARATIONS`. -/
def RED_DECLARATIONS : Row := ⟨0x3C0030, [], 16, 16, .rc, 0x0, 0, 0xFFFF⟩
/-- Table 14-7: RC, `RED_HAL_CRC`. -/
def RED_HAL_CRC : Row := ⟨0x3C0030, [], 32, 16, .rc, 0x0, 0, 0xFFFF⟩
/-- Table 14-7: RC, `RED_DUAL_COUNT`. -/
def RED_DUAL_COUNT : Row := ⟨0x3C0030, [], 48, 16, .rc, 0x0, 0, 0xFFFF⟩
/-- Table 14-7: RC, `RED_BB_ABANDON`. -/
def RED_BB_ABANDON : Row := ⟨0x3C0038, [], 0, 32, .rc, 0x0, 0, 0xFFFFFFFF⟩
/-- Table 14-7: RO, `RED_LAST_GAP_NS`. -/
def RED_LAST_GAP_NS : Row := ⟨0x3C0038, [], 32, 32, .ro, 0x0, 0, 0xFFFFFFFF⟩
/-- Table 14-7: RW, `RED_GATE_CAN`. -/
def RED_GATE_CAN : Row := ⟨0x3C0040, [], 0, 12, .rw, 0x0, 0, 0xFFF⟩
/-- Table 14-7: RW, `RED_GATE_SER`. -/
def RED_GATE_SER : Row := ⟨0x3C0040, [], 16, 12, .rw, 0x0, 0, 0xFFF⟩

/-! Block LAD, Table 15-5. -/

/-- Table 15-5: RW, `LAD_SLEEP_EN`. -/
def LAD_SLEEP_EN : Row := ⟨0x30000, [], 0, 1, .rw, 0x1, 0, 0x1⟩
/-- Table 15-5: RW, `LAD_ECO_EN`. -/
def LAD_ECO_EN : Row := ⟨0x30000, [], 1, 1, .rw, 0x0, 0, 0x1⟩
/-- Table 15-5: RW, `LAD_MARGIN_NS`. -/
def LAD_MARGIN_NS : Row := ⟨0x30000, [], 16, 16, .rw, 0x3E8, 100, 0xC350⟩
/-- Table 15-5: RW, `LAD_PERF_FLOOR`. -/
def LAD_PERF_FLOOR : Row := ⟨0x30000, [], 32, 3, .rw, 0x5, 0, 0x5⟩
/-- Table 15-5: RW, `LAD_IDLE_SEDGE_US`. -/
def LAD_IDLE_SEDGE_US : Row := ⟨0x30008, [], 0, 16, .rw, 0x28, 4, 0xEA60⟩
/-- Table 15-5: RW, `LAD_IDLE_MOSS_US`. -/
def LAD_IDLE_MOSS_US : Row := ⟨0x30008, [], 16, 16, .rw, 0x190, 40, 0xEA60⟩
/-- Table 15-5: RW, `LAD_IDLE_PEAT_MS`. -/
def LAD_IDLE_PEAT_MS : Row := ⟨0x30008, [], 32, 16, .rw, 0x4, 1, 0xEA60⟩
/-- Table 15-5: RW, `LAD_WAKE_MASK`. -/
def LAD_WAKE_MASK : Row := ⟨0x30010, [], 0, 6, .rw, 0x3F, 0, 0x3F⟩
/-- Table 15-5: RW, `LAD_WAKE_DEB_MS`. -/
def LAD_WAKE_DEB_MS : Row := ⟨0x30010, [], 8, 8, .rw, 0x14, 1, 0xFF⟩
/-- Table 15-5: RW, `LAD_ORPHAN_S`. -/
def LAD_ORPHAN_S : Row := ⟨0x30010, [], 16, 16, .rw, 0x3C, 0, 0xFFFF⟩
/-- Table 15-5: RO, `LAD_SLEEP_ARMED`. -/
def LAD_SLEEP_ARMED : Row := ⟨0x30018, [], 0, 1, .ro, 0x0, 0, 0x1⟩
/-- Table 15-5: RO reset Live, `LAD_WAKE_CAUSE`. -/
def LAD_WAKE_CAUSE : Row := ⟨0x30018, [], 8, 4, .ro, 0x0, 0, 0xF⟩
/-- Table 15-5: RO reset Live, `LAD_WAKE_PE`. -/
def LAD_WAKE_PE : Row := ⟨0x30018, [], 12, 4, .ro, 0x0, 0, 0xF⟩
/-- Table 15-5: RO, `LAD_SLEEP_CYCLE`. -/
def LAD_SLEEP_CYCLE : Row := ⟨0x30018, [], 32, 32, .ro, 0x0, 0, 0xFFFFFFFF⟩
/-- Table 15-5: RO reset Live, `LAD_THERM_STATE`. -/
def LAD_THERM_STATE : Row := ⟨0x30020, [], 0, 2, .ro, 0x0, 0, 0x3⟩
/-- Table 15-5: RO, `LAD_FSTEP`. -/
def LAD_FSTEP : Row := ⟨0x30020, [], 4, 3, .ro, 0x0, 0, 0x7⟩
/-- Table 15-5: RO, `LAD_FSCHED`. -/
def LAD_FSCHED : Row := ⟨0x30020, [], 8, 3, .ro, 0x0, 0, 0x7⟩
/-- Table 15-5: RO, `LAD_SHED_STAGE`. -/
def LAD_SHED_STAGE : Row := ⟨0x30020, [], 12, 2, .ro, 0x0, 0, 0x3⟩
/-- Table 15-5: RO reset Live, `LAD_TJ_MAX`. -/
def LAD_TJ_MAX : Row := ⟨0x30020, [], 16, 16, .ro, 0x0, 0, 0xFFFF⟩
/-- Table 15-5: RO reset Live, `LAD_TJ_HOT`. -/
def LAD_TJ_HOT : Row := ⟨0x30020, [], 32, 3, .ro, 0x0, 0, 0x7⟩
/-- Table 15-5: RO reset Live, `LAD_TJ_i_LO`. -/
def LAD_TJ_i_LO : Row := ⟨0x30028, [⟨0x0, 16, 0, 4⟩], 0, 16, .ro, 0x0, 0, 0xFFFF⟩
/-- Table 15-5: RO reset Live, `LAD_TJ_i_HI`. -/
def LAD_TJ_i_HI : Row := ⟨0x30030, [⟨0x0, 16, 0, 2⟩], 0, 16, .ro, 0x0, 0, 0xFFFF⟩
/-- Table 15-5: RC, `LAD_THERM_WARN`. -/
def LAD_THERM_WARN : Row := ⟨0x30038, [], 0, 16, .rc, 0x0, 0, 0xFFFF⟩
/-- Table 15-5: RC, `LAD_THROTTLES`. -/
def LAD_THROTTLES : Row := ⟨0x30038, [], 16, 16, .rc, 0x0, 0, 0xFFFF⟩
/-- Table 15-5: RC, `LAD_SHED_ENTRIES`. -/
def LAD_SHED_ENTRIES : Row := ⟨0x30038, [], 32, 16, .rc, 0x0, 0, 0xFFFF⟩
/-- Table 15-5: RC, `LAD_AT_RISK`. -/
def LAD_AT_RISK : Row := ⟨0x30038, [], 48, 16, .rc, 0x0, 0, 0xFFFF⟩
/-- Table 15-5: RO reset Live, `LAD_THERM_SHUTDOWNS`. -/
def LAD_THERM_SHUTDOWNS : Row := ⟨0x30040, [], 0, 16, .ro, 0x0, 0, 0xFFFF⟩
/-- Table 15-5: RO reset Live, `LAD_BOG_ENTRIES`. -/
def LAD_BOG_ENTRIES : Row := ⟨0x30040, [], 16, 16, .ro, 0x0, 0, 0xFFFF⟩
/-- Table 15-5: RO, `LAD_ACKS`. -/
def LAD_ACKS : Row := ⟨0x30040, [], 32, 16, .ro, 0x0, 0, 0xFFFF⟩
/-- Table 15-5: RO reset Live, `LAD_LAST_BOG_S`. -/
def LAD_LAST_BOG_S : Row := ⟨0x30048, [], 0, 32, .ro, 0x0, 0, 0xFFFFFFFF⟩
/-- Table 15-5: RW, `LAD_Dd_CFG`. -/
def LAD_Dd_CFG : Row := ⟨0x30100, [⟨0x8, 0, 0, 184⟩], 0, 1, .rw, 0x1, 0, 0x1⟩
/-- Table 15-5: RW, `LAD_Dd_FLOOR`. -/
def LAD_Dd_FLOOR : Row := ⟨0x30100, [⟨0x8, 0, 0, 184⟩], 1, 3, .rw, 0x3, 0, 0x4⟩
/-- Table 15-5: RO, `LAD_Dd_RUNG`. -/
def LAD_Dd_RUNG : Row := ⟨0x30100, [⟨0x8, 0, 0, 184⟩], 4, 3, .ro, 0x0, 0, 0x7⟩
/-- Table 15-5: RO, `LAD_Dd_OPER`. -/
def LAD_Dd_OPER : Row := ⟨0x30100, [⟨0x8, 0, 0, 184⟩], 8, 4, .ro, 0x1, 0, 0xF⟩
/-- Table 15-5: RO reset Live, `LAD_Dd_LIMIT`. -/
def LAD_Dd_LIMIT : Row := ⟨0x30100, [⟨0x8, 0, 0, 184⟩], 16, 3, .ro, 0x0, 0, 0x7⟩
/-- Table 15-5: RC, `LAD_Dd_WAKES`. -/
def LAD_Dd_WAKES : Row := ⟨0x30100, [⟨0x8, 0, 0, 184⟩], 32, 16, .rc, 0x0, 0, 0xFFFF⟩

/-! Block GLB, Table 16-8. -/

/-- Table 16-8: RO reset Strap, `GLB_STRAP_BOOT`. -/
def GLB_STRAP_BOOT : Row := ⟨0x100, [], 0, 2, .ro, 0x0, 0, 0x3⟩
/-- Table 16-8: RO reset Strap, `GLB_STRAP_COLD`. -/
def GLB_STRAP_COLD : Row := ⟨0x100, [], 2, 2, .ro, 0x0, 0, 0x3⟩
/-- Table 16-8: RO reset Strap, `GLB_STRAP_PAIR`. -/
def GLB_STRAP_PAIR : Row := ⟨0x100, [], 4, 2, .ro, 0x0, 0, 0x3⟩
/-- Table 16-8: RO reset Strap, `GLB_STRAP_MAINT`. -/
def GLB_STRAP_MAINT : Row := ⟨0x100, [], 6, 2, .ro, 0x0, 0, 0x3⟩
/-- Table 16-8: RO reset Strap, `GLB_STRAP_JTAG`. -/
def GLB_STRAP_JTAG : Row := ⟨0x100, [], 8, 2, .ro, 0x0, 0, 0x3⟩
/-- Table 16-8: RO reset Live, `GLB_RUN_SLOT`. -/
def GLB_RUN_SLOT : Row := ⟨0x108, [], 0, 1, .ro, 0x0, 0, 0x1⟩
/-- Table 16-8: RO reset Live, `GLB_FELL_BACK`. -/
def GLB_FELL_BACK : Row := ⟨0x108, [], 1, 1, .ro, 0x0, 0, 0x1⟩
/-- Table 16-8: RO reset Live, `GLB_RECOVERY`. -/
def GLB_RECOVERY : Row := ⟨0x108, [], 2, 1, .ro, 0x0, 0, 0x1⟩
/-- Table 16-8: RO reset Live, `GLB_SEL_SLOT`. -/
def GLB_SEL_SLOT : Row := ⟨0x108, [], 3, 1, .ro, 0x0, 0, 0x1⟩
/-- Table 16-8: RO reset Live, `GLB_SEL_FALLBACK`. -/
def GLB_SEL_FALLBACK : Row := ⟨0x108, [], 4, 1, .ro, 0x0, 0, 0x1⟩
/-- Table 16-8: RO reset Live, `GLB_SLOTA_VALID`. -/
def GLB_SLOTA_VALID : Row := ⟨0x108, [], 5, 1, .ro, 0x0, 0, 0x1⟩
/-- Table 16-8: RO reset Live, `GLB_SLOTB_VALID`. -/
def GLB_SLOTB_VALID : Row := ⟨0x108, [], 6, 1, .ro, 0x0, 0, 0x1⟩
/-- Table 16-8: RO reset Live, `GLB_FACTORY_FAULT`. -/
def GLB_FACTORY_FAULT : Row := ⟨0x108, [], 7, 1, .ro, 0x0, 0, 0x1⟩
/-- Table 16-8: RO reset Live, `GLB_RESET_CAUSE`. -/
def GLB_RESET_CAUSE : Row := ⟨0x108, [], 8, 4, .ro, 0x0, 0, 0xF⟩
/-- Table 16-8: RO reset Live, `GLB_INSTALL_FAULT`. -/
def GLB_INSTALL_FAULT : Row := ⟨0x108, [], 12, 1, .ro, 0x0, 0, 0x1⟩
/-- Table 16-8: RO reset Live, `GLB_BOOT_MS`. -/
def GLB_BOOT_MS : Row := ⟨0x108, [], 16, 16, .ro, 0x0, 0, 0xFFFF⟩
/-- Table 16-8: RO, `GLB_CFG_SOURCE`. -/
def GLB_CFG_SOURCE : Row := ⟨0x108, [], 32, 32, .ro, 0x0, 0, 0xFFFFFFFF⟩
/-- Table 16-8: RO reset Live, `GLB_IMAGE_VERSION`. -/
def GLB_IMAGE_VERSION : Row := ⟨0x110, [], 0, 32, .ro, 0x0, 0, 0xFFFFFFFF⟩
/-- Table 16-8: RO reset Live, `GLB_IMAGE_SECTIONS`. -/
def GLB_IMAGE_SECTIONS : Row := ⟨0x110, [], 32, 17, .ro, 0x0, 0, 0x1FFFF⟩
/-- Table 16-8: RC, `GLB_BOOT_FAILS`. -/
def GLB_BOOT_FAILS : Row := ⟨0x118, [], 0, 16, .rc, 0x0, 0, 0xFFFF⟩
/-- Table 16-8: RC, `GLB_JOURNAL_SKIPS`. -/
def GLB_JOURNAL_SKIPS : Row := ⟨0x118, [], 16, 16, .rc, 0x0, 0, 0xFFFF⟩
/-- Table 16-8: RC, `GLB_REC_DROPS`. -/
def GLB_REC_DROPS : Row := ⟨0x118, [], 32, 32, .rc, 0x0, 0, 0xFFFFFFFF⟩
/-- Table 16-8: RW, `GLB_REC_EN`. -/
def GLB_REC_EN : Row := ⟨0x120, [], 0, 1, .rw, 0x1, 0, 0x1⟩
/-- Table 16-8: RO, `GLB_REC_SIGNALS`. -/
def GLB_REC_SIGNALS : Row := ⟨0x120, [], 16, 17, .ro, 0x0, 0, 0x1FFFF⟩
/-- Table 16-8: RO, `GLB_REC_SEQ`. -/
def GLB_REC_SEQ : Row := ⟨0x128, [], 0, 64, .ro, 0x0, 0, 0xFFFFFFFFFFFFFFFF⟩
/-- Table 16-8: RW reset Identity, `GLB_VEH_ID_SET`. -/
def GLB_VEH_ID_SET : Row := ⟨0x130, [], 0, 64, .rw, 0x0, 0, 0xFFFFFFFFFFFFFFFF⟩

/-! Block GLB, Table 17-4. -/

/-- Table 17-4: RO, `GLB_ID`. -/
def GLB_ID : Row := ⟨0x0, [], 0, 64, .ro, 0x4E474256000000C0, 0, 0xFFFFFFFFFFFFFFFF⟩
/-- Table 17-4: RO reset Identity, `GLB_UID`. -/
def GLB_UID : Row := ⟨0x8, [], 0, 64, .ro, 0x0, 0, 0xFFFFFFFFFFFFFFFF⟩
/-- Table 17-4: RO reset Identity, `GLB_MAC_ADDR`. -/
def GLB_MAC_ADDR : Row := ⟨0x10, [], 0, 48, .ro, 0x0, 0, 0xFFFFFFFFFFFF⟩
/-- Table 17-4: RO reset Live, `GLB_UPTIME`. -/
def GLB_UPTIME : Row := ⟨0x18, [], 0, 64, .ro, 0x0, 0, 0xFFFFFFFFFFFFFFFF⟩
/-- Table 17-4: RO reset Live, `GLB_FW_STATE`. -/
def GLB_FW_STATE : Row := ⟨0x20, [], 0, 64, .ro, 0x0, 0, 0xFFFFFFFFFFFFFFFF⟩
/-- Table 17-4: RC, `GLB_LINKl_CRC`. -/
def GLB_LINKl_CRC : Row := ⟨0x40, [⟨0x8, 0, 0, 5⟩], 0, 32, .rc, 0x0, 0, 0xFFFFFFFF⟩
/-- Table 17-4: RC, `GLB_LINKl_LOSS`. -/
def GLB_LINKl_LOSS : Row := ⟨0x40, [⟨0x8, 0, 0, 5⟩], 32, 16, .rc, 0x0, 0, 0xFFFF⟩
/-- Table 17-4: RO reset Live, `GLB_LINKl_UP`. -/
def GLB_LINKl_UP : Row := ⟨0x40, [⟨0x8, 0, 0, 5⟩], 48, 1, .ro, 0x0, 0, 0x1⟩
/-- Table 17-4: RC, `GLB_MEMm_CORR`. -/
def GLB_MEMm_CORR : Row := ⟨0x80, [⟨0x8, 0, 0, 9⟩], 0, 32, .rc, 0x0, 0, 0xFFFFFFFF⟩
/-- Table 17-4: RC, `GLB_MEMm_UNCORR`. -/
def GLB_MEMm_UNCORR : Row := ⟨0x80, [⟨0x8, 0, 0, 9⟩], 32, 16, .rc, 0x0, 0, 0xFFFF⟩

/-- The rows of block CMD. -/
def rowsCMD : List Row := [CMD_Hx_RING_BASE, CMD_Hx_RING_LOG2, CMD_Hx_RING_EN, CMD_Hx_RING_HEAD, CMD_Hx_RING_ERR, CMD_Hx_RING_TAIL, CMD_Hx_EVT_BASE, CMD_Hx_EVT_LOG2, CMD_Hx_EVT_EN, CMD_Hx_EVT_URGENT, CMD_Hx_EVT_GROUPS, CMD_Hx_EVT_WRITE, CMD_Hx_EVT_READ, CMD_Hx_PENDING, CMD_Hx_LOST, CMD_SS_GROUPS, CMD_SS_CTL_EVTN_EN, CMD_SS_LOST, CMD_MT_IPV4, CMD_MT_PREFIX, CMD_MT_UDP_PORT, CMD_DISCARD_MT, CMD_DISCARD_TRAIN, CMD_BAR0_WRITES]

/-- The rows of block BKB. -/
def rowsBKB_0 : List Row := [BKB_PEp_CTL_SPEED, BKB_PEp_CTL_EXT, BKB_PEp_QUAL_NS, BKB_PEp_DEG_COUNT, BKB_PEp_DEG_WIN_MS, BKB_PEp_RECOVER_MS, BKB_PEp_END, BKB_PEp_PRESENT, BKB_PEp_RX_GOOD, BKB_PEp_NB_GOOD, BKB_PEp_IN_USE, BKB_PEp_TABLE, BKB_PEp_ARMED, BKB_PEp_BANK, BKB_PEp_FORCED, BKB_PEp_Ll_BURST, BKB_PEp_Ll_QLOSS, BKB_PEp_Ll_DWERR, BKB_PEp_Ll_DEGRADED, BKB_PEp_LANEDROP, BKB_PEp_FLIPS, BKB_HOP_LIMIT, BKB_LSF_PERIOD, BKB_DUP_DISC, BKB_STALE_DISC, BKB_HOPLIM_DISC, BKB_RETURNED, BKB_LOOPED_DISC, BKB_HDR_DISC, BKB_DW_n_START]
def rowsBKB_1 : List Row := [BKB_DW_n_DUR, BKB_DW_n_MASK, BKB_DW_n_ACTIVE, BKB_DW_n_VALID, BKB_DW_n_SRC, BKB_DW_n_EVENT]
/-- All rows of block BKB. -/
def rowsBKB : List Row := rowsBKB_0 ++ rowsBKB_1

/-- The rows of block TCY. -/
def rowsTCY_0 : List Row := [TCY_CYCLE_NS, TCY_CFG_ID, TCY_MSG_START_NS, TCY_CGUARD_NS, TCY_SLOT_GUARD_NS, TCY_INTEG_CYCLES, TCY_LOST_CYCLES, TCY_STATE, TCY_SLOT_BANK, TCY_SCHED_ARMED, TCY_COLD_CAP, TCY_LEAD_LOST, TCY_SUCC_RANK, TCY_COLD_EXCESS, TCY_CYCLE_NUM, TCY_ALIGN_ERR_NS, TCY_LEAD_NODE, TCY_SCHED_ID, TCY_LEAD_UID, TCY_SKIP, TCY_LATE_PUBLISH, TCY_PN_MISSED, TCY_MSG_DEFER, TCY_MSG_NOFIT, TCY_SILENCED, TCY_SCHED_MISMATCH, TCY_STARTUP_TX, TCY_STARTUP_LOST, TCY_FOREIGN_PN, TCY_SUCCESSIONS]
def rowsTCY_1 : List Row := [TCY_CFG_MISMATCH, TCY_STARTUP_SEEN, TCY_WIN_DISC_k_0, TCY_WIN_DISC_k_1, TCY_WIN_DISC_k_2, TCY_WIN_DISC_k_3]
/-- All rows of block TCY. -/
def rowsTCY : List Row := rowsTCY_0 ++ rowsTCY_1

/-- The rows of block HST. -/
def rowsHST_0 : List Row := [HST_EPOCH, HST_PEND_EPOCH, HST_HOIST_ID, HST_STATE, HST_LEAD_STATE, HST_DEBOUNCE_MS, HST_JOIN_HOLD, HST_COLLECT_PHASES, HST_RETRIES, HST_PROV_EN, HST_DELAY_MAX_NS, HST_NODE_NUM, HST_VEH_NUM, HST_ORIENT, HST_OPEN_E1, HST_OPEN_E2, HST_MULTI_CAB, HST_INCOMPLETE, HST_UID, HST_VEH_ID, HST_CLASS, HST_DEMAND_ID, HST_COMMITS, HST_STRIKES, HST_PROV_RX, HST_PROV_DISC, HST_LATE_RECORDS, HST_LATE_SWAP, HST_FOREIGN_HC, HST_OVER_LIMIT]
def rowsHST_1 : List Row := [HST_STRIKE_IGNORED, HST_HC_DISC, HST_YIELDS, HST_UNPLACED, HST_LAST_TRIGGER_CYCLE, HST_LAST_REASON, HST_LAST_SWAP_CYCLE, HST_PREV_EPOCH, HST_PROPOSED_LAST]
/-- All rows of block HST. -/
def rowsHST : List Row := rowsHST_0 ++ rowsHST_1

/-- The rows of block TIM. -/
def rowsTIM_0 : List Row := [TIM_SEC, TIM_NS_LATCH, TIM_FRAC_LATCH, TIM_RATE, TIM_HOLD_FREQ, TIM_SLEW_PPB, TIM_FREEZE, TIM_JUMP_NS, TIM_REFUSE_CONSIST, TIM_QUALITY, TIM_REFUSING, TIM_SOURCE, TIM_STEP_ARMED, TIM_STEP_CYCLE, TIM_STEP_NS, TIM_REFUSED_NS, TIM_CONSIST_COUNT, TIM_REF_PRIO, TIM_REF_ACTIVE, TIM_AUTOSTEP_NS, TIM_AUTOSTEP_EN, TIM_AUTOSTEP_LEAD, TIM_DX_PERIOD_MS, TIM_PPSA_POL, TIM_PPSA_TOD_EN, TIM_PPSB_POL, TIM_PPSB_TOD_EN, TIM_PPSA_COMP_NS, TIM_PPSB_COMP_NS, TIM_PPSO_EN]
def rowsTIM_1 : List Row := [TIM_PPSO_HOLDOVER, TIM_PPSO_WIDTH_US, TIM_PPSO_COMP_NS, TIM_PTP_DOMAIN, TIM_PTP_UDP, TIM_PTP_LOG_SYNC, TIM_PTP_LOG_ANN, TIM_PTP_ANN_TMO, TIM_PTP_LOG_MINDREQ, TIM_PTP_PRIO1, TIM_PTP_PRIO2, TIM_PTP_EN, TIM_PTP_SLAVE_EN, TIM_REFUSALS, TIM_STEPS, TIM_AUTOSTEPS, TIM_REF_SWITCHES, TIM_TOD_BAD, TIM_PN_NODELAY, TIM_REF_OFFSET_NS, TIM_REFr_STATE, TIM_REFr_PHASE_NS, TIM_REFr_FREQ_PPT, TIM_REFr_STABLE_S, TIM_DLY_PEp_Ll, TIM_ASYM_PEp_Ll, TIM_DLY_PEp_Ll_VALID, TIM_DX_FAIL_PEp_Ll, TIM_QSGk_RX_NS, TIM_QSGk_TX_NS]
/-- All rows of block TIM. -/
def rowsTIM : List Row := rowsTIM_0 ++ rowsTIM_1

/-- The rows of block POS. -/
def rowsPOS_0 : List Row := [POS_ODO_CAP, POS_ODO_DESIG, POS_ODO_PRIO, POS_VALID, POS_VEL_VALID, POS_QUALITY, POS_POSITION, POS_VELOCITY, POS_TIME, POS_AX_EN, POS_AX_PD, POS_AX_INV, POS_SLIP_ABS_MMS, POS_SLIP_REL_PCT, POS_AGREE_MS, POS_STILL_MS, POS_EXTRAP_MS, POS_BALISE_MAX_UM, POS_HANDOFFS, POS_BALISE_APPLIED, POS_BALISE_REFUSED, POS_REPORTS_MISSED, POS_ODO_UID, POS_AXn_DIAM_UM, POS_AXn_PPR, POS_AXn_EXCL, POS_AXn_FAULT, POS_AXn_SUSPECT, POS_AXn_VEL_MMS, POS_AXn_EXCLS]
def rowsPOS_1 : List Row := [POS_AXn_FAULTS, POS_LP_SYS, POS_LP_VALID, POS_LP_DETECTED, POS_LP_MIN_MV, POS_LP_ANGLE, POS_LP_FREQ_MHZ, POS_LP_AMPL_MV, POS_LP_UNLOCKS]
/-- All rows of block POS. -/
def rowsPOS : List Row := rowsPOS_0 ++ rowsPOS_1

/-- The rows of block SCH. -/
def rowsSCH : List Row := [SCH_Hx_TX_BASE, SCH_Hx_TX_LOG2, SCH_Hx_TX_EN, SCH_Hx_TX_HEAD, SCH_Hx_RX_BASE, SCH_Hx_RX_LOG2, SCH_Hx_RX_EN, SCH_Hx_RX_HEAD, SCH_Hx_TAIL_ADDR, SCH_Hx_POLL_US, SCH_Hx_RX_NOBUF, SCH_Hx_TX_BAD, SCH_Hx_DMA_ERR, SCH_EVENTS_USED, SCH_LAUNCH_USED, SCH_DEFER_MAX, SCH_FIRED, SCH_LATE, SCH_LATE_WINDOW, SCH_DEFERRED, SCH_MISSED, SCH_FIELD_SKIP, SCH_ACTION_FAIL, SCH_PROFILE_LATE, SCH_EVi_STATE, SCH_EVi_LATE, SCH_EVi_REVERSED, SCH_EVi_FIRINGS, SCH_EVi_BOUND]

/-- The rows of block SIG. -/
def rowsSIG : List Row := [SIG_PROFILE, SIG_PROFILE_ARMED, SIG_PROFILE_NEXT, SIG_PROFILE_BANK, SIG_PROFILE_RESET, SIG_PROFILE_CYCLE, SIG_SWEEP_US, SIG_FIELD_MS, SIG_SIGNALS, SIG_DESCRIPTORS, SIG_RULES_UNBOUND, SIG_DECODE_FAIL, SIG_RANGE_FAIL, SIG_SAFETY_CRC, SIG_SAFETY_SEQ, SIG_SAFETY_REPEAT, SIG_STALE, SIG_OUT_OF_ORDER, SIG_OLD_EPOCH_DISC, SIG_NO_BINDING, SIG_DST_SAT, SIG_FIELD_SKIP, SIG_DEPTH_DROP, SIG_MAP_FAULT, SIG_HOST_WRITES, SIG_PROFILE_SWITCHES, SIG_SOURCE_FAIL, SIG_RULE_NODE]

/-- The rows of block STL. -/
def rowsSTL_0 : List Row := [STL_HASH_SEED, STL_MAX_HOPS, STL_STEAL_EN, STL_DL_SCHED_NS, STL_DL_SAFETY_NS, STL_DL_EVENT_US, STL_DL_DIAG_US, STL_SELFTEST_EN, STL_SHED_STATE, STL_ENV_RECORDS, STL_PRIO_CMD, STL_PRIO_HOST, STL_PRIO_REC, STL_PRIO_FENf, STL_FENf_NEED, STL_PUSHED, STL_STEALS_LOCAL, STL_STEALS_REMOTE, STL_STEAL_INELIG, STL_SPILL, STL_EVICT, STL_FULL_DROP, STL_SHED_DROP, STL_MISS_SCHED, STL_MISS_SAFETY, STL_MISS_EVENT, STL_MISS_DIAG, STL_QUARANTINES, STL_SELFTEST_FAIL, STL_SELFTEST_RUNS]
def rowsSTL_1 : List Row := [STL_ENV_EXCEED, STL_RERUNS, STL_LAT_MAX_NS, STL_LATE_RELEASE, STL_ENGe_CFG, STL_ENGe_OPER, STL_ENGe_DEPTH, STL_ENGe_BUSY, STL_ENGe_QCAUSE, STL_ENGe_JOBS, STL_PUBu_LAYOUTS, STL_PUBu_RELEASES, STL_PLu_k_Ww]
/-- All rows of block STL. -/
def rowsSTL : List Row := rowsSTL_0 ++ rowsSTL_1

/-- The rows of block MAC. -/
def rowsMAC_0 : List Row := [MAC_n_CFG_EN, MAC_n_DEF_PCP, MAC_n_PAUSE_EN, MAC_n_MAXLEN, MAC_n_TX_AGE_MS, MAC_n_OPER, MAC_n_LINK, MAC_n_SPEED, MAC_n_PAUSED, MAC_n_PLCA_ACTIVE, MAC_n_PAUSE_LEFT, MAC_n_RES_CELLS, MAC_n_SHARED_MAX, MAC_n_RES_USED, MAC_n_SH_USED, MAC_n_QDEPTH, MAC_n_LQ_FILL, MAC_n_Qq_FILL_LO, MAC_n_Qq_FILL_HI, MAC_n_PLCA_EN, MAC_n_PLCA_ID, MAC_n_PLCA_COUNT, MAC_n_PLCA_TO, MAC_n_PLCA_BURST, MAC_n_PLCA_BTMR, MAC_n_WPi_MASK_LO, MAC_n_WPi_MASK_HI, MAC_n_WPi_CRC, MAC_n_WPi_EN, MAC_n_WAKES]
def rowsMAC_1 : List Row := [MAC_n_STAT_k, MAC_BUF_TOTAL, MAC_BUF_RETIRED, MAC_RES_SCHED, MAC_RES_PUB, MAC_RES_LAUNCH, MAC_RES_CTL, MAC_RES_HOST, MAC_SHARED, MAC_RES_PRIO_q, MAC_USED_SCHED, MAC_USED_PUB, MAC_USED_LAUNCH, MAC_USED_CTL, MAC_USED_HA, MAC_USED_HB, MAC_USED_SHARED, MAC_FREE, MAC_SCHED_NOBUF, MAC_UNBOUND, MAC_RT_ENTRIES, MAC_EH_ENTRIES, MAC_HOSTMSG_RING, MAC_MSG_UNKNOWN, MAC_PUB_NOBUF]
/-- All rows of block MAC. -/
def rowsMAC : List Row := rowsMAC_0 ++ rowsMAC_1

/-- The rows of block LEG. -/
def rowsLEG_0 : List Row := [LEG_MVBc_EN_A, LEG_MVBc_EN_B, LEG_MVBc_ADMIN, LEG_MVBc_PAIR, LEG_MVBc_ALIGN, LEG_MVBc_BP, LEG_MVBc_TREPLY, LEG_MVBc_DEVADDR, LEG_MVBc_OFFSET_US, LEG_MVBc_SILENCE_US, LEG_MVBc_OPER_A, LEG_MVBc_OPER_B, LEG_MVBc_MASTER, LEG_MVBc_TRUST, LEG_MVBc_PORTS, LEG_MVBc_ERR_A, LEG_MVBc_ERR_B, LEG_MVBc_NOREPLY, LEG_MVBc_TMO, LEG_MVBc_SWITCH, LEG_MVBc_IGNORED, LEG_MVBc_OVERWRITE, LEG_MVBc_TAKEOVERS, LEG_WTB_LINE_EN, LEG_WTB_ROLE, LEG_WTB_FOREIGN_DIR, LEG_WTB_END, LEG_WTB_FRAME_SIZE, LEG_WTB_PERIOD, LEG_WTB_NODE_KEY]
def rowsLEG_1 : List Row := [LEG_WTB_PD_TMO, LEG_WTB_STATE, LEG_WTB_MASTER, LEG_WTB_END_NODE, LEG_WTB_ADDR, LEG_WTB_FOREIGN, LEG_WTB_NODES, LEG_WTB_OTHERSIDE, LEG_WTB_INAUGS, LEG_WTB_ERR, LEG_WTB_TMO, LEG_WTB_IGNORED, LEG_WTB_FNk_ADDR, LEG_WTB_FNk_INV, LEG_WTB_FNk_VALID, LEG_WTB_FNk_KEY, LEG_CANk_CFG_EN, LEG_CANk_LISTEN, LEG_CANk_FD_EN, LEG_CANk_AUTO_RECOVER, LEG_CANk_NBRP, LEG_CANk_NTSEG1, LEG_CANk_NTSEG2, LEG_CANk_NSJW, LEG_CANk_DBRP, LEG_CANk_DTSEG1, LEG_CANk_DTSEG2, LEG_CANk_DSJW, LEG_CANk_TDCO, LEG_CANk_TDC_EN]
def rowsLEG_2 : List Row := [LEG_CANk_TX_AGE_MS, LEG_CANk_OPER, LEG_CANk_ESTATE, LEG_CANk_TEC, LEG_CANk_REC, LEG_CANk_TDC_MEAS, LEG_CANk_NOMATCH, LEG_CANk_TMO, LEG_CANk_OVERWRITE, LEG_CANk_TX_AGED, LEG_CANk_BUSOFF, LEG_CANk_REMOTE, LEG_CANk_ERRFRAMES, LEG_CANk_LENDIFF, LEG_SERs_CFG_EN, LEG_SERs_MODE, LEG_SERs_DATA7, LEG_SERs_PARITY, LEG_SERs_STOP2, LEG_SERs_CRC, LEG_SERs_DE_LEAD, LEG_SERs_DE_LAG, LEG_SERs_GAP, LEG_SERs_DIV, LEG_SERs_RESP_US, LEG_SERs_OPER, LEG_SERs_WAITING, LEG_SERs_FRAME_ERR, LEG_SERs_CRC_ERR, LEG_SERs_NOMATCH]
def rowsLEG_3 : List Row := [LEG_SERs_TMO, LEG_SERs_NORESP, LEG_SERs_LATE, LEG_SERs_TXQ_DROP, LEG_SERs_BREAK, MP_ADDR, MP_FCODE, MP_VALID, MP_SOURCE, MP_POLL, MP_PERIOD, MP_PHASE, MP_TMO, CM_ID, CM_IDE, CM_VALID, CM_TX, CM_FDF, CM_BRS, CM_LEN, CM_TMO, SE_VALUE, SE_MASK, SE_VALID, SE_TX, SE_EXPECT, SE_LEN_MIN, SE_LEN_MAX, SE_TMO]
/-- All rows of block LEG. -/
def rowsLEG : List Row := rowsLEG_0 ++ rowsLEG_1 ++ rowsLEG_2 ++ rowsLEG_3

/-- The rows of block RAB. -/
def rowsRAB : List Row := [RAB_TIMEOUT_US, RAB_GAP_US, RAB_TARGET_EN, RAB_OUT_HA, RAB_OUT_HB, RAB_OUT_SS, RAB_OUT_MT, RAB_POSTED_Q, RAB_SEM_HELD, RAB_LATE, RAB_TIMEOUTS, RAB_GAP_SKIPS, RAB_REASM_FAIL, RAB_POSTED_ERR, RAB_TGT_FULL, RAB_REQ_TX, RAB_REQ_RX, RAB_PERR_NODE, RAB_PERR_OPCODE, RAB_PERR_STATUS, RAB_PERR_SEQ, RAB_SEM_EXPIRED, RAB_SEM_PORTREL, RAB_PERR_REASON, RAB_SEMi_OWNER_UID, RAB_SEMi_PORT, RAB_SEMi_HELD, RAB_SEMi_LEFT_MS]

/-- The rows of block FLD. -/
def rowsFLD_0 : List Row := [FC_MODE, FC_ITYPE, FC_PAIRED, FC_OPEN_ON_FAULT, FC_OL_EN, FC_FILT_N, FC_SAMPLE_US, FC_LAVG_LOG2, FC_OWNER_KIND, FC_OWNER_SIG, FC_OC_TIME, FC_RESERVED, FC_SAFE_LEVEL, FC_SAFE_LATCH, FC_WDT_MS, FC_IN_STATE, FC_WBREAK, FC_OUT_LEVEL, FC_SAFE, FC_HOLD, FC_LATCHED, FC_COMPLIANCE, FC_OPENLOAD, FC_MIRROR_STALE, FC_LIMITING, FC_WDT_RUN, FC_OPER, FC_LATCH_CAUSE, FC_FILT_CNT, FC_LOOP_CMD, FC_LOOP_MEAS]
def rowsFLD_1 : List Row := [FC_VTERM, FC_WDT_EXPIRIES, FC_FAULT_CNT, FC_TRANSITIONS, FC_WDT_LEFT_MS, FC_HOLD_LEFT_MS, FC_MIRROR_DIFF, FLD_Bb_VFB_MV, FLD_Bb_STATE, FLD_Bb_OPER, FLD_Bb_DEMAG_MW, FLD_Bb_LOWS, FLD_Bb_RELEASES, FLD_Bb_DEMAG_OVER, FLD_HOLD_MS, FLD_LINK0_UP, FLD_LINK1_UP]
/-- All rows of block FLD. -/
def rowsFLD : List Row := rowsFLD_0 ++ rowsFLD_1

/-- The rows of block PWR. -/
def rowsPWR : List Row := [PWR_ARB_STATE, PWR_FEEDA_STATE, PWR_FEEDB_STATE, PWR_PREFER, PWR_HOLDUP_WARN, PWR_LINK_UP, PWR_FEEDA_MV, PWR_FEEDB_MV, PWR_INPUT_DW, PWR_QUAL_MS, PWR_RIDE_US, PWR_SWITCHES, PWR_RIDES, PWR_FEEDA_LOSSES, PWR_FEEDB_LOSSES, PWR_LAST_SWITCH_NS]

/-- The rows of block RED. -/
def rowsRED : List Row := [RED_PAIR, RED_REQ_EN, RED_ACTIVE, RED_ARB_REQ, RED_ARB_GNT, RED_HEALTHY, RED_DECLARED, RED_DUAL_ACTIVE, RED_HAL_UP, RED_BB_PATH, RED_GATE_WTB, RED_HEALTH_MASK, RED_GUARDED_N, RED_PARTNER_UID, RED_GUARDED_w, RED_HAL_MISS, RED_BB_MISS, RED_FAILOVERS, RED_DECLARATIONS, RED_HAL_CRC, RED_DUAL_COUNT, RED_BB_ABANDON, RED_LAST_GAP_NS, RED_GATE_CAN, RED_GATE_SER]

/-- The rows of block LAD. -/
def rowsLAD_0 : List Row := [LAD_SLEEP_EN, LAD_ECO_EN, LAD_MARGIN_NS, LAD_PERF_FLOOR, LAD_IDLE_SEDGE_US, LAD_IDLE_MOSS_US, LAD_IDLE_PEAT_MS, LAD_WAKE_MASK, LAD_WAKE_DEB_MS, LAD_ORPHAN_S, LAD_SLEEP_ARMED, LAD_WAKE_CAUSE, LAD_WAKE_PE, LAD_SLEEP_CYCLE, LAD_THERM_STATE, LAD_FSTEP, LAD_FSCHED, LAD_SHED_STAGE, LAD_TJ_MAX, LAD_TJ_HOT, LAD_TJ_i_LO, LAD_TJ_i_HI, LAD_THERM_WARN, LAD_THROTTLES, LAD_SHED_ENTRIES, LAD_AT_RISK, LAD_THERM_SHUTDOWNS, LAD_BOG_ENTRIES, LAD_ACKS, LAD_LAST_BOG_S]
def rowsLAD_1 : List Row := [LAD_Dd_CFG, LAD_Dd_FLOOR, LAD_Dd_RUNG, LAD_Dd_OPER, LAD_Dd_LIMIT, LAD_Dd_WAKES]
/-- All rows of block LAD. -/
def rowsLAD : List Row := rowsLAD_0 ++ rowsLAD_1

/-- The rows of block GLB. -/
def rowsGLB_0 : List Row := [GLB_STRAP_BOOT, GLB_STRAP_COLD, GLB_STRAP_PAIR, GLB_STRAP_MAINT, GLB_STRAP_JTAG, GLB_RUN_SLOT, GLB_FELL_BACK, GLB_RECOVERY, GLB_SEL_SLOT, GLB_SEL_FALLBACK, GLB_SLOTA_VALID, GLB_SLOTB_VALID, GLB_FACTORY_FAULT, GLB_RESET_CAUSE, GLB_INSTALL_FAULT, GLB_BOOT_MS, GLB_CFG_SOURCE, GLB_IMAGE_VERSION, GLB_IMAGE_SECTIONS, GLB_BOOT_FAILS, GLB_JOURNAL_SKIPS, GLB_REC_DROPS, GLB_REC_EN, GLB_REC_SIGNALS, GLB_REC_SEQ, GLB_VEH_ID_SET, GLB_ID, GLB_UID, GLB_MAC_ADDR, GLB_UPTIME]
def rowsGLB_1 : List Row := [GLB_FW_STATE, GLB_LINKl_CRC, GLB_LINKl_LOSS, GLB_LINKl_UP, GLB_MEMm_CORR, GLB_MEMm_UNCORR]
/-- All rows of block GLB. -/
def rowsGLB : List Row := rowsGLB_0 ++ rowsGLB_1

end Sys2Proof.Machine
end

