-- ==== Sys2Proof/Machine/UnitsTrain.lean ====
section
/-!
DEFINITION. State of the command processor, the backbone, the train cycle, Hoist and the bridge that is not a parameter
word: queues, caches, directories, tables and timers, each named after the rule that gives it.
-/
namespace Sys2Proof.Machine
open Sys2Proof

/-! Command processor (spec/02). -/

/-- A long command that runs in the background (R46): what its completion event needs, and its own arguments. -/
structure Long where
  id : Nat
  via : Via
  seq : Nat
  opcode : Nat
  originPort : Nat
  /-- The command's first argument: a cycle number, a unit, a slot. -/
  arg : Nat
  /-- Its second: a profile, a section mask, the Strikes seen so far (R170). -/
  arg2 : Nat
  /-- Its port has been reset since (R54): its completion is discarded and counted. -/
  abandoned : Bool
  deriving DecidableEq, Repr

/-- One cached reply (R49): `SEQ`, opcode and trailer of the packet it answered. -/
structure Cached where
  seq : Nat
  opcode : Nat
  trailer : Nat
  reply : Reply
  deriving DecidableEq, Repr

/-- The cached replies of one MT source, latest use last (R49). -/
structure MtSource where
  ip : Nat
  udp : Nat
  cached : List Cached
  deriving DecidableEq, Repr

/-- An incomplete fragmented datagram (R58): its source, identification and the fragments held. -/
structure MtPart where
  ip : Nat
  ident : Nat
  frags : List (Nat × List Byte)
  /-- UDP ports, from the first fragment, and the length, from the last. -/
  udp : Nat
  dstUdp : Nat
  total : Option Nat
  deriving DecidableEq, Repr

/-- A ring endpoint's state beside its words (R52 to R55). -/
structure Endpoint where
  /-- The `PHASE` the next record carries. -/
  phase : Bool
  /-- A record has been lost since the last one delivered. -/
  lost : Bool
  /-- The PCIe link is up (PCIE_LINK_CHANGE). -/
  link : Bool
  /-- `DIAG_ADDR` of the BAR2 window. -/
  diagAddr : Nat
  deriving DecidableEq, Repr

/-- A pair of latches of one read path (R489): TIM 0x008, and POS 0x010 and 0x018. -/
structure Latch where
  tim : Nat
  posVel : Nat
  posTime : Nat
  deriving DecidableEq, Repr

/-- The command processor and its transports. -/
structure CmdUnit where
  waitSS : List Packet
  waitHA : List Packet
  waitHB : List Packet
  waitMT : List Packet
  waitTrain : List Packet
  /-- Whose turn the round robin of R44 gives next: 0 HA, 1 HB, 2 MT, 3 TRAIN. -/
  turn : Nat
  longs : List Long
  nextLong : Nat
  /-- Replies queued on SS (R57), oldest first. -/
  ssReplies : List Reply
  ssEvents : List EvtRec
  ssOverrun : Bool
  ssFrameErr : Bool
  ssLost : Bool
  ssCache : List Cached
  mtCache : List MtSource
  mtParts : List MtPart
  /-- Destination of events on MT (R58): address, port, group mask. -/
  mtDest : Option (Nat × Nat × Nat)
  ha : Endpoint
  hb : Endpoint
  /-- The five read paths of R489: the processor, BAR0 of HA and HB, BAR2 of HA and HB. -/
  latches : List Latch
  deriving DecidableEq, Repr

/-! Backbone (spec/03). -/

/-- One backbone lane, beside its counters. -/
structure Lane where
  trained : Bool
  /-- Speed trained at: 0 2.5 Gb/s, 1 1 Gb/s, 2 100 Mb/s. -/
  speed : Nat
  /-- In loss (R94), since when, whether the report began in a window, whether it has qualified. -/
  inLoss : Bool
  lossStart : Nat
  lossInWindow : Bool
  qualified : Bool
  /-- Has left the group and waits out the clean time of R93. -/
  recovering : Bool
  /-- Uptimes in ns of the errors that count toward degradation (R95). -/
  errors : List Nat
  deriving DecidableEq, Repr

/-- Duplicate state of one key (R82): highest sequence delivered and the bitmap, bit i for H − i. -/
structure Dup where
  origin : Nat
  epoch : Nat
  high : Nat
  seen : Nat
  deriving DecidableEq, Repr

/-- One lane table entry (Table 03-4): its place in the table, and what it says. -/
structure LaneEnt where
  index : Nat
  slot : Nat
  lane : Nat
  originate : Bool
  skew : Nat
  deriving DecidableEq, Repr

/-- A link-local frame that waits for a gap of its lane (R90, R177): a lane state frame, the Request of a delay exchange, or
the Response and Follow-up to a Request of a sequence number received at a compact time. -/
inductive GapFrame
  | laneState
  | request
  | response (seq t2 : Nat)
  deriving DecidableEq, Repr

/-- The backbone unit. -/
structure BkbUnit where
  lanes : List Lane
  /-- `RH_SEQ` of the next forwarded frame originated (R75). -/
  seq : Nat
  dups : List Dup
  /-- Per plane-end: the lane tables whose flips are armed, each with the least uptime in ns of its boundary (R91), oldest
  first. -/
  armed : List (List (Nat × Nat))
  /-- Disturbance windows whose entries have been freed within the longest frame: start, duration and mask (R99). -/
  closed : List (Nat × Nat × Nat)
  /-- Link-local frames that wait for a gap, by MAC, oldest first. -/
  gaps : List (Nat × GapFrame)
  /-- The five tables of each plane-end in force, at 5 × p + index (R88, R157). -/
  tables : List (List LaneEnt)
  /-- Those that Hoist run-ahead has built and a swap brings into force. -/
  shadow : List (List LaneEnt)
  /-- Lane banks marked faulty (R14): plane-end and bank. -/
  faulty : List (Nat × Nat)
  deriving DecidableEq, Repr

/-! Train cycle (spec/04). -/

/-- One slot table entry (Table 04-4); `egress` and `ingress` per plane-end, 0xFFFF_FFFF where the frame does not pass. -/
structure Slot where
  num : Nat
  origin : Nat
  len : Nat
  period : Nat
  phase : Nat
  valid : Bool
  originate : Bool
  publish : Nat
  msg : Nat
  egress : List Nat
  ingress : List Nat
  deriving DecidableEq, Repr

/-- One bank of the slot table. -/
structure SlotBank where
  slots : List Slot
  sched : Nat
  /-- Complete and checked (R138), so that its selector may flip to it. -/
  ready : Bool
  faulty : Bool
  deriving DecidableEq, Repr

/-- A slot frame or Pennant that waits for its scheduled egress at a plane-end (R78, R120). -/
structure SlotOut where
  slot : Nat
  pe : Nat
  frame : BbFrame
  /-- Local time in ns of the receive timestamp, for the residence of R112; none at the origin. -/
  rxTime : Option Nat
  /-- Delay of the ingress lane in ps (R178); 0 at the origin. -/
  rxDelay : Nat
  /-- The held frame whose cells it occupies. -/
  buf : Nat
  deriving DecidableEq, Repr

/-- The cycle unit. -/
structure CycleUnit where
  /-- Local time in ns at the start of the current cycle. -/
  start : Nat
  lfsr : Nat
  /-- The back-off drawn, in units of 10 µs (R129). -/
  backoff : Nat
  /-- A Pennant or Startup frame was heard since the listen timer started. -/
  heard : Bool
  /-- The last Startup contest of each `SU_UID` relayed or used here: the unique ID, and `SU_SEC` and `SU_NS` in ns (R127). -/
  startupSeen : List (Nat × Nat)
  /-- Cycle of the last Pennant accepted, and whether that of the current cycle has been. -/
  lastAccepted : Option Nat
  acceptedNow : Bool
  /-- The Pennant of the current cycle has been judged missed (R133). -/
  missedNow : Bool
  /-- The cycle at whose start this node last applied a step (R185). -/
  steppedAt : Option Nat
  /-- Slots whose content has been taken in this cycle (R118). -/
  cut : List Nat
  /-- The message phase of this cycle has been opened. -/
  phaseDone : Bool
  /-- Pennants missed in a row (R133). -/
  missed : Nat
  /-- Good Pennants toward SYNC (R515). -/
  good : Nat
  /-- `TCY_INTEG_CYCLES` and `TCY_LOST_CYCLES` as they stand in this cycle (R140). -/
  integ : Nat
  lost : Nat
  /-- `PN_POLL` of the last Pennant accepted, bit n for slot n. -/
  poll : Nat
  /-- The schedule switch announced: its cycle and the schedule that takes effect (R111). -/
  switch : Option (Nat × Nat)
  /-- This node's Lead role: bootstrap until the first commit; successor until the first commit. -/
  bootstrap : Bool
  successor : Bool
  /-- A Pennant of this node's slot schedule has not matched (R18, R128). -/
  mismatch : Bool
  mismatchRaised : Bool
  bankA : SlotBank
  bankB : SlotBank
  /-- Slot frames and Pennants waiting for their egress. -/
  waiting : List SlotOut
  /-- Out-of-window arrivals for the reports of R122, per plane-end: cycle and error in ns. -/
  reports : List (Option (Nat × Int))
  /-- Accusations heard (R123): neighbour, plane (0 X, 1 Y), cycle. -/
  accused : List (Nat × Nat × Nat)
  /-- The first of the two missed cycles that declared the Lead lost (R133). -/
  lostAt : Nat
  /-- The offset of the last accepted Pennant is good for succession (R134): magnitude at most 150 ns. -/
  alignGood : Bool
  /-- The overlap cycle of a swap (R160), by cycle number. -/
  overlap : Option Nat
  deriving DecidableEq, Repr

/-! Hoist (spec/05). -/

/-- One directory record (Table 05-3). -/
structure DirRec where
  uid : Nat
  vehId : Nat
  kind : Nat
  flags : Nat
  ends : Nat
  sense : Nat
  node : Nat
  vehicle : Nat
  orient : Nat
  cls : Nat
  demandId : Nat
  hops : Nat
  route : Nat
  foreignPos : Nat
  deriving DecidableEq, Repr

/-- A trigger (Table 05-1): reason, detail, the unique ID that sent it, a foreign Lead's unique ID or zero, and the local
ns at which it came. -/
structure Trig where
  reason : Nat
  detail : Nat
  uid : Nat
  foreign : Nat
  at_ : Nat
  deriving DecidableEq, Repr

/-- One slot of a Proposal (Table 05-5): origin, demand index, E0 in ns, lanes under the five tables. -/
structure PropSlot where
  origin : Nat
  demand : Nat
  e0 : Nat
  lanes : List Nat
  deriving DecidableEq, Repr

/-- A complete Proposal (R150). -/
structure Proposal where
  leadUid : Nat
  hoistId : Nat
  epoch : Nat
  sched : Nat
  flags : Nat
  reason : Nat
  recs : List DirRec
  slots : List PropSlot
  deriving DecidableEq, Repr

/-- A key of an own Hoist control frame (R147), with the planes on which it has been relayed: bit 0 X, bit 1 Y. -/
structure HcKey where
  typ : Nat
  lead : Nat
  hoist : Nat
  seg : Nat
  sender : Nat
  deriving DecidableEq, Repr

/-- One slot demand of a class (spec/05, Slot placement). -/
structure Demand where
  len : Nat
  period : Nat
  phase : Nat
  publish : Nat
  msg : Nat
  deriving DecidableEq, Repr

/-- The Topology copy taken last (R149): its Hoist, the hops and route of the Records that answer it, the cycle in which it was
taken, and whether they have been sent. -/
structure TopoTaken where
  hoist : Nat
  hops : Nat
  route : Nat
  cycle : Nat
  sent : Bool
  deriving DecidableEq, Repr

/-- The Hoist unit: the node machine and the Lead machine. -/
structure HoistUnit where
  current : List DirRec
  /-- The replaced directory, during the overlap cycle. -/
  previous : List DirRec
  /-- The proposed directory and slots, while PENDING. -/
  proposal : Option Proposal
  /-- Segments of a Proposal not yet complete: Lead, Hoist, segment, count, bytes; with the epoch. -/
  segments : List (HcKey × Nat × Nat × List Byte)
  keys : List HcKey
  confirmed : List Nat
  /-- The end (0 E1, 1 E2) on which the Topology of Hoist n was accepted, with n (R147). -/
  leadFacing : Option (Nat × Nat)
  topology : Option TopoTaken
  /-- Swap cycle of the Commit taken, whether the swap is late, whether the Commit was INCOMPLETE. -/
  swapAt : Option (Nat × Bool × Bool)
  /-- Swap cycle of a Hoist whose Proposal leaves this node out (R161). -/
  leftAt : Option Nat
  /-- Pennants in a row that carried the Proposal's schedule (R161). -/
  newSched : Nat
  yieldAt : Option Nat
  /-- Triggers detected here and not yet sent to the Lead (R143). -/
  held : List Trig
  /-- The demand table: class and its demands. -/
  demands : List (Nat × List Demand)
  /-- Levels of COUPLE_SENSE_E1, COUPLE_SENSE_E2 and CAB_ACTIVE after debounce. -/
  senseE1 : Bool
  senseE2 : Bool
  cabActive : Bool
  /-- Lead machine: triggers waiting (R165), join triggers waiting, whether the Topology is sent, message phases left to
  collect, records, the Readies, the nodes refused, retries run, the swap cycle committed. -/
  waiting : List Trig
  joins : List Trig
  topologySent : Bool
  collectLeft : Nat
  records : List DirRec
  readies : List Nat
  missing : List Nat
  retries : Nat
  commitAt : Option Nat
  commitSent : Nat
  incomplete : Bool
  reason : Nat
  /-- When the trigger that started the Hoist qualified (R150). -/
  reasonAt : Nat
  hoistId : Nat
  proposedSinceSwap : Bool
  yieldDue : Option (Nat × Nat)
  /-- The Proposal the Lead has made, and whether it waits for the next message phase to be sent (R150). -/
  leadProposal : Option Proposal
  proposeReady : Bool
  deriving DecidableEq, Repr

/-! Remote access bridge (spec/12). -/

/-- A request at its origin: open non-posted (with its tag) or posted (R365). -/
structure BrReq where
  via : Via
  posted : Bool
  hdr : CmdHdr
  opcode : Nat
  tag : Nat
  xid : Nat
  destUid : Nat
  bytes : List Byte
  /-- Trailer of the packet as it came in: the reply cache knows it by this (R49). -/
  trailer : Nat
  reserve : Nat
  sent : Bool
  /-- Its place in the order of acceptance. -/
  ord : Nat
  deriving DecidableEq, Repr

/-- Segments of a packet not yet complete (R370). -/
structure BrPart where
  origin : Nat
  epoch : Nat
  typ : Nat
  port : Nat
  xid : Nat
  tag : Nat
  oseq : Nat
  total : Nat
  segs : List (Nat × List Byte)
  len : Nat
  flags : Nat
  reason : Nat
  deriving DecidableEq, Repr

/-- A request at its target that waits for its turn (R371). -/
structure BrWait where
  origin : Nat
  originUid : Nat
  epoch : Nat
  oseq : Nat
  posted : Bool
  port : Nat
  tag : Nat
  xid : Nat
  bytes : List Byte
  deriving DecidableEq, Repr

/-- The order state of one origin and epoch at a target: the next `RA_OSEQ` to execute. -/
structure BrOrder where
  originUid : Nat
  epoch : Nat
  next : Nat
  deriving DecidableEq, Repr

/-- A bridge frame's packet to be sent in the message phase: type, POSTED, destination unique ID, port, tag, number, bytes. -/
structure BrOut where
  typ : Nat
  posted : Bool
  destUid : Nat
  port : Nat
  tag : Nat
  xid : Nat
  reason : Nat
  bytes : List Byte
  deriving DecidableEq, Repr

/-- The bridge. -/
structure BridgeUnit where
  open_ : List BrReq
  posted : List BrReq
  nextOrd : Nat
  /-- Next transaction number of ports 116 to 119, and that at the last reset of each port (R368). -/
  xids : List Nat
  resetXids : List (Option Nat)
  /-- Next order number per destination unique ID and epoch. -/
  oseqs : List (Nat × Nat × Nat)
  parts : List BrPart
  waits : List BrWait
  orders : List BrOrder
  outs : List BrOut
  /-- Port-reset notices to send (R377): port, 0xFF for every port. -/
  notices : List Nat
  /-- Expiry of each held semaphore: index and local ns. -/
  expiries : List (Nat × Nat)
  deriving DecidableEq, Repr

end Sys2Proof.Machine
end

