-- ==== Sys2Proof/Machine/Outputs.lean ====
section
/-!
DEFINITION. What a command makes the node hand to the outside: replies, event records, interrupts, frames on lanes and
ports, levels on pins, writes into host memory.  The state keeps the outputs of the last command only.
-/
namespace Sys2Proof.Machine
open Sys2Proof

/-- Pins the node drives. -/
inductive Pin
  | evtN | arbReq | ppsOut | railFail | wakeSignal
  | channel (c : Nat)
  deriving DecidableEq, Repr

/-- One thing handed to the outside. -/
inductive Output
  /-- A reply on its path, of which `len` bytes are written (R51: the rest is cut). -/
  | reply (v : Via) (r : Reply) (len : Nat)
  /-- Bytes 24 to 31 of a command ring entry (Table 02-4). -/
  | ringWriteBack (hb : Bool) (index len status flags : Nat)
  /-- A record in the event ring (R52). -/
  | ringEvent (hb : Bool) (index : Nat) (e : EvtRec)
  | msix (hb : Bool) (vector : Nat)
  /-- MISO bytes of an SS transaction (Table 02-5a). -/
  | miso (bytes : List Byte)
  /-- A UDP datagram on MT: to address and port (R58). -/
  | datagram (ip udp : Nat) (bytes : List Byte)
  /-- An event record sent as a datagram on MT. -/
  | mtEvent (ip udp : Nat) (e : EvtRec)
  /-- An answer of MT to ARP (0) or ICMP echo (1), with the address asked from. -/
  | mtAnswer (kind ip : Nat) (bytes : List Byte)
  /-- A frame starts on a backbone lane. -/
  | lane (mac : Nat) (f : BbFrame)
  /-- A frame starts on a vehicle, 10BASE-T1S or MT port, without FCS. -/
  | port (mac : Nat) (bytes : List Byte)
  /-- A transmit descriptor's write-back (Table 07-7). -/
  | txWriteBack (hb : Bool) (index sent time status event defers flags : Nat)
  /-- A received frame in a host buffer and its write-back (Table 07-9). -/
  | rxDeliver (hb : Bool) (index : Nat) (bytes : List Byte) (time len port flags : Nat)
  /-- Words a read of BAR0, BAR2 or a latching word returns. -/
  | words (ws : List Nat)
  | pin (p : Pin) (level : Nat)
  /-- A PTP message the boundary clock sends on a vehicle port: kind, sequence and time. -/
  | ptp (port kind seq : Nat) (time : Nat) (data : List Nat)
  /-- The output image of a field link frame: die, and per channel level and code. -/
  | fieldFrame (die : Nat) (image : List (Nat × Nat))
  /-- An MVB frame: controller, kind (0 master, 1 slave), F-code, address, data. -/
  | mvb (c kind fcode addr : Nat) (data : List Byte)
  | wtb (data : List Byte)
  | can (k id ide fdf brs : Nat) (data : List Byte)
  | serial (s : Nat) (data : List Byte)
  /-- A guidon header and mirror image on Halyard, or a guidon on a backbone lane. -/
  | halyard (hdr mirror : List Byte)
  | guidon (mac : Nat) (hdr : List Byte)
  /-- The node begins a reset of the given kind (Table 16-1). -/
  | nodeReset (kind : Nat)
  /-- A status of the power die: feed switched, rail dropped, restart. -/
  | power (what v : Nat)
  deriving DecidableEq, Repr

end Sys2Proof.Machine
end

