-- ==== Sys2Proof/Machine/UnitsField.lean ====
section
/-!
DEFINITION. State of the field channels, the feeds, the pair and the power ladder that is not a parameter word (spec/13 to
spec/15).
-/
namespace Sys2Proof.Machine
open Sys2Proof

/-- A channel's configuration as its die holds it while the field link is lost: mode, owner kind, safe level, safe latch and
pairing, and what the core last received of its watchdog and hold times (R416). -/
structure DieCfg where
  mode : Nat
  kind : Nat
  safe : Nat
  keep : Bool
  paired : Bool
  wdLeft : Nat
  holdLeft : Nat
  deriving DecidableEq, Repr

/-- A field channel as its field die holds it (R385 to R405); its words are copies that the link brings. -/
structure Chan where
  /-- What its die holds of its configuration while the field link is lost (R406). -/
  cfg : Option DieCfg
  /-- The value its owner applied last: a level, or a loop code. -/
  value : Nat
  /-- The watchdog runs; the uncorrected ns at which it last started. -/
  running : Bool
  wdFrom : Nat
  /-- The watchdog time in ms that its last refresh took up (R410). -/
  wdMs : Nat
  /-- Its watchdog or hold has expired since the last refresh: 0 no, 1 owner silent, 2 hold limit. -/
  dead : Nat
  /-- The safe state is latched (R400) until `FIELD_FAULT_CLEAR`. -/
  kept : Bool
  /-- Hold (R405), and the uncorrected ns at which it began. -/
  held : Bool
  holdFrom : Nat
  /-- What the last mirror image gave, or what the node drove when it became standby. -/
  mirror : Option Nat
  /-- R404 is in force. -/
  stale : Bool
  /-- It stands off until its new mode is connected (R385). -/
  changing : Bool
  /-- A guarded channel active by declaration (R433). -/
  taken : Bool
  /-- Latched fault: 0 none, 1 overcurrent, 2 overtemperature, 3 compliance opened. -/
  latch : Nat
  /-- The last shortfall of a loop output was an open loop (R396). -/
  openLoop : Bool
  /-- The level or code at its terminal. -/
  level : Nat
  /-- Wire-break counter of mode 2 (R388). -/
  brk : Nat
  /-- Conversions of a loop input, newest first (R395). -/
  conv : List Nat
  deriving DecidableEq, Repr

/-- The field channels used so far, by number; bank supply states (Table 13-1); link frames missed in a row per die. -/
structure FieldUnit where
  chans : List (Nat × Chan)
  banks : List Nat
  missed : List Nat
  deriving DecidableEq, Repr

/-- One guidon path (R430): the last accepted sequence, when it was accepted in uncorrected ns, guidons accepted in a row,
of those with `ACTIVE`, and whether three have been missed. -/
structure GuidonPath where
  seq : Option Nat
  at_ : Nat
  row : Nat
  activeRow : Nat
  missed : Bool
  /-- Misses counted since the last accepted guidon. -/
  counted : Nat
  deriving DecidableEq, Repr

/-- The pair (R423 to R434) and the feeds (R418 to R422). -/
structure PairUnit where
  /-- `ARB_REQ` is held low by `FAILOVER_REQUEST`. -/
  reqLow : Bool
  seq : Nat
  hal : GuidonPath
  bb : GuidonPath
  /-- `GD_FLAGS` of the partner's latest guidon. -/
  partner : Option Nat
  /-- The partner's identity disagrees with the directory (R423). -/
  stranger : Bool
  /-- The single path whose loss has been reported: 0 none, 1 Halyard, 2 backbone. -/
  lostPath : Nat
  /-- Guarded channels are active by declaration. -/
  taken : Bool
  /-- The command firmware's count has not advanced within 4 ms; the node began to shut down. -/
  fwLate : Bool
  shutdown : Bool
  /-- Feeds that left `VALID` during the present HOLDUP, A and B. -/
  leftA : Bool
  leftB : Bool
  /-- The feed connected last: 1 A, 2 B. -/
  lastFeed : Nat
  /-- The power die's own arbiter: its state (Table 14-2), the feeds' states and voltages, the last preference received,
  and `HOLDUP_WARN`. -/
  arb : Nat
  stA : Nat
  stB : Nat
  mvA : Nat
  mvB : Nat
  prefer : Nat
  warn : Bool
  /-- The core starts no MRAM write (R13): `HOLDUP_WARN`, or thermal shutdown. -/
  noMram : Bool
  deriving DecidableEq, Repr

/-- The power ladder, train sleep and the thermal loop. -/
structure LadderUnit where
  /-- Sleep acknowledgements taken by the Lead: unique IDs. -/
  acks : List Nat
  ackDue : Bool
  /-- A THERMAL with the restart flag is due at stage 3. -/
  restartDue : Bool
  /-- Shut down by a junction temperature (R457): no feed is connected before the restart. -/
  shut : Bool
  /-- `LAD_WAKE_MASK` at the entry to Bog (R461). -/
  wakeMask : Nat
  /-- Junction temperatures of the six dies in 0.1 °C, as the power die holds them. -/
  tj : List Int
  /-- Switchovers, ride-throughs and feed losses that the power die has counted while its link was down. -/
  owed : List Nat
  /-- Corrected errors of the DRAM and of the MRAM found while its domain stood below Run (R485). -/
  corrected : List Nat
  deriving DecidableEq, Repr

end Sys2Proof.Machine
end

