-- ==== Sys2Proof/Machine/UnitsNet.lean ====
section
/-!
DEFINITION. State of the Ethernet ports, the packet buffer, the routing tables and the event scheduler that is not a
parameter word (spec/07, spec/10).
-/
namespace Sys2Proof.Machine
open Sys2Proof

/-- A transmit descriptor in progress (R228, R229): where its write-back goes and what it will say. -/
structure TxDesc where
  hb : Bool
  index : Nat
  event : Nat
  /-- `TW_SENT`. -/
  sent : Nat
  /-- `TW_TIME`, zero until a copy is sent, and the local ns it stands for. -/
  time : Nat
  startedAt : Nat
  defers : Nat
  launchLate : Bool
  copies : Nat
  lateWindow : Bool
  removed : Bool
  /-- The endpoint was reset since (R227): the write-back is discarded. -/
  abandoned : Bool
  deriving DecidableEq, Repr

/-- A frame in the packet buffer (R326 to R329). -/
structure Held where
  id : Nat
  wire : Wire
  /-- Cells held, by account: 0 scheduled, 1 publish, 2 launch, 3 control, 4 HA, 5 HB, 6 + q priority q, 14 shared,
  16 + n the reservation of MAC n. -/
  cells : List (Nat × Nat)
  /-- The ingress MAC whose shared limit it counts under (R326), or 255. -/
  mac : Nat
  refs : Nat
  desc : Option TxDesc
  deriving DecidableEq, Repr

/-- One egress copy of a held frame in a queue of a MAC. -/
structure Copy where
  buf : Nat
  mac : Nat
  /-- Strict-priority queue 0 to 7; 8 is the launch queue (R318). -/
  queue : Nat
  /-- Uptime in ns when it entered, and the age limit in ms that it entered with (R319, R338). -/
  since : Nat
  age : Nat
  strip : Bool
  /-- Counted once as deferred (R124, R321). -/
  counted : Bool
  /-- Launch: event index, launch instant in local ns, window in ns, DEFER, deferrals so far (R231 to R233). -/
  event : Nat
  launch : Nat
  window : Nat
  defer : Bool
  defers : Nat
  /-- What leaves in place of the held frame: a carried frame's backbone form, or the frame it carried (R314, R315). -/
  over_ : Option Wire
  /-- Local ns at which it started. -/
  started : Nat
  deriving DecidableEq, Repr

/-- Where a bound copy is to leave: by the MAC of a port, or on a plane of the backbone (R228). -/
inductive Egress
  | port (mac : Nat)
  | plane (y : Bool)
  deriving DecidableEq, Repr

/-- A frame bound to an event entry (R231). -/
structure Bound where
  buf : Nat
  event : Nat
  /-- Its copies, each with the deferrals it has taken. -/
  copies : List (Egress × Nat)
  defer : Bool
  /-- `RH_SEQ` of a backbone frame that has been released before (R75). -/
  seq : Option Nat
  deriving DecidableEq, Repr

/-- One routing entry (Table 10-2). -/
structure Route where
  da : Nat
  vid : Nat
  valid : Bool
  anyVid : Bool
  strip : Bool
  ports : Nat
  local_ : Nat
  queue : Nat
  override : Bool
  rule : Nat
  msgNum : Nat
  node : Nat
  deriving DecidableEq, Repr

/-- One egress header (R317). -/
structure EgressHdr where
  da : Nat
  valid : Bool
  tag : Bool
  queue : Nat
  tci : Nat
  etype : Nat
  deriving DecidableEq, Repr

/-- Ports, packet buffer and routing. -/
structure NetUnit where
  held : List Held
  nextBuf : Nat
  queue : List Copy
  /-- The copy each busy MAC is sending. -/
  sending : List Copy
  /-- 10BASE-T1S: collisions so far of the frame a MAC tries to send, and the frames in back-off (R321). -/
  attempts : List (Nat × Nat)
  backoff : List Copy
  routesA : List Route
  routesB : List Route
  bank : Bool
  faulty : List Nat
  egress : List (Nat × EgressHdr)
  /-- Cells the message images of the loaded publish layouts occupy (R289). -/
  pubCells : Nat
  /-- Cells retired of the accounts of HA and HB (R333), which share one reservation field. -/
  retired : List (Nat × Nat)
  /-- Test mode in force per port (R309). -/
  phyTest : List (Nat × Nat)
  /-- PAUSE in force: MAC and the uncorrected ns at which it ends (R320). -/
  pauses : List (Nat × Nat)
  deriving DecidableEq, Repr

/-- One event entry (Table 07-1) and its comparator. -/
structure EvEntry where
  index : Nat
  bytes : List Byte
  /-- Next target of a time entry, compact (R217). -/
  target : Nat
  /-- Position at the previous evaluation, in µm, and whether one has been taken. -/
  prevPos : Int
  havePos : Bool
  /-- Angle bits [31:16] at the previous evaluation. -/
  prevAngle : Nat
  haveAngle : Bool
  /-- A conjunction's position has entered its window. -/
  entered : Bool
  /-- Cycle of the last profile evaluation (R225). -/
  lastEval : Option Nat
  deriving DecidableEq, Repr

/-- A frame ring pair of one endpoint, as last read from host memory (R227). -/
structure FrameRings where
  txTail : Nat
  rxTail : Nat
  /-- Buffer sizes of the receive descriptors published and not yet filled (R230). -/
  rxBufs : List Nat
  txStopped : Bool
  rxStopped : Bool
  deriving DecidableEq, Repr

/-- The event scheduler. -/
structure SchUnit where
  entries : List EvEntry
  bound : List Bound
  ha : FrameRings
  hb : FrameRings
  deriving DecidableEq, Repr

end Sys2Proof.Machine
end

