-- ==== Sys2Proof/Machine/UnitsSig.lean ====
section
/-!
DEFINITION. State of signal mapping and of the engine clusters that is not a parameter word (spec/08, spec/09).
-/
namespace Sys2Proof.Machine
open Sys2Proof

/-- A value-store entry (Table 08-9a); `status` as Table 08-9b lays its bits. -/
structure ValEntry where
  value : Nat
  time : Nat
  status : Nat
  epoch : Nat
  origin : Nat
  arrival : Nat
  deriving DecidableEq, Repr

/-- A message descriptor (Table 08-2). -/
structure MsgDesc where
  msg : Nat
  first : Nat
  count : Nat
  safety : Bool
  cls : Nat
  window : Nat
  safetyId : Nat
  deriving DecidableEq, Repr

/-- A binding rule (Table 08-3). -/
structure BindRule where
  kind : Nat
  ordinal : Nat
  cls : Nat
  uid : Nat
  deriving DecidableEq, Repr

/-- A binding bank: its descriptors and the node each rule resolves to, 0 when unbound. -/
structure BindBank where
  descs : List MsgDesc
  nodes : List Nat
  deriving DecidableEq, Repr

/-- The tag of a frame, job or chunk (R16): the active banks, the profile and the epoch. -/
structure Tag where
  routing : Bool
  slot : Bool
  binding : Bool
  profile : Nat
  epoch : Nat
  deriving DecidableEq, Repr

/-- A message instance under way (R279): its descriptor, payload and source instant (compact), the origin node, the
channels whose inputs give a source failure, and its trailer outcome: 0 awaited, 1 good, 2 failed, 3 discarded. -/
structure Instance where
  id : Nat
  desc : MsgDesc
  payload : List Byte
  time : Nat
  origin : Nat
  badChannels : List Nat
  outcome : Nat
  jobs : Nat
  /-- The frame whose cells hold the payload, when it came in one. -/
  buf : Option Nat
  arrival : Nat
  start : Nat
  deriving DecidableEq, Repr

/-- One write of a destination into a publish image (R263), with its signal and the number of the store write that produced
it (R254). -/
structure DestWrite where
  layout : Nat
  signal : Nat
  stamp : Nat
  le : Bool
  offset : Nat
  width : Nat
  raw : Nat
  deriving DecidableEq, Repr

/-- A job (Table 09-1a).  `root` is the job whose chunk it completes (a follow-on completes its parent's), `signals` the
derived signals of a follow-on, `staged` the writes of its ancestors that wait for it. -/
structure Job where
  id : Nat
  root : Nat
  deadline : Nat
  arrival : Nat
  first : Nat
  count : Nat
  cls : Nat
  check : Bool
  followOn : Bool
  sweep : Bool
  level : Nat
  tag : Tag
  inst : Nat
  signals : List Nat
  staged : List DestWrite
  /-- The arrival numbers that its derived evaluations took, in the order of `signals`, once it has run (R254, R297). -/
  numbers : List Nat
  /-- A quarantine sent it back: its next run is a rerun (R297). -/
  rerun : Bool
  deriving DecidableEq, Repr

/-- A job on its engine: whether its records are done, what they staged and triggered. -/
structure Running where
  job : Job
  done : Bool
  writes : List DestWrite
  triggers : List Nat
  deriving DecidableEq, Repr

/-- An engine that is not idle with an empty deque. -/
structure Engine where
  num : Nat
  deque : List Job
  running : Option Running
  /-- Jobs stolen into it, by number (R300). -/
  stolen : List Nat
  /-- A self-test was asked for by `SELFTEST` and awaits the idle search (R299). -/
  testing : Bool
  deriving DecidableEq, Repr

/-- A chunk on its way to a layout (R290). -/
structure Chunk where
  layout : Nat
  root : Nat
  writes : List DestWrite
  epoch : Nat
  deriving DecidableEq, Repr

/-- A job that has not delivered its chunks, and the layouts its descriptor's fan-out names (R291). -/
structure Owed where
  root : Nat
  layouts : List Nat
  deriving DecidableEq, Repr

/-- A release point closed a generation (R291): the layout, the jobs it still awaits, and the source instant in local ns of
a mode 0 trigger of scheduled or safety class. -/
structure Release where
  layout : Nat
  roots : List Nat
  since : Option Nat
  deriving DecidableEq, Repr

/-- A message a publish unit released to a slot (R118): its layout, bytes, release time (compact) and cycle. -/
structure Published where
  layout : Nat
  bytes : List Byte
  time : Nat
  cycle : Nat
  /-- The held frame whose cells it occupies. -/
  buf : Nat
  deriving DecidableEq, Repr

/-- Signal mapping. -/
structure SigUnit where
  /-- Map table: the records that are not all zero, by index (R240). -/
  map : List (Nat × List Byte)
  /-- Value store: the entries written, by index. -/
  store : List (Nat × ValEntry)
  arrival : Nat
  rules : List BindRule
  bindA : BindBank
  bindB : BindBank
  bank : Bool
  /-- Banks marked faulty (R14): false A, true B. -/
  faulty : List Bool
  /-- Per safety descriptor, by message: the last accepted sequence, and when the last event was raised, in uncorrected ns. -/
  safety : List (Nat × Option Nat × Option Nat)
  /-- Map records found unreadable, and value entries that read invalid until written (R14). -/
  mapFaults : List Nat
  valueFaults : List Nat
  /-- Who armed the profile switch: 0 command, 1 event, 2 image, with the event's index. -/
  profSource : Nat
  profEvent : Nat
  deriving DecidableEq, Repr

/-- Engines and publish units. -/
structure EngUnit where
  engines : List Engine
  insts : List Instance
  nextId : Nat
  owed : List Owed
  chunks : List Chunk
  releases : List Release
  /-- Message images by layout (128 × unit + layout); an image not listed is all zero. -/
  images : List (Nat × List Byte)
  /-- The number of the last store write whose destinations followed, and the newest such number applied to an image, by layout
  and signal (layout × 2^18 + signal) (R254). -/
  stamp : Nat
  applied : List (Nat × Nat)
  /-- `STL_SELFTEST_EN` in force (R303). -/
  selftest : Bool
  /-- Last safety sequence of a layout (R261). -/
  seqs : List (Nat × Nat)
  slots : List Published
  /-- Scheduled and safety records pushed per fen in the present 5 µs interval (R293). -/
  envelope : List Nat
  /-- Self-tests under way for `SELFTEST` on a fen: its long command and the engines left. -/
  fenTest : List (Nat × List Nat)
  deriving DecidableEq, Repr

end Sys2Proof.Machine
end

