-- ==== Sys2Proof/Machine/UnitsStore.lean ====
section
/-!
DEFINITION. State of the legacy buses, the configuration store and the recorder that is not a parameter word (spec/11,
spec/16).
-/
namespace Sys2Proof.Machine
open Sys2Proof

/-! Legacy buses. -/

/-- A transmit image (R343) under its port and message number: its bytes, and whether it has not been sent yet. -/
structure TxImage where
  port : Nat
  msg : Nat
  bytes : List Byte
  unsent : Bool
  /-- Uncorrected ns of its release. -/
  since : Nat
  deriving DecidableEq, Repr

/-- A frame in an RS-485 queue (R361). -/
structure SerFrame where
  port : Nat
  entry : Nat
  bytes : List Byte
  deriving DecidableEq, Repr

/-- The legacy buses. -/
structure LegUnit where
  images : List TxImage
  serial : List SerFrame
  /-- Receive entries in silence, whose empty instance has been delivered (R342): bus 0 MVB, 1 WTB, 2 CAN, 3 RS-485; unit;
  entry. -/
  silent : List (Nat × Nat × Nat)
  /-- MVB and WTB line ports with a good frame in the last 100 ms (R340). -/
  lines : List Nat
  /-- Basic period number of each MVB controller, and the polls of the period still to send: F-code and address. -/
  periods : List Nat
  /-- When the last basic period of each MVB controller started, in uncorrected ns (R346). -/
  starts : List Nat
  polls : List (List (Nat × Nat))
  /-- Serial ports whose response limit has passed, with the uncorrected ns at which it did. -/
  late : List (Nat × Nat)
  /-- Foreign positions of the last completed WTB inauguration, while the next one runs (R342, R353). -/
  foreignBefore : Nat
  deriving DecidableEq, Repr

/-! The configuration store. -/

/-- A journal record (R468): its type, sequence, compact timestamp and body. -/
structure JRecord where
  typ : Nat
  seq : Nat
  time : Nat
  body : List Byte
  deriving DecidableEq, Repr

/-- An image in staging (R472): the slot and length opened, and the writes so far, oldest first. -/
structure Staging where
  slot : Nat
  length : Nat
  writes : List (Nat × List Byte)
  /-- An uncorrectable error has struck it (Table 01-3). -/
  bad : Bool
  deriving DecidableEq, Repr

/-- A recorder record (R475). -/
structure RecRecord where
  value : Nat
  time : Nat
  index : Nat
  status : Nat
  epoch : Nat
  origin : Nat
  seq : Nat
  /-- Marked damaged by an uncorrectable error (Table 01-3). -/
  damaged : Bool
  deriving DecidableEq, Repr

/-- A signal of the recorder section: its index and least interval in ns, and the time and status of its last record. -/
structure RecSignal where
  index : Nat
  least : Nat
  last : Option (Nat × Nat)
  deriving DecidableEq, Repr

/-- `CONFIG_APPLY` armed (R474): its long command, cycle, section mask, whether the sections come from the other slot. -/
structure ApplyAt where
  id : Nat
  cycle : Nat
  mask : Nat
  other : Bool
  deriving DecidableEq, Repr

/-- The stores of the MRAM and DRAM dies. -/
structure StoreUnit where
  slotA : List Byte
  slotB : List Byte
  /-- A slot found valid, or written and compared. -/
  validA : Bool
  validB : Bool
  journal : List JRecord
  /-- A journal record is in flight (R13). -/
  inFlight : Option JRecord
  nextJournal : Nat
  /-- The identity records: readable, unique ID, MAC address, revoked keys, minimum version; readable, vehicle ID. -/
  factoryOk : Bool
  uid : Nat
  mac : Nat
  revoked : Nat
  minVersion : Nat
  installOk : Bool
  vehId : Nat
  /-- A vehicle ID waits to be written to the installation record until MRAM writes resume (R13, R479). -/
  vehDue : Bool
  staging : Option Staging
  /-- Parameter words written by `PARAM_WRITE` since the image was applied, the latest value of each (R468). -/
  written : List (Nat × Nat)
  /-- Slots found invalid at this start, with reason and version, and identity records that failed: events due. -/
  imageFaults : List (Nat × Nat × Nat)
  idFaults : List Nat
  /-- The slot whose check the boot awaits, and whether a fallback is left. -/
  checking : Option (Nat × Bool)
  applyAt : List ApplyAt
  /-- The recorder: its signals, the queue and the ring, oldest first. -/
  signals : List RecSignal
  queue : List RecRecord
  ring : List RecRecord
  /-- First sequence, first and last time of each 1 MiB block filled. -/
  index : List (Nat × Nat × Nat)
  deriving DecidableEq, Repr

end Sys2Proof.Machine
end

