-- ==== Sys2Proof/Machine/UnitsTime.lean ====
section
/-!
DEFINITION. State of the timebase, the odometry and the line-phase unit that is not a parameter word (spec/06).
-/
namespace Sys2Proof.Machine
open Sys2Proof

/-- A delay exchange under way (R177): its number, t1 in local ns, T2 (compact) and t4 once the response is in. -/
structure Dx where
  seq : Nat
  t1 : Nat
  t2 : Option Nat
  t4 : Option Nat
  deriving DecidableEq, Repr

/-- A lane's delay state (R177): the most recent 16 accepted results in ps, newest first, and the exchange under way. -/
structure DelayLane where
  results : List Nat
  dx : Option Dx
  deriving DecidableEq, Repr

/-- A time reference (R191, R192): consecutive good pulses and the last pulse in uncorrected ns, the anchor, the phase
error at the window's start and the last one in 2^-32 ns, whether a limit has been broken in the window, a pulse that waits
for its time of day (its instant in local and in uncorrected ns), whether such a wait has timed out since the last pulse, and
when its last event came. -/
structure RefUnit where
  pulses : Nat
  lastPulse : Option Nat
  anchorRef : Int
  anchorUp : Nat
  startE : Int
  lastE : Int
  bad : Bool
  waiting : Option (Nat × Nat)
  timedOut : Bool
  lastEvent : Option Nat
  deriving DecidableEq, Repr

/-- A PTP port (R196): 0 off, 1 listening, 2 master, 3 passive, 4 slave; the best Announce; a Sync that waits for its
follow-up; the Delay_Req under way with its send time; the last Sync's times; the mean path delay. -/
structure PtpPort where
  state : Nat
  best : Option PtpMsg
  sync : Option PtpMsg
  reqSeq : Nat
  reqTime : Option Nat
  t1 : Int
  t2 : Int
  delay : Option Int
  sendSeq : Nat
  deriving DecidableEq, Repr

/-- The timebase. -/
structure TimeUnit where
  delays : List DelayLane
  dxSeq : Nat
  /-- Integral term in 2^-32, and the exponent k of ki = 1 / (2^k × t) (R180). -/
  integ : Int
  kiLog : Nat
  over50 : Nat
  under10 : Nat
  refs : List RefUnit
  /-- The rate correction summed over uncorrected time up to the instant of its last change (R191). -/
  rateSum : Int
  rateFrom : Nat
  /-- Start of the present window of the active reference, while it has been `GOOD` and active since: the uncorrected ns and
  the sum there (R191). -/
  holdFrom : Option (Nat × Int)
  /-- `TIM_REF_ACTIVE` when the step was armed (R188). -/
  stepRef : Nat
  /-- A reference has been `GOOD` and f_h stands. -/
  haveHold : Bool
  /-- The clock has been set from a reference since the reset or the last exit from Bog (R175). -/
  firstTime : Bool
  /-- Cycle and train time of the last Pennant accepted in REFUSING, for R187. -/
  lastPn : Option (Nat × Nat)
  /-- `TIME_REINTEGRATE` has been accepted (R187). -/
  reint : Bool
  /-- `PN_TIME_SRC` of the last Pennant accepted (R182). -/
  pnSource : Nat
  ptp : List PtpPort
  deriving DecidableEq, Repr

/-- An axle (R198, R199): levels, instant of the last edge, its direction, the time since the edge before it (0 when it is
the first of a run), the step distance that edge counted and the position there in 2^-32 µm, whether the next edge starts a new
run (R213), the position fused last, and since when it has agreed. -/
structure Axle where
  a : Bool
  b : Bool
  seen : Bool
  te : Nat
  dir : Int
  dt : Nat
  step : Int
  fresh : Bool
  pos : Int
  fused : Int
  agree : Option Nat
  deriving DecidableEq, Repr

/-- A position report as last received (Table 06-6). -/
structure PosReport where
  uid : Nat
  node : Nat
  prio : Nat
  flags : Nat
  designated : Nat
  position : Int
  velocity : Int
  time : Nat
  cycle : Nat
  deriving DecidableEq, Repr

/-- Odometry and line phase. -/
structure PosUnit where
  axles : List Axle
  /-- Fused position in 2^-32 µm at the local instant of the last fusion step, and velocity in 2^-32 µm/s; since when it
  extrapolates; whether it is valid. -/
  fused : Int
  fusedAt : Nat
  vel : Int
  extrapFrom : Option Nat
  valid : Bool
  /-- Every 100 µs for the last second, newest first (R201), and fusion steps since the last entry. -/
  history : List (Nat × Int)
  ticks : Nat
  reports : List PosReport
  /-- Cycles in a row in which the designated node's report was missing or invalid, and the end of `HANDOFF`. -/
  badCycles : Nat
  handoffTo : Option Nat
  /-- The last Pennant's position, velocity, validity byte and cycle start in local ns (R205). -/
  pnPos : Int
  pnVel : Int
  pnFlags : Nat
  pnStart : Nat
  /-- Line phase: intervals of the crossings so far (newest first), crossings seen, whether the PLL runs, its angle at an
  instant of uncorrected time, good periods, periods in a row below the minimum and above the error limit. -/
  intervals : List Nat
  crossings : Nat
  pll : Bool
  angle : Nat
  angleAt : Nat
  goodPeriods : Nat
  lowAmpl : Nat
  highErr : Nat
  deriving DecidableEq, Repr

end Sys2Proof.Machine
end

