-- ==== Sys2Proof/Machine/State.lean ====
section
/-!
DEFINITION. The state of the node as plain data, and the state at reset.
-/
namespace Sys2Proof.Machine
open Sys2Proof

/-- Faults: none.  Every command of the table has an effect the spec gives, and no access of the model can fall on an
address the spec says does not exist (R481: an undefined word reads as zero and a write of it is answered `RANGE`). -/
inductive Fault
  /-- Raised by no meaning; it stands so that the type has a name to print.  Safe. -/
  | none
  deriving DecidableEq, Repr

/-- Refusals. -/
inductive Refusal
  /-- The command has no meaning in this model yet; raised by arms of `exec` alone.  Safe. -/
  | notModelled (mnemonic : String)
  deriving DecidableEq, Repr

/-- The local clock (R173): train time in ns, its fraction in 2^-32 ns, and the uncorrected ns since the release. -/
structure Clock where
  now : Nat
  frac : Nat
  up : Nat
  deriving DecidableEq, Repr

/-- What stands above the units: power, firmware stage, mismatches and OPER history. -/
structure SysUnit where
  /-- 0 without power, 1 in Bog, 2 held in reset, 3 released. -/
  power : Nat
  /-- Stage 3 has been reached since the release, so ports, cycle unit, engines and traffic run; a firmware restart leaves
  them running (Table 16-1). -/
  started : Bool
  /-- The cause of the next start (Table 16-1). -/
  resetCause : Nat
  /-- `DIAG_FW_STATE` (R55): stage, fault code, heartbeat count. -/
  stage : Nat
  faultCode : Nat
  beats : Nat
  /-- Units in mismatch (R31). -/
  mismatch : List Nat
  /-- Last change of OPER per unit, compact (R60). -/
  operTimes : List (Nat × Nat)
  /-- OPER of units whose OPER has no parameter word. -/
  operOther : List (Nat × Nat)
  /-- Reference clocks lost (R20). -/
  refLostA : Bool
  refLostB : Bool
  deriving DecidableEq, Repr

/-- The state of the node. -/
structure State where
  /-- The parameter space: what differs from the reset values, by field key (see Machine/Ops). -/
  regs : List (Nat × Nat)
  clk : Clock
  sys : SysUnit
  cmd : CmdUnit
  bkb : BkbUnit
  tcy : CycleUnit
  hst : HoistUnit
  rab : BridgeUnit
  net : NetUnit
  sch : SchUnit
  tim : TimeUnit
  pos : PosUnit
  sig : SigUnit
  eng : EngUnit
  fld : FieldUnit
  pair : PairUnit
  lad : LadderUnit
  leg : LegUnit
  sto : StoreUnit
  /-- Outputs of the last command. -/
  out : List Output
  /-- The model's own counter of free values taken. -/
  free : Nat
  pending : List Instr
  deriving DecidableEq, Repr

/-! The state at reset.  The node is held in reset with its rails up; `INTERNAL_RELEASE` lets it start. -/

/-- An endpoint at reset. -/
def Endpoint.reset : Endpoint := { phase := true, lost := false, link := false, diagAddr := 0 }

/-- The command processor at reset. -/
def CmdUnit.reset : CmdUnit :=
  { waitSS := [], waitHA := [], waitHB := [], waitMT := [], waitTrain := [], turn := 0, longs := [], nextLong := 0,
    ssReplies := [], ssEvents := [], ssOverrun := false, ssFrameErr := false, ssLost := false, ssCache := [],
    mtCache := [], mtParts := [], mtDest := none, ha := Endpoint.reset, hb := Endpoint.reset,
    latches := List.replicate 5 { tim := 0, posVel := 0, posTime := 0 } }

/-- The backbone at reset: no lane trained, no table built. -/
def BkbUnit.reset : BkbUnit :=
  { lanes := List.replicate 16
      { trained := false, speed := 0, inLoss := false, lossStart := 0, lossInWindow := false, qualified := false,
        recovering := false, errors := [] },
    seq := 0, dups := [], armed := List.replicate 4 [], closed := [], gaps := [], tables := List.replicate 20 [], shadow := List.replicate 20 [],
    faulty := [] }

/-- An empty slot bank. -/
def SlotBank.reset : SlotBank := { slots := [], sched := 0, ready := false, faulty := false }

/-- The cycle unit at reset; state OFF is a register. -/
def CycleUnit.reset : CycleUnit :=
  { start := 0, lfsr := 0, backoff := 0, heard := false, startupSeen := [], lastAccepted := none, acceptedNow := false,
    missed := 0, missedNow := false, steppedAt := none, cut := [], phaseDone := false, good := 0, integ := 2, lost := 10,
    poll := 0, switch := none, bootstrap := false,
    successor := false, mismatch := false, mismatchRaised := false, bankA := SlotBank.reset, bankB := SlotBank.reset,
    waiting := [], reports := List.replicate 4 none, accused := [], lostAt := 0,
    alignGood := false, overlap := none }

/-- Hoist at reset: no directory. -/
def HoistUnit.reset : HoistUnit :=
  { current := [], previous := [], proposal := none, segments := [], keys := [], confirmed := [], leadFacing := none,
    topology := none, swapAt := none, leftAt := none, newSched := 0, yieldAt := none, held := [], demands := [], senseE1 := false, senseE2 := false,
    cabActive := false, waiting := [], joins := [], topologySent := false, collectLeft := 0, records := [], readies := [],
    missing := [], retries := 0, commitAt := none, commitSent := 0, incomplete := false, reason := 0,
    reasonAt := 0, hoistId := 0, proposedSinceSwap := false, yieldDue := none, leadProposal := none, proposeReady := false }

/-- The bridge at reset. -/
def BridgeUnit.reset : BridgeUnit :=
  { open_ := [], posted := [], nextOrd := 0, xids := [0, 0, 0, 0], resetXids := [none, none, none, none], oseqs := [],
    parts := [], waits := [], orders := [], outs := [], notices := [], expiries := [] }

/-- Ports and packet buffer at reset: nothing held. -/
def NetUnit.reset : NetUnit :=
  { held := [], nextBuf := 0, queue := [], sending := [], attempts := [], backoff := [], routesA := [], routesB := [],
    bank := false, faulty := [], egress := [], pubCells := 0, retired := [], phyTest := [], pauses := [] }

/-- Frame rings at reset. -/
def FrameRings.reset : FrameRings := { txTail := 0, rxTail := 0, rxBufs := [], txStopped := false, rxStopped := false }

/-- The event scheduler at reset. -/
def SchUnit.reset : SchUnit := { entries := [], bound := [], ha := FrameRings.reset, hb := FrameRings.reset }

/-- The timebase at reset. -/
def TimeUnit.reset : TimeUnit :=
  { delays := List.replicate 16 { results := [], dx := none }, dxSeq := 0, integ := 0, kiLog := 4, over50 := 0,
    under10 := 0,
    refs := List.replicate 3
      { pulses := 0, lastPulse := none, anchorRef := 0, anchorUp := 0, startE := 0, lastE := 0, bad := false,
        waiting := none, timedOut := false, lastEvent := none },
    rateSum := 0, rateFrom := 0, holdFrom := none, stepRef := 0xF, haveHold := false, firstTime := false, lastPn := none, reint := false,
    pnSource := 0,
    ptp := List.replicate 48
      { state := 0, best := none, sync := none, reqSeq := 0, reqTime := none, t1 := 0, t2 := 0, delay := none,
        sendSeq := 0 } }

/-- Odometry and line phase at reset. -/
def PosUnit.reset : PosUnit :=
  { axles := List.replicate 4
      { a := false, b := false, seen := false, te := 0, dir := 0, dt := 0, step := 0, fresh := false, pos := 0,
        fused := 0, agree := none },
    fused := 0, fusedAt := 0, vel := 0, extrapFrom := none, valid := false, history := [], ticks := 0, reports := [], badCycles := 0,
    handoffTo := none, pnPos := 0, pnVel := 0, pnFlags := 0, pnStart := 0, intervals := [], crossings := 0, pll := false,
    angle := 0, angleAt := 0, goodPeriods := 0, lowAmpl := 0, highErr := 0 }

/-- Signal mapping at reset. -/
def SigUnit.reset : SigUnit :=
  { map := [], store := [], arrival := 0, rules := [], bindA := { descs := [], nodes := [] },
    bindB := { descs := [], nodes := [] }, bank := false, faulty := [], safety := [], mapFaults := [], valueFaults := [],
    profSource := 0, profEvent := 0 }

/-- Engines at reset: idle, with empty deques. -/
def EngUnit.reset : EngUnit :=
  { engines := [], insts := [], nextId := 0, owed := [], chunks := [], releases := [], images := [], seqs := [],
    slots := [], envelope := List.replicate 32 0, fenTest := [], stamp := 0, applied := [], selftest := true }

/-- Field channels at reset: no bank supply measured. -/
def FieldUnit.reset : FieldUnit := { chans := [], banks := List.replicate 8 2, missed := [0, 0] }

/-- A guidon path on which nothing was heard. -/
def GuidonPath.reset : GuidonPath := { seq := none, at_ := 0, row := 0, activeRow := 0, missed := false, counted := 0 }

/-- Pair and feeds at reset: no feed judged yet. -/
def PairUnit.reset : PairUnit :=
  { reqLow := false, seq := 0, hal := GuidonPath.reset, bb := GuidonPath.reset, partner := none, stranger := false,
    lostPath := 0, taken := false, fwLate := false, shutdown := false, leftA := false, leftB := false, lastFeed := 0,
    arb := 0, stA := 0, stB := 0, mvA := 0, mvB := 0, prefer := 0, warn := false, noMram := false }

/-- Ladder, sleep and thermal loop at reset. -/
def LadderUnit.reset : LadderUnit := { acks := [], ackDue := false, restartDue := false, shut := false, wakeMask := 0,
                                       tj := List.replicate 6 0, owed := [0, 0, 0, 0], corrected := [0, 0] }

/-- Legacy buses at reset. -/
def LegUnit.reset : LegUnit :=
  { images := [], serial := [], silent := [], lines := [], periods := [0, 0, 0, 0], starts := [0, 0, 0, 0], polls := [[], [], [], []], late := [],
    foreignBefore := 0 }

/-- The stores at reset: MRAM as a node that has never been written. -/
def StoreUnit.reset : StoreUnit :=
  { slotA := [], slotB := [], validA := false, validB := false, journal := [], inFlight := none, nextJournal := 0,
    factoryOk := false, uid := 0, mac := 0, revoked := 0, minVersion := 0, installOk := false, vehId := 0, vehDue := false,
    staging := none, written := [], imageFaults := [], idFaults := [], checking := none, applyAt := [], signals := [],
    queue := [], ring := [], index := [] }

/-- The machine right after reset: every register at its reset value, every queue empty, no command waiting.  What the
straps, the identity records and the MRAM give comes with `INTERNAL_RELEASE`. -/
def State.reset : State :=
  { regs := [], clk := { now := 0, frac := 0, up := 0 },
    sys := { power := 2, started := false, resetCause := 0, stage := 0, faultCode := 0, beats := 0, mismatch := [], operTimes := [], operOther := [],
             refLostA := false, refLostB := false },
    cmd := CmdUnit.reset, bkb := BkbUnit.reset, tcy := CycleUnit.reset, hst := HoistUnit.reset, rab := BridgeUnit.reset,
    net := NetUnit.reset, sch := SchUnit.reset, tim := TimeUnit.reset, pos := PosUnit.reset, sig := SigUnit.reset,
    eng := EngUnit.reset, fld := FieldUnit.reset, pair := PairUnit.reset, lad := LadderUnit.reset, leg := LegUnit.reset,
    sto := StoreUnit.reset, out := [], free := 0, pending := [] }

end Sys2Proof.Machine
end

