-- ==== Sys2Proof/Machine/Ops.lean ====
section
/-!
DEFINITION. The named operations the meanings are built from: parameter fields, the clock, OPER states, events on every
path (R52, R53), replies (R37), long commands (R46) and the check order every command packet passes (R38).
-/
namespace Sys2Proof
open Sys2Proof.Machine

/-- The field of a row at up to three indices. -/
def Row.f (r : Row) (i : Nat := 0) (j : Nat := 0) (k : Nat := 0) : Fld :=
  let p := (List.zip r.dims [i, j, k]).foldl
    (fun (a : Nat × Nat) (d : Dim × Nat) => (a.1 + d.1.offStride * d.2, a.2 + d.1.lsbStride * d.2)) (r.base, r.lsb)
  ⟨p.1, p.2, r.width, r.reset⟩

/-- The key under which the register file holds a field: its word and its least significant bit. -/
def Fld.key (f : Fld) : Nat := f.off * 64 + f.lsb

end Sys2Proof

namespace Sys2Proof.Machine
open Sys2Proof

/-- The outcome type of every meaning. -/
abbrev Outcome := Host.Outcome State Fault Refusal

/-! The register file.  It lists, by field key in rising order, how a field differs (exclusive or) from its reset
value; a field that holds its reset value is not listed, so equal register contents are equal lists. -/

/-- What is listed under a key; 0 where nothing is. -/
def regGet (k : Nat) : List (Nat × Nat) → Nat
  | [] => 0
  | (a, v) :: l => if a = k then v else regGet k l

/-- List `v` under `k` before the first greater key. -/
def regIns (k v : Nat) : List (Nat × Nat) → List (Nat × Nat)
  | [] => [(k, v)]
  | (a, x) :: l => if k < a then (k, v) :: (a, x) :: l else (a, x) :: regIns k v l

/-- List `v` under `k` in place of what stood there, or nothing when `v` is 0. -/
def regPut (k v : Nat) (l : List (Nat × Nat)) : List (Nat × Nat) :=
  let rest := l.filter (fun p => p.1 != k)
  if v = 0 then rest else regIns k v rest

/-- The keys rise strictly above `n` and every listed difference is nonzero. -/
def regWfFrom : Nat → List (Nat × Nat) → Bool
  | _, [] => true
  | n, (a, v) :: l => n ≤ a && v != 0 && regWfFrom (a + 1) l

/-- The register file is in its canonical form. -/
def regWf (l : List (Nat × Nat)) : Bool := regWfFrom 0 l

/-- The value of a field. -/
def State.rd (s : State) (f : Fld) : Nat := (regGet f.key s.regs ^^^ f.reset) % 2 ^ f.width

/-- Set a field, narrowed to its width. -/
def State.wr (s : State) (f : Fld) (v : Nat) : State :=
  { s with regs := regPut f.key ((v % 2 ^ f.width) ^^^ f.reset) s.regs }

/-- Whether a one-bit field is set. -/
def State.on (s : State) (f : Fld) : Bool := s.rd f != 0

/-- A field read as a two's complement number. -/
def State.rdS (s : State) (f : Fld) : Int := toSigned f.width (s.rd f)

/-- Set a field to an integer's two's complement image. -/
def State.wrS (s : State) (f : Fld) (v : Int) : State := s.wr f (ofSigned f.width v)

/-- Add to a count, which stays at the largest value its width holds (R514). -/
def State.incBy (s : State) (f : Fld) (n : Nat) : State :=
  s.wr f (Nat.min (s.rd f + n) (2 ^ f.width - 1))

/-- Count one happening (R514). -/
def State.inc (s : State) (f : Fld) : State := s.incBy f 1

/-- Set a field to a condition. -/
def State.wrB (s : State) (f : Fld) (b : Bool) : State := s.wr f (b2n b)

/-- Hand one thing to the outside. -/
def State.emit (s : State) (o : Output) : State := { s with out := s.out ++ [o] }

/-- Do `f` when `c` holds. -/
def State.when (s : State) (c : Bool) (f : State → State) : State := if c then f s else s

/-! The clock (R173, R174). -/

/-- A time in ns as a compact timestamp: seconds modulo 2^34 in [63:30], nanoseconds in [29:0] (R174). -/
def compact (t : Nat) : Nat := t / 1000000000 % 2 ^ 34 * 2 ^ 30 + t % 1000000000

/-- Nanoseconds that a compact timestamp spells, modulo 2^34 seconds. -/
def compactNs (c : Nat) : Nat := c / 2 ^ 30 % 2 ^ 34 * 1000000000 + c % 2 ^ 30

/-- The modulus of compact time in ns. -/
def compactSpan : Nat := 2 ^ 34 * 1000000000

/-- diff(a, b) in ns (R174): the signed difference of the seconds modulo 2^34, half range counting as past, and of the
nanoseconds. -/
def compactDiff (a b : Nat) : Int :=
  let d : Nat := (a / 2 ^ 30 % 2 ^ 34 + 2 ^ 34 - b / 2 ^ 30 % 2 ^ 34) % 2 ^ 34
  let x : Nat := a % 2 ^ 30
  let y : Nat := b % 2 ^ 30
  (if d < 2 ^ 33 then (d : Int) else (d : Int) - 2 ^ 34) * 1000000000 + ((x : Int) - y)

/-- Compact timestamp of the local clock. -/
def State.ts (s : State) : Nat := compact s.clk.now

/-! Units (R32, Table 01-10). -/

/-- A unit identifier. -/
def unitId (cls idx : Nat) : Nat := cls * 2048 + idx

/-- The MAC that serves a port (R3). -/
def macOfPort (p : Nat) : Option Nat := if p < 80 then some p else if p = 119 then some 80 else none

/-- The port a MAC serves. -/
def portOfMac (n : Nat) : Nat := if n < 80 then n else 119

/-- The field that holds a unit's OPER, where the parameter space has one. -/
def operField (u : Nat) : Option Fld :=
  let i := u % 2048
  match u / 2048 with
  | 0x01 =>
    if i < 80 then some (MAC_n_OPER.f i)
    else if i = 119 then some (MAC_n_OPER.f 80)
    else if i < 88 then some ((if i % 2 = 0 then LEG_MVBc_OPER_A else LEG_MVBc_OPER_B).f ((i - 80) / 2))
    else if 92 ≤ i ∧ i < 104 then some (LEG_CANk_OPER.f (i - 92))
    else if 104 ≤ i ∧ i < 116 then some (LEG_SERs_OPER.f (i - 104))
    else none
  | 0x02 => if i ≤ 80 then some (MAC_n_OPER.f i) else none
  | 0x04 => if i < 512 then some (STL_ENGe_OPER.f i) else none
  | 0x07 => if i < 256 then some (FC_OPER.f i) else none
  | 0x08 => if i < 8 then some (FLD_Bb_OPER.f i) else none
  | 0x09 => if i < 184 then some (LAD_Dd_OPER.f i) else none
  | _ => none

/-- The OPER of a unit as last recorded (R30): in its own field where the parameter space has one, else in the list
of other units. -/
def State.operOf (s : State) (u : Nat) : Nat :=
  match operField u with
  | some f => s.rd f
  | none => match getKey Prod.fst u s.sys.operOther with
    | some p => p.2
    | none => 1

/-! Status codes (Table 02-7). -/

def stOk : Nat := 0x0000
def stPending : Nat := 0x0001
def stPrivDenied : Nat := 0x0010
def stBadOpcode : Nat := 0x0011
def stBadLength : Nat := 0x0012
def stBadCrc : Nat := 0x0013
def stBadVersion : Nat := 0x0014
def stAuthFail : Nat := 0x0015
def stBusy : Nat := 0x0020
def stStaleEpoch : Nat := 0x0021
def stRange : Nat := 0x0022
def stConflict : Nat := 0x0023
def stTimeout : Nat := 0x0030
def stRemoteError : Nat := 0x0031

/-! Events (R52, R53, R67). -/

/-- Index of an endpoint in the words of blocks CMD and SCH: 0 HA, 1 HB. -/
def hx (hb : Bool) : Nat := if hb then 1 else 0

/-- An endpoint's state. -/
def State.ep (s : State) (hb : Bool) : Endpoint := if hb then s.cmd.hb else s.cmd.ha

/-- Replace an endpoint's state. -/
def State.setEp (s : State) (hb : Bool) (e : Endpoint) : State :=
  if hb then { s with cmd := { s.cmd with hb := e } } else { s with cmd := { s.cmd with ha := e } }

/-- The firmware serves the rings and BAR0 (R53, R487): stages 3 and 4 of `DIAG_FW_STATE`. -/
def State.usable (s : State) : Bool := s.sys.power == 3 && (s.sys.stage == 3 || s.sys.stage == 4)

/-- A ring path that is not closed (R53). -/
def State.ringOpen (s : State) (hb : Bool) : Bool :=
  s.on (CMD_Hx_EVT_EN.f (hx hb)) && s.usable

/-- A unit in `ASLEEP` whose domain comes to Run is `UP`: its OPER field, and when it changed. -/
def riseOper (u : Nat) (f : Fld) (s : State) : State :=
  if s.rd f = 5 then
    { s.wr f 1 with sys := { s.sys with operTimes := putKey Prod.fst (u, s.ts) s.sys.operTimes } }
  else s

/-- An item crosses to a command path's domain below Run (R27): a wake request, counted, and the domain returns to Run
(R445). -/
def wakePath (d : Nat) (s : State) : State :=
  if s.rd (LAD_Dd_RUNG.f d) = 0 then s
  else riseOper (unitId 9 d) (LAD_Dd_OPER.f d) ((s.inc (LAD_Dd_WAKES.f d)).wr (LAD_Dd_RUNG.f d) 0)

/-- Deliver a record into a ring that is open, or discard and count it when the ring is full (R52, R53). -/
def ringDeliver (hb : Bool) (e : EvtRec) (s : State) : State :=
  let x := hx hb
  let size := 2 ^ s.rd (CMD_Hx_EVT_LOG2.f x)
  let w := s.rd (CMD_Hx_EVT_WRITE.f x) % size
  let p := s.ep hb
  if (w + 1) % size = s.rd (CMD_Hx_EVT_READ.f x) % size then
    (s.inc (CMD_Hx_LOST.f x)).setEp hb { p with lost := true }
  else
    let urgent := s.on (CMD_Hx_EVT_URGENT.f x) && 0x07 ≤ e.code / 256 && e.code / 256 ≤ 0x09
    let s1 := (s.wr (CMD_Hx_EVT_WRITE.f x) ((w + 1) % size)).setEp hb
      { p with lost := false, phase := if w + 1 = size then !p.phase else p.phase }
    ((wakePath (116 + x) s1).emit (.ringEvent hb w { e with phase := p.phase, lostBefore := p.lost })).emit
      (.msix hb (if urgent then 2 else 1))

/-- Deliver a record to the SS queue of 64 (R57), or discard and count it. -/
def ssDeliver (e : EvtRec) (s : State) : State :=
  if s.cmd.ssEvents.length ≥ 64 then
    { s.inc CMD_SS_LOST.f with cmd := { s.cmd with ssLost := true } }
  else
    { s with cmd := { s.cmd with ssEvents := s.cmd.ssEvents ++ [{ e with lostBefore := s.cmd.ssLost }], ssLost := false } }

/-- MT is alive while `MAINT_EN` was sampled high (R41): strap level 2 or 3 (R465).  With a failed factory record it stays off
(R471). -/
def State.maintEn (s : State) : Bool := 2 ≤ s.rd GLB_STRAP_MAINT.f && !s.on GLB_FACTORY_FAULT.f

/-- Send a record to the destination that `EVENT_SUBSCRIBE` named (R58). -/
def mtDeliver (e : EvtRec) (s : State) : State :=
  match s.cmd.mtDest with
  | some (ip, udp, _) =>
    if s.maintEn then (riseOper (unitId 2 80) (MAC_n_OPER.f 80) (wakePath 119 s)).emit (.mtEvent ip udp e) else s
  | none => s

/-- Raise an event: it goes to each open path whose group mask has the bit of the code's high byte (R53). -/
def State.raise (s : State) (code unit : Nat) (data : List Byte) (cleared : Bool := false) : State :=
  let g := code / 256
  let e : EvtRec :=
    { code := code, unit := unit, seq := 0, cleared := cleared, lostBefore := false, phase := false,
      port := 0, time := s.ts, status := 0, epoch := s.rd HST_EPOCH.f, data := fitBytes 12 data }
  let s1 := if s.ringOpen false && bit (s.rd (CMD_Hx_EVT_GROUPS.f 0)) g then ringDeliver false e s else s
  let s2 := if s1.ringOpen true && bit (s1.rd (CMD_Hx_EVT_GROUPS.f 1)) g then ringDeliver true e s1 else s1
  let s3 := if bit (s2.rd CMD_SS_GROUPS.f) g then ssDeliver e s2 else s2
  match s3.cmd.mtDest with
  | some (_, _, mask) => if bit mask g then mtDeliver e s3 else s3
  | none => s3

/-! Configured and operational state (R30, R31). -/

/-- The CFG of a unit; a unit without a CFG of its own reads `ENABLED`. -/
def State.cfgOf (s : State) (u : Nat) : Nat :=
  let i := u % 2048
  match u / 2048 with
  | 0x01 =>
    if i < 80 then s.rd (MAC_n_CFG_EN.f i)
    else if i = 119 then s.rd (MAC_n_CFG_EN.f 80)
    else if i < 88 then s.rd ((if i % 2 = 0 then LEG_MVBc_EN_A else LEG_MVBc_EN_B).f ((i - 80) / 2))
    else if i < 92 then b2n (bit (s.rd LEG_WTB_LINE_EN.f) (i - 88))
    else if i < 104 then s.rd (LEG_CANk_CFG_EN.f (i - 92))
    else if i < 116 then s.rd (LEG_SERs_CFG_EN.f (i - 104))
    else 1
  | 0x02 => s.rd (MAC_n_CFG_EN.f i)
  | 0x03 => b2n ((List.range 4).any (fun l => s.on (MAC_n_CFG_EN.f (4 * i + l))))
  | 0x04 => s.rd (STL_ENGe_CFG.f i)
  | 0x07 => b2n (s.rd (FC_MODE.f i) != 0)
  | 0x08 => b2n ((List.range 32).any (fun k => s.rd (FC_MODE.f (32 * i + k)) != 0))
  | 0x09 => s.rd (LAD_Dd_CFG.f i)
  | _ => 1

/-- CFG and OPER of a unit agree (R31). -/
def State.consistent (s : State) (u : Nat) : Bool :=
  if s.cfgOf u = 1 then s.operOf u == 1 || s.operOf u == 2 || s.operOf u == 3 || s.operOf u == 5
  else s.operOf u == 0

/-- Raise `STATE_MISMATCH` of a unit, set or cleared. -/
def raiseMismatch (u : Nat) (cleared : Bool) (s : State) : State :=
  s.raise 0x0101 u (toBE 1 (s.cfgOf u) ++ toBE 1 (s.operOf u)) cleared

/-- A unit in mismatch whose combination has become consistent leaves it (R31). -/
def settleMismatch (u : Nat) (s : State) : State :=
  if s.sys.mismatch.contains u && s.consistent u then
    raiseMismatch u true { s with sys := { s.sys with mismatch := s.sys.mismatch.filter (· != u) } }
  else s

/-- Change a unit's OPER and note when it changed (R60). -/
def State.setOper (s : State) (u v : Nat) : State :=
  if s.operOf u = v then s
  else
    let s1 := match operField u with
      | some f => s.wr f v
      | none => { s with sys := { s.sys with operOther := putKey Prod.fst (u, v) s.sys.operOther } }
    settleMismatch u { s1 with sys := { s1.sys with operTimes := putKey Prod.fst (u, s.ts) s1.sys.operTimes } }

/-! Packets and replies as bytes (R34, R37). -/

/-- Bytes with their CRC-32C trailer (R36). -/
def withTrailer (bs : List Byte) : List Byte := bs ++ toBE 4 (crc32c bs)

/-- The packet a header, opcode and parameters spell (Table 02-1). -/
def packetBytes (h : CmdHdr) (opcode : Nat) (params : List Byte) : List Byte :=
  withTrailer (toBE 2 0xCE4E ++ [1#8, BitVec.ofNat 8 (2 * b2n h.posted + 4 * b2n h.epochCheck)] ++ toBE 2 opcode
    ++ toBE 2 h.seq ++ toBE 2 h.target ++ toBE 2 h.epoch ++ toBE 2 params.length ++ toBE 2 h.originNode
    ++ toBE 1 h.originPort ++ zeros 7 ++ params)

/-- The reply as bytes (R37). -/
def replyBytes (r : Reply) : List Byte :=
  withTrailer (toBE 2 0xCE4E ++ [1#8, BitVec.ofNat 8 (1 + 2 * b2n r.posted + 4 * b2n r.epochCheck)] ++ toBE 2 r.opcode
    ++ toBE 2 r.seq ++ toBE 2 r.target ++ toBE 2 r.epoch ++ toBE 2 (r.data.length + 4) ++ toBE 2 r.originNode
    ++ toBE 1 r.originPort ++ zeros 7 ++ toBE 2 r.status ++ zeros 2 ++ r.data)

/-- The length of a reply: header, status, reserved bytes, data and trailer. -/
def replyLen (r : Reply) : Nat := 32 + r.data.length

/-- An event record as the 32 bytes of SS and MT (R52). -/
def eventBytes (e : EvtRec) : List Byte :=
  toBE 2 e.code ++ toBE 2 e.unit ++ toBE 2 e.seq ++ toBE 1 (b2n e.cleared + 2 * b2n e.lostBefore) ++ toBE 1 e.port
    ++ toBE 8 e.time ++ toBE 2 e.status ++ toBE 2 e.epoch ++ fitBytes 12 e.data

/-- An event record as the 32 bytes of an event ring: bytes 0 to 19 little-endian by field (R52). -/
def ringEventBytes (e : EvtRec) : List Byte :=
  toLE 2 e.code ++ toLE 2 e.unit ++ toLE 2 e.seq ++ toLE 1 (b2n e.cleared + 2 * b2n e.lostBefore + 128 * b2n e.phase)
    ++ toLE 1 e.port ++ toLE 8 e.time ++ toLE 2 e.status ++ toLE 2 e.epoch ++ fitBytes 12 e.data

/-- Global port number of a command path (Table 00-3); TRAIN has the port of its origin. -/
def cmdPortNum : CmdPort → Nat
  | .ha => 116 | .hb => 117 | .ss => 118 | .mt => 119 | .train => 0

/-- The class a path gives (Table 02-3). -/
def classOf : CmdPort → PrivClass
  | .ha => .host | .hb => .host | .ss => .safety | .mt => .maint | .train => .train

/-- The reply to a header. -/
def mkReply (h : CmdHdr) (opcode status : Nat) (data : List Byte) : Reply :=
  { posted := h.posted, epochCheck := h.epochCheck, opcode := opcode, seq := h.seq, target := h.target,
    epoch := h.epoch, originNode := h.originNode, originPort := h.originPort, status := status, data := data }

/-- Opcodes of kind P (Table 02-6). -/
def kindP (op : Nat) : Bool := op == 0x0202 || op == 0x0208 || op == 0x0602 || op == 0x0703 || op == 0x0704

/-- Write a reply, or the end of a posted command, on a ring (R51): reply, write-back, vector 0. -/
def ringReply (hb : Bool) (v : Via) (r : Reply) (silent : Bool) (s : State) : State :=
  if silent then
    (s.emit (.ringWriteBack hb v.slot 0 r.status 1)).emit (.msix hb 0)
  else
    let n := Nat.min (replyLen r) v.room
    ((s.emit (.reply v r n)).emit
      (.ringWriteBack hb v.slot n r.status (if v.room < replyLen r then 3 else 1))).emit (.msix hb 0)

/-- Hand a reply to its path (R37, R45, R47).  A posted command of kind P that ended `OK` sends none (Table 02-2). -/
def deliverReply (v : Via) (r : Reply) (s : State) : State :=
  let silent := r.posted && kindP r.opcode && r.status == stOk
  match v.port with
  | .ha => ringReply false v r silent s
  | .hb => ringReply true v r silent s
  | .ss => if silent then s else { s with cmd := { s.cmd with ssReplies := s.cmd.ssReplies ++ [r] } }
  | .mt => if silent then s else s.emit (.reply v r (replyLen r))
  | .train =>
    if silent then s
    else { s with rab := { s.rab with outs := s.rab.outs ++
      [{ typ := 3, posted := r.posted && kindP r.opcode, destUid := v.node, port := v.rport, tag := v.tag, xid := v.xid,
         reason := 0, bytes := replyBytes r }] } }

/-! Long commands (R46). -/

/-- How many long commands a path has pending. -/
def State.longCount (s : State) (p : CmdPort) : Nat := (s.cmd.longs.filter (fun l => l.via.port == p)).length

/-- Bring `CMD_Hx_PENDING` to the number pending. -/
def State.syncPending (s : State) : State :=
  (s.wr (CMD_Hx_PENDING.f 0) (s.longCount .ha)).wr (CMD_Hx_PENDING.f 1) (s.longCount .hb)

/-- Queue a bridge completion, event relay or notice in the 8 KiB kept for them, or count it (Table 12-2). -/
def keepOut (o : BrOut) (s : State) : State :=
  let used := ((s.rab.outs.filter (fun x => x.typ != 3)).map (fun x => 16 + x.bytes.length)).foldl (· + ·) 0
  if used + 16 + o.bytes.length > 8192 then s.inc RAB_TGT_FULL.f
  else { s with rab := { s.rab with outs := s.rab.outs ++ [o] } }

/-- The completion event of a long command, on the path of its port (R46, R53, R368). -/
def cmdDoneEvent (l : Long) (status : Nat) (data : List Byte) (s : State) : State :=
  let e : EvtRec :=
    { code := 0x0100, unit := 0, seq := l.seq, cleared := false, lostBefore := false, phase := false,
      port := l.originPort, time := s.ts, status := status, epoch := s.rd HST_EPOCH.f,
      data := fitBytes 12 (toBE 2 l.opcode ++ data) }
  let ring (hb : Bool) : State :=
    if l.abandoned || !s.ringOpen hb then
      (s.inc (CMD_Hx_LOST.f (hx hb))).setEp hb { s.ep hb with lost := true }
    else ringDeliver hb e s
  match l.via.port with
  | .ha => ring false
  | .hb => ring true
  | .ss => ssDeliver e s
  | .mt => mtDeliver e s
  | .train =>
    keepOut { typ := 5, posted := false, destUid := l.via.node, port := l.via.rport, tag := 0, xid := l.via.xid, reason := 0,
              bytes := eventBytes e } s

/-- End a long command: it leaves the pending list and its `CMD_DONE` is raised (R46). -/
def cmdDone (l : Long) (status : Nat) (data : List Byte) (s : State) : State :=
  cmdDoneEvent l status data
    ({ s with cmd := { s.cmd with longs := s.cmd.longs.filter (fun x => x.id != l.id) } }.syncPending)

/-- End every pending long command of an opcode that meets a condition. -/
def cmdDoneAll (opcode : Nat) (p : Long → Bool) (status : Nat) (data : Long → List Byte) (s : State) : State :=
  (s.cmd.longs.filter (fun l => l.opcode == opcode && p l)).foldl (fun t l => cmdDone l status (data l) t) s

/-! Answers and the check order of R38. -/

/-- What a command's own checks and effect answer: a state, a status and the reply data. -/
structure Ans where
  state : State
  status : Nat
  data : List Byte

/-- Answer `OK` with data. -/
def ansOk (s : State) (data : List Byte := []) : Ans := ⟨s, stOk, data⟩

/-- Answer `RANGE` at a byte offset of the parameters or a parameter-space offset (R59). -/
def ansRange (s : State) (pos : Nat) : Ans := ⟨s, stRange, toBE 4 pos⟩

/-- Answer `STATE_CONFLICT` naming a unit, 0 for none (R59). -/
def ansConflict (s : State) (unit : Nat := 0) : Ans := ⟨s, stConflict, toBE 2 unit⟩

/-- Answer `BUSY`. -/
def ansBusy (s : State) : Ans := ⟨s, stBusy, []⟩

/-- Accept a long command: `BUSY` with 16 pending on the port, else it is listed and answered `ACCEPTED_PENDING` after
what it does at once (R46). -/
def acceptLong (h : CmdHdr) (op arg arg2 : Nat) (effect : State → State) (s : State) : Ans :=
  if s.longCount h.via.port ≥ 16 then ansBusy s
  else
    let port := if h.via.port == .train then h.via.rport else cmdPortNum h.via.port
    let l : Long :=
      { id := s.cmd.nextLong, via := h.via, seq := h.seq, opcode := op, originPort := port, arg := arg,
        arg2 := arg2, abandoned := false }
    let s1 := { s with cmd := { s.cmd with longs := s.cmd.longs ++ [l], nextLong := s.cmd.nextLong + 1 } }
    ⟨effect s1.syncPending, stPending, []⟩

/-- Classes that may issue an opcode (Table 02-6): none for an unknown opcode.  Order S, H, M, T. -/
def opClasses (op : Nat) : Option (List PrivClass) :=
  let shmt := some [PrivClass.safety, .host, .maint, .train]
  let shm := some [PrivClass.safety, .host, .maint]
  let sh := some [PrivClass.safety, .host]
  let sht := some [PrivClass.safety, .host, .train]
  if op ∈ [0x0101, 0x0102, 0x0103, 0x0104, 0x0105, 0x0205, 0x0207, 0x0208, 0x0301, 0x0306, 0x0308, 0x0403, 0x0502, 0x0503,
      0x0601, 0x0603, 0x0606, 0x0702, 0x0801, 0x0804, 0x0901, 0x0A03, 0x0B01, 0x0B03, 0x0C01, 0x0C02] then shmt
  else if op ∈ [0x0201, 0x0202, 0x0203, 0x0204, 0x0209, 0x0505, 0x0706, 0x0802, 0x0B02, 0x0B04] then shm
  else if op ∈ [0x0206, 0x0302, 0x0303, 0x0304, 0x0305, 0x0307, 0x0404, 0x0504, 0x0506, 0x0604, 0x0701, 0x0703, 0x0704,
      0x0803, 0x0805, 0x0903, 0x0C03] then sh
  else if op ∈ [0x0401, 0x0402, 0x0501, 0x0602, 0x0605, 0x0A01, 0x0A02] then sht
  else if op ∈ [0x0705, 0x0902] then some [.safety]
  else if op ∈ [0x0B05, 0x0C04] then some [.maint]
  else none

/-- Whether the epoch of a command is acceptable (R43): the current one, or in the overlap cycle the one replaced. -/
def State.epochOk (s : State) (e : Nat) : Bool :=
  e == s.rd HST_EPOCH.f ||
    (s.tcy.overlap == some (s.rd TCY_CYCLE_NUM.f) && e == s.rd HST_PREV_EPOCH.f)

/-- The unique ID of a node number under an epoch, through the directory (R366): zero when there is none. -/
def State.uidOfNode (s : State) (node epoch : Nat) : Nat :=
  let dir := if epoch == s.rd HST_EPOCH.f then s.hst.current else s.hst.previous
  match dir.find? (fun r => r.kind == 0 && r.node == node && node != 0) with
  | some r => r.uid
  | none => 0

/-- The current node number of a unique ID: zero when it has none. -/
def State.nodeOfUid (s : State) (uid : Nat) : Nat :=
  match s.hst.current.find? (fun r => r.kind == 0 && r.uid == uid) with
  | some r => r.node
  | none => 0

/-- The node originates nothing on the backbone: SILENT (R123) or REFUSING (R186). -/
def State.originSilent (s : State) : Bool := s.rd TCY_STATE.f == 7 || s.rd TCY_STATE.f == 8

/-- The number this node had in the directory replaced, 0 when it had none. -/
def State.prevNode (s : State) : Nat :=
  match s.hst.previous.find? (fun r => r.kind == 0 && r.uid == s.rd HST_UID.f) with
  | some r => r.node
  | none => 0

/-- The node's own number under an epoch: that of the current directory, or in the overlap cycle that of the one replaced. -/
def State.ownNumber (s : State) (epoch : Nat) : Nat :=
  if epoch == s.rd HST_EPOCH.f then s.rd HST_NODE_NUM.f else if s.epochOk epoch then s.prevNode else 0

/-- A command executes here when it names no node, or this node's own number under its epoch (R43). -/
def State.isLocal (s : State) (h : CmdHdr) : Bool :=
  h.target == 0 || h.target == s.ownNumber h.epoch

/-- Bytes that wait in a request output buffer (Table 12-2). -/
def bufBytes (l : List BrReq) : Nat := (l.map (fun r => r.bytes.length)).foldl (· + ·) 0

/-- The index of a command path among the ports 116 to 119. -/
def portIdx : CmdPort → Nat
  | .ha => 0 | .hb => 1 | .ss => 2 | .mt => 3 | .train => 4

/-- Open non-posted transactions of a port. -/
def State.openCount (s : State) (p : CmdPort) : Nat := (s.rab.open_.filter (fun r => r.via.port == p)).length

/-- Bring `RAB_OUT_*` and `RAB_POSTED_Q` to what is open and queued. -/
def State.syncBridge (s : State) : State :=
  ((((s.wr RAB_OUT_HA.f (s.openCount .ha)).wr RAB_OUT_HB.f (s.openCount .hb)).wr RAB_OUT_SS.f (s.openCount .ss)).wr
    RAB_OUT_MT.f (s.openCount .mt)).wr RAB_POSTED_Q.f s.rab.posted.length

/-- The longest reply that Table 02-6 allows for an opcode and its parameters (R373). -/
def longestReply (op : Nat) (params : List Byte) : Nat :=
  32 + (match op with
    | 0x0105 => params.length
    | 0x0207 => 8 * beAt params 4 2
    | 0x0601 => 32 * beAt params 4 2
    | 0x0702 => 8 * beAt params 1 2
    | 0x0B01 => 8 * beAt params 3 1
    | 0x0B03 => 2 + 32 * beAt params 12 2
    | 0x0104 => 65504
    | 0x0502 => 65504
    | 0x0801 => 184
    | _ => 64)

/-- The lowest tag free on a port (R365). -/
def State.freeTag (s : State) (p : CmdPort) : Nat :=
  let used := (s.rab.open_.filter (fun r => r.via.port == p)).map (fun r => r.tag)
  ((List.range 256).find? (fun t => !used.contains t)).getD 0

/-- The last n of a list. -/
def lastN {α : Type} (n : Nat) (l : List α) : List α := l.drop (l.length - n)

/-- The origin takes a command for another node (R365, R366): posted, non-posted, or an answer at once. -/
def bridgeAccept (op : Nat) (h : CmdHdr) (params : List Byte) (s : State) : State :=
  let answer (st : Nat) (d : List Byte) : State := deliverReply h.via (mkReply h op st d) s
  let posted := h.posted && kindP op
  let dest := s.uidOfNode h.target h.epoch
  let own := s.rd HST_NODE_NUM.f
  let bytes := packetBytes { h with originNode := own, originPort := cmdPortNum h.via.port } op params
  let trailer := fromBE (lastN 4 (packetBytes h op params))
  if s.originSilent then answer stRemoteError (toBE 2 0x0004)
  else if dest == 0 || s.nodeOfUid dest == 0 then answer stRemoteError (toBE 2 0x0001)
  else if posted then
    if bufBytes s.rab.posted + bytes.length > 65536 then answer stBusy []
    else
      let q : BrReq :=
        { via := h.via, posted := true, hdr := h, opcode := op, tag := 0, xid := 0, destUid := dest,
          bytes := bytes, trailer := trailer, reserve := 0, sent := false, ord := s.rab.nextOrd }
      deliverReply h.via (mkReply h op stOk [])
        ({ s with rab := { s.rab with posted := s.rab.posted ++ [q], nextOrd := s.rab.nextOrd + 1 } }.syncBridge)
  else
    let longest := longestReply op params
    let reserve := if h.via.port == .ha || h.via.port == .hb then Nat.min longest h.via.room else longest
    let reserved := (s.rab.open_.map (fun r => r.reserve)).foldl (· + ·) 0
    let unsent := s.rab.open_.filter (fun r => !r.sent)
    if s.openCount h.via.port ≥ 256 || bufBytes unsent + bytes.length > 65536 || reserved + reserve > 1048576 then
      answer stBusy []
    else
      let i := portIdx h.via.port
      let q : BrReq :=
        { via := h.via, posted := false, hdr := h, opcode := op, tag := s.freeTag h.via.port,
          xid := s.rab.xids.getD i 0, destUid := dest, bytes := bytes, trailer := trailer, reserve := reserve, sent := false,
          ord := s.rab.nextOrd }
      let xids := modifyAt i (fun x => (x + 1) % 65536) s.rab.xids
      { s with rab := { s.rab with open_ := s.rab.open_ ++ [q], nextOrd := s.rab.nextOrd + 1, xids := xids } }.syncBridge

/-! Reply caches (R49). -/

/-- Keep a reply in the cache of its source: the last 4 of `SS`, the last 16 of an `MT` source that is still remembered. -/
def remember (v : Via) (c : Cached) (s : State) : State :=
  match v.port with
  | .ss => { s with cmd := { s.cmd with ssCache := lastN 4 (s.cmd.ssCache ++ [c]) } }
  | .mt =>
    let keep (m : MtSource) : MtSource :=
      if m.ip == v.room && m.udp == v.slot then { m with cached := lastN 16 (m.cached ++ [c]) } else m
    { s with cmd := { s.cmd with mtCache := s.cmd.mtCache.map keep } }
  | _ => s

/-- Answer a command that went to the bridge, and keep the answer under the packet that came in. -/
def deliverRemote (q : BrReq) (r : Reply) (s : State) : State :=
  let c : Cached := { seq := q.hdr.seq, opcode := q.opcode, trailer := q.trailer, reply := r }
  deliverReply q.via r (remember q.via c s)

/-- While the node originates nothing (R375): every open remote command is answered `REMOTE_ERROR`, queued posted requests
are dropped and counted. -/
def bridgeSilence (s : State) : State :=
  let s1 := s.rab.open_.foldl (fun t r => deliverRemote r (mkReply r.hdr r.opcode stRemoteError (toBE 2 0x0004)) t) s
  let s2 := s1.incBy RAB_POSTED_ERR.f s1.rab.posted.length
  { s2 with rab := { s2.rab with open_ := [], posted := [] } }.syncBridge

/-- The opcodes that recovery (stage 5) serves (R471). -/
def recoveryServes (op : Nat) : Bool :=
  op ∈ [0x0101, 0x0102, 0x0105, 0x0201, 0x0202, 0x0203, 0x0204, 0x0205, 0x0207, 0x0208, 0x0209]

/-- Checks 5 to 7 of R38, then what the command itself checks and does; a command for another node goes to the bridge once
check 7 has passed (R365). -/
def commandCore (op : Nat) (h : CmdHdr) (params : List Byte) (body : State → Ans) (s : State) : State :=
  let answer (st : Nat) (d : List Byte) : State := deliverReply h.via (mkReply h op st d) s
  match opClasses op with
  | none => answer stBadOpcode []
  | some classes =>
    if !classes.contains (classOf h.via.port) then answer stPrivDenied []
    else if h.target > 128 then answer stRange []
    else if (h.target != 0 || h.epochCheck) && !s.epochOk h.epoch then
      answer stStaleEpoch (toBE 2 (s.rd HST_EPOCH.f))
    else if !s.isLocal h then bridgeAccept op h params s
    else
      let a := body s
      deliverReply h.via (mkReply h op a.status a.data) a.state

/-- What recovery answers an opcode it does not serve (R471): nothing is done, a parameter out of its range is still found
first (checks 9 and 10 of R38), anything else is `STATE_CONFLICT`. -/
def recoveryAnswer (body : State → Ans) (s : State) : Ans :=
  let a := body s
  if a.status == stRange then ⟨s, stRange, a.data⟩ else ansConflict s

/-- A command whose `PARAM_LEN` its opcode allows (check 8): recovery serves few opcodes (R471). -/
def command (op : Nat) (h : CmdHdr) (params : List Byte) (body : State → Ans) (s : State) : State :=
  commandCore op h params (fun t => if t.sys.stage == 5 && !recoveryServes op then recoveryAnswer body t else body t) s

/-- A pending `SELFTEST` or `IMAGE_COMMIT` of which a unit is the subject (R46): the engine or its fen, the port or its
MAC. -/
def State.subjectOf (s : State) (u : Nat) : Option Nat :=
  let within (x : Nat) : Bool :=
    x == u || (x / 2048 == 5 && u / 2048 == 4 && u % 2048 / 16 == x % 2048)
      || (x / 2048 == 4 && u / 2048 == 5 && x % 2048 / 16 == u % 2048)
      || (x / 2048 == 2 && u / 2048 == 1 && macOfPort (u % 2048) == some (x % 2048))
      || (x / 2048 == 1 && u / 2048 == 2 && macOfPort (x % 2048) == some (u % 2048))
      || (x / 2048 == 8 && u / 2048 == 7 && u % 2048 / 32 == x % 2048)
      || (x / 2048 == 7 && u / 2048 == 8 && x % 2048 / 32 == u % 2048)
  (s.cmd.longs.find? (fun l => l.opcode == 0x0B04 && within l.arg)).map (fun l => l.arg)

/-- Run a command's effect: the outputs are those of this command, and the queue of waiting commands is not the
command's to touch. -/
def act (f : State → State) (s : State) : Outcome :=
  .next { f { s with out := [] } with pending := s.pending }

/-- What the command processor does, in stages 3 and 5 (R468, R471); its packets wait in the other stages. -/
def whenServing (f : State → State) (s : State) : State :=
  if s.sys.power == 3 && (s.sys.stage == 3 || s.sys.stage == 5) then f s else s

/-- What hosts write by themselves, in stage 3: a register write that is no packet of the command processor. -/
def whenUp (f : State → State) (s : State) : State := if s.sys.power == 3 && s.sys.stage == 3 then f s else s

/-- What a released node does (R462): without power, in Bog or in reset, the happening passes it by. -/
def whenReleased (f : State → State) (s : State) : State := if s.sys.power == 3 then f s else s

/-- What ports, cycle unit, engines and dies do: they run from stage 3 on, and through a firmware restart (Table 16-1, Table
16-9). -/
def whenRunning (f : State → State) (s : State) : State := if s.sys.power == 3 && s.sys.started then f s else s

/-! Lookups over the directory and the cycle. -/

/-- The cycle number n lies ahead of the current cycle (R108). -/
def cycleAhead (n c : Nat) : Bool :=
  let d := (n + 2 ^ 32 - c % 2 ^ 32) % 2 ^ 32
  1 ≤ d && d < 2 ^ 31

/-- The current cycle number. -/
def State.cycle (s : State) : Nat := s.rd TCY_CYCLE_NUM.f

/-- This node is the Lead: state LEAD (Table 04-7). -/
def State.isLead (s : State) : Bool := s.rd TCY_STATE.f == 6

/-- The node keeps a cycle: INTEGRATING, SYNC, LEAD, SILENT or REFUSING (R125, R133). -/
def State.keepsCycle (s : State) : Bool := 4 ≤ s.rd TCY_STATE.f

end Sys2Proof.Machine
end

