-- ==== Sys2Proof/Machine/Ports.lean ====
section
/-!
DEFINITION. The packet buffer and the port queues (spec/10): cells and accounts (R326 to R333), the copies of a frame
and their queues (R318, R319), the statistics counters (R324, R325), links and their OPER (R308), and the write-back of
host frames (R229).
-/
namespace Sys2Proof.Machine
open Sys2Proof

/-! Statistics (R324, R325, Table 10-6). -/

/-- Add to counter k of MAC n, which rolls over at 2^48 and raises `COUNTER_HALF` when bit 47 sets. -/
def stat (n k : Nat) (by_ : Nat := 1) (s : State) : State :=
  let f := MAC_n_STAT_k.f n k
  let v := s.rd f
  let w := (v + by_) % 2 ^ 48
  let s1 := s.wr f w
  if !bit v 47 && bit w 47 then s1.raise 0x0B01 (unitId 2 n) (toBE 1 k ++ toBE 6 w) else s1

/-- Length of a frame on the wire with FCS, padded to 64 bytes (R305, R73). -/
def wireLen : Wire → Nat
  | .bb f => Nat.max 64 (34 + f.body.length)
  | .eth bs => Nat.max 64 (bs.length + 4)

/-- Kind of a frame's destination: 0 unicast, 1 multicast, 2 broadcast (R325). -/
def addrKind (w : Wire) : Nat :=
  match w with
  | .bb _ => 1
  | .eth bs =>
    if beAt bs 0 6 == 0xFFFFFFFFFFFF then 2
    else if bit (byteAt bs 0) 0 then 1 else 0

/-- Length bin of Table 10-6, 0 to 6. -/
def sizeBin (len : Nat) : Nat :=
  if len ≤ 64 then 0 else if len ≤ 127 then 1 else if len ≤ 255 then 2 else if len ≤ 511 then 3
  else if len ≤ 1023 then 4 else if len ≤ 1518 then 5 else 6

/-- Count a good received frame of `len` bytes. -/
def countRx (n len kind : Nat) (tagged : Bool) (s : State) : State :=
  let s1 := stat n (2 + kind) 1 (stat n 1 1 (stat n 0 len s))
  let s2 := if tagged then stat n 5 1 s1 else s1
  stat n (9 + sizeBin len) 1 s2

/-- Count a frame sent. -/
def countTx (n len kind : Nat) (s : State) : State :=
  stat n (38 + sizeBin len) 1 (stat n (34 + kind) 1 (stat n 33 1 (stat n 32 len s)))

/-- Picoseconds per byte at a speed code (R115, R308). -/
def psPerByte : Nat → Nat
  | 4 => 3200 | 3 => 8000 | 2 => 80000 | 1 => 800000 | _ => 3200

/-- Duration Tf in ns of a frame of `len` bytes at a speed code, rounded up (R115). -/
def durationNs (code len : Nat) : Nat := ((len + 20) * psPerByte code + 999) / 1000

/-! Accounts (R326 to R328). -/

/-- The reservation field of an account, where it has one. -/
def acctField (a : Nat) : Option Fld :=
  match a with
  | 0 => some MAC_RES_SCHED.f
  | 1 => some MAC_RES_PUB.f
  | 2 => some MAC_RES_LAUNCH.f
  | 3 => some MAC_RES_CTL.f
  | 4 => some MAC_RES_HOST.f
  | 5 => some MAC_RES_HOST.f
  | _ => if a < 14 then some (MAC_RES_PRIO_q.f ((a - 6) / 2) ((a - 6) % 2))
    else if a ≥ 16 then some (MAC_n_RES_CELLS.f (a - 16)) else none

/-- Cells retired from the host accounts, which share one reservation field (R333). -/
def State.hostLost (s : State) (a : Nat) : Nat := match getKey Prod.fst a s.net.retired with | some p => p.2 | none => 0

/-- The sum of every reservation (R326). -/
def State.resSum (s : State) : Nat :=
  ((List.range 14).map (fun a => match acctField a with | some f => s.rd f - s.hostLost a | none => 0)).foldl (· + ·) 0
    + ((List.range 81).map (fun n => s.rd (MAC_n_RES_CELLS.f n))).foldl (· + ·) 0

/-- Bring `MAC_SHARED` to what the reservations and retired cells leave (R326). -/
def State.syncShared (s : State) : State :=
  s.wr MAC_SHARED.f (s.rd MAC_BUF_TOTAL.f - s.rd MAC_BUF_RETIRED.f - s.resSum)

/-- Size of an account. -/
def State.acctSize (s : State) (a : Nat) : Nat :=
  if a = 14 then s.rd MAC_SHARED.f else match acctField a with | some f => s.rd f - s.hostLost a | none => 0

/-- Cells a list of holdings takes from an account. -/
def cellsIn (a : Nat) (l : List (Nat × Nat)) : Nat :=
  (l.map (fun p => if p.1 = a then p.2 else 0)).foldl (· + ·) 0

/-- No cell is reserved, as at reset: every category draws on the shared cells alone (R328). -/
def State.unreserved (s : State) : Bool := s.rd MAC_SHARED.f + s.rd MAC_BUF_RETIRED.f == s.rd MAC_BUF_TOTAL.f

/-- Cells of an account in use; the message images stand in the publish account. -/
def State.acctUsed (s : State) (a : Nat) : Nat :=
  (s.net.held.map (fun h => cellsIn a h.cells)).foldl (· + ·)
    (if a = (if s.unreserved then 14 else 1) then s.net.pubCells else 0)

/-- Shared cells that frames of one ingress MAC hold. -/
def State.sharedOf (s : State) (n : Nat) : Nat :=
  (s.net.held.map (fun h => if h.mac = n then cellsIn 14 h.cells else 0)).foldl (· + ·) 0

/-- Add one cell of an account to a holding. -/
def addCell (a : Nat) : List (Nat × Nat) → List (Nat × Nat)
  | [] => [(a, 1)]
  | (b, n) :: l => if b = a then (b, n + 1) :: l else (b, n) :: addCell a l

/-- Take `n` cells one at a time, each from the first account of the chain that has a free cell (R327); `mac` limits the
shared cells of best-effort frames, 255 where there is no limit. -/
def takeCells (s : State) (chain : List Nat) (mac : Nat) : Nat → List (Nat × Nat) → Option (List (Nat × Nat))
  | 0, got => some got
  | n + 1, got =>
    let free (a : Nat) : Bool := s.acctUsed a + cellsIn a got < s.acctSize a
      && (a != 14 || mac == 255 || s.sharedOf mac + cellsIn 14 got < s.rd (MAC_n_SHARED_MAX.f mac))
    match chain.find? free with
    | some a => takeCells s chain mac n (addCell a got)
    | none => none

/-- Cells a frame of `len` bytes takes (spec/10, The packet buffer). -/
def cellsFor (len : Nat) : Nat := (len + 255) / 256

/-- Categories of Table 10-7 as chains of accounts: 0 scheduled, 1 publish, 2 launch, 3 control, 4 and 5 the hosts, 6 to 13
the priorities, 14 shared, 16 + n the cells of MAC n. -/
def chainScheduled : List Nat := [0]
def chainPublish : List Nat := [1]
def chainLaunch : List Nat := [2, 14]
def chainControl : List Nat := [3, 14]
def chainHost (hb : Bool) (q : Nat) : List Nat := [4 + hx hb, 6 + q % 8, 14]
def chainBestEffort (mac q : Nat) : List Nat := [16 + mac, 6 + q % 8, 14]

/-- Bring the words that show cells in use to what is held. -/
def State.syncCells (s : State) (mac : Nat) : State :=
  let u (a : Nat) : Nat := s.acctUsed a
  let total := (s.net.held.map (fun h => (h.cells.map Prod.snd).foldl (· + ·) 0)).foldl (· + ·) s.net.pubCells
  let s1 := (((((((s.wr MAC_USED_SCHED.f (u 0)).wr MAC_USED_PUB.f (u 1)).wr MAC_USED_LAUNCH.f (u 2)).wr
    MAC_USED_CTL.f (u 3)).wr MAC_USED_HA.f (u 4)).wr MAC_USED_HB.f (u 5)).wr MAC_USED_SHARED.f (u 14)).wr
    MAC_FREE.f (s.rd MAC_BUF_TOTAL.f - s.rd MAC_BUF_RETIRED.f - total)
  if mac ≤ 80 then (s1.wr (MAC_n_RES_USED.f mac) (u (16 + mac))).wr (MAC_n_SH_USED.f mac) (s.sharedOf mac) else s1

/-- Admit a frame to the buffer: its number and the state that holds it, or none when a cell is missing (R327). -/
def enterBuffer (w : Wire) (chain : List Nat) (mac refs : Nat) (desc : Option TxDesc) (s : State) : Option (Nat × State) :=
  let limit := if chain.any (fun a => 16 ≤ a) then mac else 255
  match takeCells s (if s.unreserved then [14] else chain) limit (cellsFor (wireLen w)) [] with
  | none => none
  | some cells =>
    let id := s.net.nextBuf
    let h : Held := { id := id, wire := w, cells := cells, mac := mac, refs := refs, desc := desc }
    some (id, { s with net := { s.net with held := s.net.held ++ [h], nextBuf := id + 1 } }.syncCells mac)

/-- A held frame by number. -/
def State.heldOf (s : State) (id : Nat) : Option Held := s.net.held.find? (fun h => h.id == id)

/-- Change a held frame. -/
def State.setHeld (s : State) (id : Nat) (g : Held → Held) : State :=
  { s with net := { s.net with held := s.net.held.map (fun h => if h.id == id then g h else h) } }

/-- Status of a finished host frame (Table 07-8). -/
def txStatus (d : TxDesc) : Nat :=
  let n := popcount 128 d.sent
  if n = 0 then (if d.removed then 0x0011 else if d.lateWindow then 0x0010 else 0x0002)
  else if n ≥ d.copies then 0x0000 else 0x0001

/-- Write a transmit descriptor back (R229, R227): vector 4; discarded after a reset of the endpoint. -/
def txWriteBack (d : TxDesc) (status : Nat) (s : State) : State :=
  if d.abandoned then s
  else
    ((wakePath (116 + hx d.hb) s).emit (.txWriteBack d.hb d.index d.sent d.time status d.event d.defers (1 + 2 * b2n d.launchLate))).emit
      (.msix d.hb 4)

/-- Give back one reference; at zero the cells go back and a host frame is written back (R329). -/
def unref (id : Nat) (s : State) : State :=
  match s.heldOf id with
  | none => s
  | some h =>
    if h.refs ≤ 1 then
      let s1 := { s with net := { s.net with held := s.net.held.filter (fun x => x.id != id) } }.syncCells h.mac
      match h.desc with
      | some d => txWriteBack d (txStatus d) s1
      | none => s1
    else s.setHeld id (fun x => { x with refs := x.refs - 1 })

/-! Queues (R318, R319). -/

/-- Copies in one queue of a MAC, oldest first. -/
def State.queueOf (s : State) (n q : Nat) : List Copy := s.net.queue.filter (fun c => c.mac == n && c.queue == q)

/-- Bring the fill words of a MAC to its queues. -/
def State.syncQueues (s : State) (n : Nat) : State :=
  let fill (q : Nat) : Nat := (s.queueOf n q).length
  let s1 := (List.range 4).foldl (fun t q => t.wr (MAC_n_Qq_FILL_LO.f n q) (fill q)) s
  let s2 := (List.range 4).foldl (fun t q => t.wr (MAC_n_Qq_FILL_HI.f n q) (fill (q + 4))) s1
  s2.wr (MAC_n_LQ_FILL.f n) (fill 8)

/-- Take a copy out of the queues. -/
def State.dequeue (s : State) (c : Copy) : State :=
  { s with net := { s.net with queue := s.net.queue.filter (fun x => x != c) } }.syncQueues c.mac

/-- Drop a copy: its counter, then its reference (R325, R329). -/
def dropCopy (c : Copy) (k : Nat) (s : State) : State := unref c.buf (stat c.mac k 1 s)

/-- OPER of a MAC's unit is `UP`. -/
def State.macUp (s : State) (n : Nat) : Bool := s.rd (MAC_n_OPER.f n) == 1

/-- An ordinary copy, without launch window. -/
def plainCopy (buf n q since : Nat) (strip : Bool := false) : Copy :=
  { buf := buf, mac := n, queue := q, since := since, age := 0, strip := strip, counted := false, event := 0, launch := 0,
    window := 0, defer := false, defers := 0, over_ := none, started := 0 }

/-- Drop every copy queued on a MAC, the launch queue and a frame in back-off included (R319). -/
def flushQueues (n : Nat) (s : State) : State :=
  let s1 := (s.net.queue.filter (fun c => c.mac == n)).foldl (fun t c => dropCopy c 50 (t.dequeue c)) s
  (s1.net.backoff.filter (fun c => c.mac == n)).foldl (fun t c => dropCopy c 50 t)
    { s1 with net := { s1.net with backoff := s1.net.backoff.filter (fun c => c.mac != n) } }

/-! Links (R308). -/

/-- The port domain of a MAC stands below Run (R308). -/
def State.portAsleep (s : State) (n : Nat) : Bool := s.rd (LAD_Dd_RUNG.f (portOfMac n)) != 0

/-- OPER that CFG, link and ladder give a MAC (R308); MAC 80 stays `DOWN` while `MAINT_EN` is low (R41). -/
def macOper (s : State) (n : Nat) : Nat :=
  if !s.on (MAC_n_CFG_EN.f n) then 0
  else if n = 80 && !s.maintEn then 2
  else if !s.on (MAC_n_LINK.f n) then 2
  else if s.portAsleep n then 5 else 1

/-- Set a MAC's OPER for its unit and its port's, dropping queued frames when it leaves `UP` (R319). -/
def setMacOper (n v : Nat) (s : State) : State :=
  let wasUp := s.macUp n
  let s1 := s.setOper (unitId 2 n) v
  let s2 := { s1 with sys := { s1.sys with operTimes := match getKey Prod.fst (unitId 2 n) s1.sys.operTimes with
    | some p => putKey Prod.fst (unitId 1 (portOfMac n), p.2) s1.sys.operTimes
    | none => s1.sys.operTimes } }
  if wasUp && v != 1 then flushQueues n s2 else s2

/-- A port's link goes up or down at a speed code: words, OPER, `link_downs` and `LINK_CHANGE` (R308, R335). -/
def setLink (n : Nat) (up : Bool) (speed : Nat) (s : State) : State :=
  let was := s.on (MAC_n_LINK.f n)
  let s1 := (s.wrB (MAC_n_LINK.f n) up).wr (MAC_n_SPEED.f n) (if up then speed else 0)
  let s2 := if was && !up then stat n 63 1 s1 else s1
  let s3 := setMacOper n (macOper s2 n) s2
  if was != up then
    s3.raise 0x0C01 (unitId 1 (portOfMac n))
      (toBE 1 (b2n up) ++ toBE 1 (s3.rd (MAC_n_SPEED.f n)) ++ toBE 1 (s3.rd (MAC_n_OPER.f n)))
  else s3

/-! Domains (R441 to R447): what a unit needs of the ladder. -/

/-- The domain is in use (Table 15-1). -/
def State.domainInUse (s : State) (d : Nat) : Bool :=
  if d < 80 then s.on (MAC_n_CFG_EN.f d)
  else if d < 116 then s.cfgOf (unitId 1 d) == 1
  else if d = 116 then s.cmd.ha.link
  else if d = 117 then s.cmd.hb.link
  else if d = 118 then true
  else if d = 119 then s.maintEn
  else if d < 122 then
    let l := s.rd TIM_REF_PRIO.f
    (List.range 5).any (fun i => bits l (4 * i) 4 == d - 120 + 2)
  else if d = 122 then s.on TIM_PPSO_EN.f
  else if d < 127 then bit (s.rd POS_AX_EN.f) (d - 123)
  else if d = 127 then s.on RED_PAIR.f
  else if d < 160 then s.rd (STL_FENf_NEED.f ((d - 128) / 8) ((d - 128) % 8)) != 0
  else if d < 168 then (List.range 32).any (fun k =>
    let c := 32 * (d - 160) + k
    3 ≤ s.rd (FC_MODE.f c) || s.rd (FC_OWNER_KIND.f c) != 0)
  else if d < 178 then true
  else if d = 178 then !s.sto.queue.isEmpty || s.sto.staging.isSome
  else if d = 179 then s.sto.inFlight.isSome
  else if d < 182 then !s.sto.queue.isEmpty
  else s.sto.checking.isSome || s.cmd.longs.any (fun l => l.opcode == 0x0203)

/-- The kind limit of a domain now (Table 15-1). -/
def State.kindLimit (s : State) (d : Nat) : Nat :=
  let u := s.domainInUse d
  if d < 16 then (if u then 3 else 4)
  else if d < 80 then 4
  else if d < 116 then (if u then 3 else 4)
  else if d < 118 then (if u then 2 else 4)
  else if d = 118 then 3
  else if d = 119 then (if u then 3 else 4)
  else if d < 168 then (if u then 0 else 4)
  else if d < 178 then 0
  else if d = 178 then (if u then 0 else 3)
  else (if u then 0 else 4)

/-- A domain with CFG `DISABLED` that is not in use: it is asked to stand in Peat, whatever its floor (R447). -/
def State.domainOff (s : State) (d : Nat) : Bool := !s.on (LAD_Dd_CFG.f d) && !s.domainInUse d

/-- The deepest rung a domain may stand in (R444, R447). -/
def State.deepest (s : State) (d : Nat) : Nat :=
  if s.domainOff d then 4 else Nat.min (s.kindLimit d) (s.rd (LAD_Dd_FLOOR.f d))

/-- OPER of a domain (R447). -/
def State.domainOper (s : State) (d : Nat) : Nat :=
  if s.on (LAD_Dd_CFG.f d) then (if s.rd (LAD_Dd_RUNG.f d) = 0 then 1 else 5)
  else if s.domainInUse d then 6 else 0

/-! OPER of the legacy ports (R340). -/

/-- Link of a legacy port. -/
def State.legLink (s : State) (p : Nat) : Bool :=
  if p < 92 then s.leg.lines.contains p
  else if p < 104 then s.rd (LEG_CANk_ESTATE.f (p - 92)) != 2
  else s.on (LEG_SERs_CFG_EN.f (p - 104))

/-- OPER of a legacy port: `ASLEEP` in a rung below Run (R30). -/
def State.legOper (s : State) (p : Nat) : Nat :=
  if s.cfgOf (unitId 1 p) = 0 then 0
  else if !s.legLink p then 2
  else if s.rd (LAD_Dd_RUNG.f p) != 0 then 5
  else if 92 ≤ p && p < 104 && s.rd (LEG_CANk_ESTATE.f (p - 92)) == 1 then 3
  else 1

/-- The corrected errors of the DRAM (domain 178) or the MRAM (179) that waited for its domain's return to Run are counted. -/
def countCorrected (d : Nat) (s : State) : State :=
  { s.incBy (GLB_MEMm_CORR.f (d - 171)) (s.lad.corrected.getD (d - 178) 0) with
      lad := { s.lad with corrected := modifyAt (d - 178) (fun _ => 0) s.lad.corrected } }

/-- Put a domain in a rung, with what its OPER and the OPER of its MAC or legacy port become. -/
def setRung (d r : Nat) (s : State) : State :=
  let s1 := (s.wr (LAD_Dd_RUNG.f d) r).when (r == 0 && (d == 178 || d == 179)) (countCorrected d)
  let s2 := s1.setOper (unitId 9 d) (s1.domainOper d)
  match macOfPort d with
  | some n => setMacOper n (macOper s2 n) s2
  | none => if 80 ≤ d && d < 116 then s2.setOper (unitId 1 d) (s2.legOper d) else s2

/-- A wake request (R445): counted, and a domain below Run returns to Run at once. -/
def wakeDomain (d : Nat) (s : State) : State :=
  if s.rd (LAD_Dd_RUNG.f d) = 0 then s else setRung d 0 (s.inc (LAD_Dd_WAKES.f d))

/-- Symbols arrive at, or an item crosses to, legacy ports: each that is enabled wakes (R445). -/
def wakeLegacy (ports : List Nat) (s : State) : State :=
  (ports.filter (fun p => s.cfgOf (unitId 1 p) == 1)).foldl (fun t p => wakeDomain p t) s

/-- Offer a copy to a queue: an item for a lowered port wakes its domain (R27); dropped at once when the port is not `UP` or the queue is full (R319). -/
def enqueue (c : Copy) (s0 : State) : State :=
  let s := wakeDomain (portOfMac c.mac) s0
  if !s.macUp c.mac then dropCopy c 50 s
  else if c.queue < 8 && (s.queueOf c.mac c.queue).length ≥ s.rd (MAC_n_QDEPTH.f c.mac) then dropCopy c 51 s
  else { s with net := { s.net with queue := s.net.queue ++ [{ c with age := s.rd (MAC_n_TX_AGE_MS.f c.mac) }] } }.syncQueues c.mac

/-! Host receive rings (R230). -/

/-- The frame rings of an endpoint. -/
def State.rings (s : State) (hb : Bool) : FrameRings := if hb then s.sch.hb else s.sch.ha

/-- Replace the frame rings of an endpoint. -/
def State.setRings (s : State) (hb : Bool) (r : FrameRings) : State :=
  if hb then { s with sch := { s.sch with hb := r } } else { s with sch := { s.sch with ha := r } }

/-- Deliver a frame (without FCS) to a host receive ring, or drop and count it (R230).  A buffer of no size stands for one that
the DMA cannot write: the write-back says `DMA_ERR`. -/
def deliverHost (hb : Bool) (bytes : List Byte) (time port : Nat) (s : State) : State :=
  let x := hx hb
  let r := s.rings hb
  match s.on (SCH_Hx_RX_EN.f x) && !r.rxStopped, r.rxBufs with
  | true, size :: rest =>
    let i := s.rd (SCH_Hx_RX_HEAD.f x)
    let cut := bytes.take size
    let s1 := (s.wr (SCH_Hx_RX_HEAD.f x) ((i + 1) % 2 ^ s.rd (SCH_Hx_RX_LOG2.f x))).setRings hb { r with rxBufs := rest }
    let flags := if size = 0 then 5 else 1 + 2 * b2n (size < bytes.length)
    let s2 := if size = 0 then s1.inc (SCH_Hx_DMA_ERR.f x) else s1
    ((wakePath (116 + x) s2).emit (.rxDeliver hb i cut (compact time) bytes.length port flags)).emit (.msix hb 5)
  | _, _ => s.inc (SCH_Hx_RX_NOBUF.f x)

end Sys2Proof.Machine
end

