-- ==== Sys2Proof/Machine/BbSend.lean ====
section
/-!
DEFINITION. Lanes, groups and paths of the backbone, and how this node puts frames on it (spec/03, R75 to R77, R89,
R91; spec/04, R124, R125).
-/
namespace Sys2Proof.Machine
open Sys2Proof

/-! Plane-ends: 0 `E1X`, 1 `E1Y`, 2 `E2X`, 3 `E2Y` (Table 01-10); MAC 4p + l serves lane l of plane-end p. -/

/-- A lane that is off and untrained. -/
def laneDown : Lane :=
  { trained := false, speed := 0, inLoss := false, lossStart := 0, lossInWindow := false, qualified := false,
    recovering := false, errors := [] }

/-- The lane a MAC serves. -/
def State.lane (s : State) (mac : Nat) : Lane := s.bkb.lanes.getD mac laneDown

/-- Change a lane. -/
def State.setLane (s : State) (mac : Nat) (g : Lane → Lane) : State :=
  { s with bkb := { s.bkb with lanes := modifyAt mac g s.bkb.lanes } }

/-- A lane is received well (R90): trained at the group speed, without qualified loss and not degraded. -/
def State.rxGood (s : State) (p l : Nat) : Bool :=
  let n := s.lane (4 * p + l)
  n.trained && n.speed == s.rd (BKB_PEp_CTL_SPEED.f p) && !n.qualified && !s.on (BKB_PEp_Ll_DEGRADED.f p l)

/-- A lane is in the group (R91, R93). -/
def State.inGroup (s : State) (p l : Nat) : Bool :=
  s.rxGood p l && !bit (s.rd (BKB_PEp_FORCED.f p)) l && bit (s.rd (BKB_PEp_NB_GOOD.f p)) l
    && !(s.lane (4 * p + l)).recovering

/-- The mask of four lanes that meet a condition. -/
def laneMask (c : Nat → Bool) : Nat := b2n (c 0) + 2 * b2n (c 1) + 4 * b2n (c 2) + 8 * b2n (c 3)

/-- The lanes in the group of a plane-end. -/
def State.group (s : State) (p : Nat) : Nat := laneMask (s.inGroup p)

/-- A plane-end is present while three or four lanes are in its group (R79). -/
def State.present (s : State) (p : Nat) : Bool := 3 ≤ popcount 4 (s.group p)

/-- The lowest-numbered trained lane of a plane-end. -/
def State.lowLane (s : State) (p : Nat) : Option Nat :=
  (List.range 4).find? (fun l => (s.lane (4 * p + l)).trained)

/-- An end is THROUGH. -/
def State.through (s : State) (p : Nat) : Bool := s.on (BKB_PEp_END.f p)

/-- Speed code of R308 for a plane-end's group speed. -/
def State.groupCode (s : State) (p : Nat) : Nat := 4 - s.rd (BKB_PEp_CTL_SPEED.f p)

/-- The lanes that carry message-phase frames (R89): those of the active lane table that are in the group, or the group
while no table is active. -/
def State.msgLanes (s : State) (p : Nat) : List Nat :=
  let g := s.group p
  bitsOf 4 (if s.rd (BKB_PEp_TABLE.f p) == 7 then g else g &&& s.rd (BKB_PEp_IN_USE.f p))

/-- The lane a message-phase frame of an origin takes (R89). -/
def State.msgLane (s : State) (p origin : Nat) : Option Nat :=
  let l := s.msgLanes p
  if l.isEmpty then none else l[origin % l.length]?

/-! Paths (R77, R78).  A frame that reaches the node on the E1 side runs on P1 toward E2, one from the E2 side on P2
toward E1; a LOOPED end turns it. -/

/-- The plane-end at which a frame of a plane leaves that runs toward an end (0 E1, 1 E2), and whether it passes the
node's point of insertion into P1 on the way; none when both ends are LOOPED. -/
def State.pathOut (s : State) (planeY : Bool) (toward : Nat) : Option Nat × Bool :=
  let y := b2n planeY
  let e1 := s.through y
  let e2 := s.through (2 + y)
  if toward = 1 then
    (if e2 then (some (2 + y), true) else if e1 then (some y, true) else (none, true))
  else
    (if e1 then (some y, false) else if e2 then (some (2 + y), true) else (none, true))

/-- Where a frame originated here leaves on a plane: into P1, ahead of E2 (R77). -/
def State.originOut (s : State) (planeY : Bool) : Option Nat :=
  let y := b2n planeY
  if s.through (2 + y) then some (2 + y) else if s.through y then some y else none

/-! The message phase (R106, R124). -/

/-- Local time in ns at which the message phase of the current cycle starts. -/
def State.msgStart (s : State) : Nat := s.tcy.start + s.rd TCY_MSG_START_NS.f

/-- Local time in ns at which it ends. -/
def State.msgEnd (s : State) : Nat := s.tcy.start + s.rd TCY_CYCLE_NS.f - s.rd TCY_CGUARD_NS.f

/-- The message phase is open now; a node that keeps no cycle has none (R125). -/
def State.inMsgPhase (s : State) : Bool :=
  s.keepsCycle && s.msgStart ≤ s.clk.now && s.clk.now < s.msgEnd

/-- A frame of this duration that starts now finishes within the message phase (R124). -/
def State.fitsPhase (s : State) (tf : Nat) : Bool := s.inMsgPhase && s.clk.now + tf ≤ s.msgEnd

/-! Sending. -/

/-- The uptime at a local instant now past or near: what counts by real time is held in uptime, which no step moves. -/
def State.upAt (s : State) (t : Nat) : Nat := s.clk.up + t - s.clk.now

/-- Send a link-local frame at once on a lane (R106 lets it go in any phase). -/
def sendLane (mac : Nat) (f : BbFrame) (s : State) : State :=
  let g := { f with planeY := mac / 4 % 2 == 1 }
  countTx mac (wireLen (.bb g)) 1 (s.emit (.lane mac g))

/-- Send a link-local frame at once on the lowest trained lane of a plane-end. -/
def sendLocal (p : Nat) (f : BbFrame) (s : State) : State :=
  match s.lowLane p with
  | some l => sendLane (4 * p + l) f s
  | none => s

/-- Queue one frame for several MACs in one queue, held once (R329); without a cell it is not queued (R327), and counted on
each of them as a frame for which no cell could be taken (R24; DESIGN CHOICE, log entry 79). -/
def queueFrame (f : BbFrame) (macs : List Nat) (q : Nat) (chain : List Nat) (s : State) : State :=
  if macs.isEmpty then s
  else match enterBuffer (.bb f) chain 255 macs.length none s with
    | none => macs.foldl (fun t m => stat m 25 1 t) s
    | some (id, s1) => macs.foldl (fun t m => enqueue (plainCopy id m q t.clk.up) t) s1

/-- Queue a link-local message-phase frame on the lowest trained lane of each given plane-end (R145). -/
def queueLocal (f : BbFrame) (pes : List Nat) (q : Nat) (s : State) : State :=
  queueFrame f (pes.filterMap (fun p => (s.lowLane p).map (fun l => 4 * p + l))) q chainControl s

/-- The present plane-ends. -/
def State.presentEnds (s : State) : List Nat := (List.range 4).filter (fun p => s.present p)

/-- The next `RH_SEQ` has been used (R75). -/
def useSeq (s : State) : State := { s with bkb := { s.bkb with seq := (s.bkb.seq + 1) % 2 ^ 32 } }

/-- Destination addresses by the kind of frame, and the EtherType (R73). -/
def dstForwarded : Nat := 0x034E47000001
def dstLinkLocal : Nat := 0x034E47000002
def bbEtherType : Nat := 0x88B5

/-- A frame that this node originates, with its addresses, number, epoch and sequence (R73, R75). -/
def ringFrame (s : State) (kind seq : Nat) (body : List Byte) : BbFrame :=
  { dst := dstForwarded, src := s.rd GLB_MAC_ADDR.f, etherType := bbEtherType, version := 1, kind := kind,
    planeY := false, single := false, linkLocal := false, origin := s.rd HST_NODE_NUM.f, epoch := s.rd HST_EPOCH.f,
    seq := seq, hops := 0, slot := 0xFFFF, body := body }

/-- A link-local frame that this node originates. -/
def localFrame (s : State) (kind : Nat) (body : List Byte) : BbFrame :=
  { ringFrame s kind 0 body with dst := dstLinkLocal, linkLocal := true }

/-- The MAC by which a message-phase frame of an origin leaves a plane-end (R89). -/
def State.egressMac (s : State) (p origin : Nat) : Option Nat := (s.msgLane p origin).map (fun l => 4 * p + l)

/-- The ways by which a message-phase frame of this node leaves on some planes: the plane-ends it runs out of, each with the
MAC of its lane where the plane-end has one (R77, R89). -/
def State.messageOuts (s : State) (planes : List Bool) : List (Nat × Option Nat) :=
  (planes.filterMap (fun y => s.originOut y)).map (fun p => (p, s.egressMac p (s.rd HST_NODE_NUM.f)))

/-- Count the copies of a frame of this node that no lane takes: on a plane with both ends LOOPED it comes straight back, and
at a plane-end without a lane in use it is not sent (R77, R92). -/
def countUnsent (planes : List Bool) (outs : List (Nat × Option Nat)) (s : State) : State :=
  (outs.filter (fun o => o.2.isNone)).foldl (fun t o => t.inc (BKB_PEp_LANEDROP.f o.1))
    (s.incBy BKB_RETURNED.f (planes.length - outs.length))

/-- Originate a forwarded message-phase frame on both planes (R76, R77), or on one; a node under R123 or R186 originates
nothing (`drop_tx_silent`).  A plane whose ends are both LOOPED brings the frame straight back.  `RH_SEQ` is used by a frame
that enters the buffer or comes straight back (R75); without a cell a host frame is written back, any other counted on its
lanes (R327, R24; DESIGN CHOICE, log entry 79). -/
def originate (kind : Nat) (body : List Byte) (q : Nat) (chain : List Nat) (planes : List Bool) (single : Bool)
    (desc : Option TxDesc) (s : State) : State :=
  let f := { ringFrame s kind s.bkb.seq body with single := single }
  let outs := s.messageOuts planes
  let macs := outs.filterMap Prod.snd
  let dropped (t : State) : State := match desc with | some d => txWriteBack d 0x0002 t | none => t
  if s.originSilent then dropped (macs.foldl (fun t m => stat m 57 1 t) s)
  else if macs.isEmpty then
    dropped (countUnsent planes outs (if outs.length < planes.length then useSeq s else s))
  else match enterBuffer (.bb f) chain 255 macs.length desc s with
    | none => match desc with
      | some d => txWriteBack d 0x0014 s
      | none => macs.foldl (fun t m => stat m 25 1 t) s
    | some (id, s1) => macs.foldl (fun t m => enqueue (plainCopy id m q t.clk.up) t) (countUnsent planes outs (useSeq s1))

/-- The plane-end toward which a MAC's lane belongs. -/
def peOfMac (mac : Nat) : Nat := mac / 4

end Sys2Proof.Machine
end

