-- ==== Sys2Proof/Machine/Slots.lean ====
section
/-!
DEFINITION. The slot banks and lane tables as they are read (spec/03, R88; spec/04, R113): which slots pass, on which lane and
when, and the gaps between them in which link-local frames go (R90).
-/
namespace Sys2Proof.Machine
open Sys2Proof

/-- Raise `TABLE_FAULT` (R18, Table 01-12). -/
def tableFault (unit table bank cause id : Nat) (s : State) (cleared : Bool := false) : State :=
  s.raise 0x0202 unit (toBE 1 table ++ toBE 1 bank ++ toBE 1 cause ++ toBE 2 id ++ toBE 4 s.cycle) cleared

/-- No time at a plane-end. -/
def noTime : Nat := 0xFFFFFFFF

/-- The slot bank in force, and the shadow bank. -/
def State.slotBank (s : State) : SlotBank := if s.on TCY_SLOT_BANK.f then s.tcy.bankB else s.tcy.bankA
def State.slotShadow (s : State) : SlotBank := if s.on TCY_SLOT_BANK.f then s.tcy.bankA else s.tcy.bankB

/-- Replace the shadow bank. -/
def State.setSlotShadow (s : State) (b : SlotBank) : State :=
  if s.on TCY_SLOT_BANK.f then { s with tcy := { s.tcy with bankA := b } } else { s with tcy := { s.tcy with bankB := b } }

/-- The number of the slot shadow bank. -/
def State.shadowNum (s : State) : Nat := 1 - s.rd TCY_SLOT_BANK.f

/-- A slot is selected in a cycle (Table 04-4). -/
def Slot.selected (x : Slot) (c : Nat) : Bool := x.valid && x.period != 0 && c % x.period == x.phase

/-- The slot bank may be used: not marked faulty. -/
def State.slotsOn (s : State) : Bool := !s.slotBank.faulty

/-- An entry of the active bank. -/
def State.slot (s : State) (n : Nat) : Option Slot := s.slotBank.slots.find? (fun x => x.num == n && x.valid)

/-- The entry of a lane table at a place. -/
def laneEnt (t : List LaneEnt) (n : Nat) : Option LaneEnt := t.find? (fun e => e.index == n)

/-- The lane of a slot under a lane table, 255 when none. -/
def laneIn (t : List LaneEnt) (n : Nat) : Nat := match laneEnt t n with | some e => e.lane | none => 255

/-- The lane table of a plane-end in force; none while no table is active or its bank is faulty. -/
def State.laneTable (s : State) (p : Nat) : List LaneEnt :=
  let k := s.rd (BKB_PEp_TABLE.f p)
  if k > 4 || s.bkb.faulty.contains (p, s.rd (BKB_PEp_BANK.f p)) then [] else s.bkb.tables.getD (5 * p + k) []

/-- The lane that it gives a slot, 255 when none. -/
def State.slotLane (s : State) (p n : Nat) : Nat := laneIn (s.laneTable p) n

/-- `ST_EGRESS_p` of a slot, in ns from cycle start; none when the frame does not pass. -/
def State.egressOf (s : State) (n p : Nat) : Option Nat :=
  match s.slot n with
  | none => none
  | some x => if x.egress.getD p noTime == noTime then none else some (x.egress.getD p noTime)

/-- `LT_SKEW` of the lane that carries a slot at a plane-end, in ns (R88). -/
def State.slotSkew (s : State) (n p : Nat) : Int :=
  match laneEnt (s.laneTable p) n with | some e => toSigned 16 e.skew | none => 0

/-- Launch instant S in local ns of a slot at a plane-end: its egress instant and the skew of its lane (R88, R120); none when
the frame does not pass. -/
def State.slotAt (s : State) (n p : Nat) : Option Nat :=
  (s.egressOf n p).map (fun e => (((s.tcy.start + e : Nat) : Int) + s.slotSkew n p).toNat)

/-- A slot frame or Pennant is due on a lane within 0.6 µs: one that waits for its egress there, or the node's own. -/
def State.slotDue (s : State) (mac : Nat) : Bool :=
  let p := mac / 4
  s.keepsCycle && s.slotBank.slots.any (fun x =>
    s.slotLane p x.num == mac % 4
      && ((x.originate && x.selected s.cycle) || s.tcy.waiting.any (fun w => w.slot == x.num && w.pe == p))
      && (match s.slotAt x.num p with | some t => s.clk.now ≤ t + 200 && t ≤ s.clk.now + 600 | none => false))

/-- A lane is idle, and no slot frame is due on it within 0.6 µs (R90). -/
def State.laneGap (s : State) (mac : Nat) : Bool :=
  s.net.sending.all (fun c => c.mac != mac) && !s.slotDue mac

/-- A link-local frame waits for the next gap of its lane; a later lane state frame or request takes the place of one that
waits. -/
def holdGap (mac : Nat) (g : GapFrame) (s : State) : State :=
  let same (x : Nat × GapFrame) : Bool := x.1 == mac && (match x.2, g with
    | .laneState, .laneState => true
    | .request, .request => true
    | _, _ => false)
  { s with bkb := { s.bkb with gaps := s.bkb.gaps.filter (fun x => !same x) ++ [(mac, g)] } }

end Sys2Proof.Machine
end

