-- ==== Sys2Proof/Machine/HoistCore.lean ====
section
/-!
DEFINITION. The Hoist unit's frames and records (spec/05, R145 to R150), its triggers (R142 to R144) and the Lead's
machine (R165, Table 05-8).
-/
namespace Sys2Proof.Machine
open Sys2Proof

/-! Directory records (Table 05-3). -/

/-- A directory record as its 32 bytes. -/
def DirRec.bytes (r : DirRec) : List Byte :=
  toBE 8 r.uid ++ toBE 8 r.vehId ++ toBE 1 r.kind ++ toBE 1 r.flags ++ toBE 1 r.ends ++ toBE 1 r.sense ++ toBE 2 r.node
    ++ toBE 1 r.vehicle ++ toBE 1 r.orient ++ toBE 2 r.cls ++ toBE 2 r.demandId ++ toBE 1 r.hops ++ toBE 1 r.route
    ++ toBE 1 r.foreignPos ++ [0#8]

/-- The record that 32 bytes spell. -/
def recOf (b : List Byte) : DirRec :=
  { uid := beAt b 0 8, vehId := beAt b 8 8, kind := byteAt b 16, flags := byteAt b 17, ends := byteAt b 18,
    sense := byteAt b 19, node := beAt b 20 2, vehicle := byteAt b 22, orient := byteAt b 23 % 2, cls := beAt b 24 2,
    demandId := beAt b 26 2, hops := byteAt b 28, route := byteAt b 29, foreignPos := byteAt b 30 }

/-- Lane mask, present ends in bits [3:0] and THROUGH ends in bits [7:4] (`DR_ENDS` of a Record). -/
def State.endsNow (s : State) : Nat :=
  laneMask s.present + 16 * laneMask s.through

/-- The foreign table is not empty (R352). -/
def State.hostsForeign (s : State) : Bool := s.rd LEG_WTB_FOREIGN.f != 0

/-- This node's own record (R149): flags, ends, class and demand table as they stand. -/
def State.ownRecord (s : State) (hops route : Nat) : DirRec :=
  { uid := s.rd HST_UID.f, vehId := s.rd HST_VEH_ID.f, kind := 0,
    flags := b2n s.hst.cabActive + 2 * s.rd TCY_COLD_CAP.f + 4 * s.rd RED_PAIR.f + 8 * (s.rd RED_PAIR.f * s.rd RED_ACTIVE.f)
      + 16 * b2n (s.on RED_PAIR.f && Config.e1Node) + 64 * b2n s.hostsForeign,
    ends := s.endsNow, sense := b2n s.hst.senseE1 + 2 * b2n s.hst.senseE2, node := 0, vehicle := 0, orient := 0,
    cls := s.rd HST_CLASS.f, demandId := s.rd HST_DEMAND_ID.f, hops := hops, route := route, foreignPos := 0 }

/-- The foreign records of a host, one per position, while the end they stand beyond has no present plane-end (R352). -/
def State.foreignRecords (s : State) (hops route : Nat) : List DirRec :=
  let e := s.rd LEG_WTB_END.f
  if s.present (2 * e) || s.present (2 * e + 1) then []
  else ((List.range 63).filter (fun k => s.on (LEG_WTB_FNk_VALID.f (k + 1)))).map (fun k =>
    { uid := 0, vehId := s.rd (LEG_WTB_FNk_KEY.f (k + 1)), kind := 1, flags := 0, ends := 0, sense := 0, node := 0, vehicle := 0,
      orient := 0, cls := 0, demandId := 0, hops := hops, route := route, foreignPos := k + 1 })

/-- The CURRENT directory holds this node. -/
def State.numbered (s : State) : Bool := s.rd HST_NODE_NUM.f != 0

/-! Hoist control frames (Table 05-2). -/

/-- The kinds of Hoist control frame. -/
def hcTrigger : Nat := 1
def hcTopology : Nat := 2
def hcRecord : Nat := 3
def hcProposal : Nat := 4
def hcReady : Nat := 5
def hcRefuse : Nat := 6
def hcCommit : Nat := 7
def hcStrike : Nat := 8
def hcYield : Nat := 9

/-- The sleep acknowledgement of R449. -/
def hcSleepAck : Nat := 10

/-- Types that travel toward the Lead (R147, R449). -/
def towardLead (typ : Nat) : Bool := typ == hcRecord || typ == hcReady || typ == hcRefuse || typ == hcSleepAck

/-- A Hoist control frame of this node. -/
def hoistFrame (s : State) (typ seg segs flags lead hoist epoch : Nat) (payload : List Byte) : BbFrame :=
  localFrame s 4 (toBE 1 typ ++ toBE 1 seg ++ toBE 1 segs ++ toBE 1 flags ++ toBE 8 lead ++ toBE 2 hoist ++ toBE 2 epoch
    ++ payload)

/-- The key of a frame whose payload names the sender (R147; R449 adds the sleep cycle).  A foreign record carries no unique ID; its route, hops and
position stand for it, so that the records of one host keep keys of their own.  DEDUCED, log entry 50. -/
def senderKey (typ : Nat) (payload : List Byte) : Nat :=
  if typ == hcRecord && byteAt payload 16 == 1 then
    2 ^ 64 + beAt payload 28 3
  else if typ == hcTrigger || typ == hcRecord || typ == hcReady || typ == hcRefuse then beAt payload 0 8
  else if typ == hcSleepAck then beAt payload 0 12
  else 0

/-- Note a key; keys of other Hoists than the current and the previous one are dropped (R147). -/
def noteKey (k : HcKey) (s : State) : State :=
  let h := s.rd HST_HOIST_ID.f
  let keep (x : HcKey) : Bool := x.hoist == h || (x.hoist + 1) % 65536 == h || x.hoist == k.hoist
  { s with hst := { s.hst with keys := k :: s.hst.keys.filter keep } }

/-- Take a frame this node originates as known, so that its own copies coming back are not taken again. -/
def noteOwn (typ seg lead hoist : Nat) (payload : List Byte) (s : State) : State :=
  noteKey { typ := typ, lead := lead, hoist := hoist, seg := seg, sender := senderKey typ payload } s

/-- The end on which the Topology of a Hoist was accepted (R147). -/
def State.facing (s : State) (hoist : Nat) : Option Nat :=
  match s.hst.leadFacing with
  | some (e, h) => if h == hoist then some e else none
  | none => none

/-- Send a Hoist control frame: what travels toward the Lead goes out of the Lead-facing end, every other type out of each
present plane-end.  A node in REFUSING originates none (R148). -/
def sendHoist (typ flags epoch hoist : Nat) (payload : List Byte) (s : State) : State :=
  let lead := s.rd TCY_LEAD_UID.f
  let f := hoistFrame s typ 0 1 flags lead hoist epoch payload
  let pes := match towardLead typ, s.facing hoist with
    | true, some e => s.presentEnds.filter (fun p => p / 2 == e)
    | _, _ => s.presentEnds
  if s.rd TCY_STATE.f == 8 then s else queueLocal f pes 7 (noteOwn typ 0 lead hoist payload s)

/-- Send one segment or copy out of the given end only, with `LEAD_EXIT` naming it. -/
def sendByEnd (typ seg segs hoist epoch : Nat) (payload : List Byte) (s : State) : State :=
  let lead := s.rd TCY_LEAD_UID.f
  let go (e : Nat) (t : State) : State :=
    queueLocal (hoistFrame t typ seg segs (2 + e) lead hoist epoch payload) (t.presentEnds.filter (fun p => p / 2 == e)) 7 t
  go 1 (go 0 (noteOwn typ seg lead hoist payload s))

/-! The Lead's machine (Table 05-8). -/

/-- The Lead's Hoist number. -/
def State.leadHoist (s : State) : Nat := s.hst.hoistId

/-- Enter COLLECT on a new Hoist number (R165): nothing is collected yet and the Topology is still to be sent. -/
def startHoist (reason : Nat) (s : State) : State :=
  let h := s.hst
  { s with hst :=
      { h with hoistId := (h.hoistId + 1) % 65536, topologySent := false, collectLeft := 0, records := [], readies := [],
               missing := [], reason := reason, reasonAt := s.clk.now, leadProposal := none, proposeReady := false, incomplete := false } }.wr
    HST_LEAD_STATE.f 3

/-- A Hoist from IDLE or HOLD serves a new trigger, whose retries are still to run. -/
def startFresh (reason : Nat) (s : State) : State :=
  startHoist reason { s with hst := { s.hst with retries := 0 } }

/-- Note the last qualification (`HST_LAST_TRIGGER_CYCLE`, `HST_LAST_REASON`). -/
def noteTrigger (reason : Nat) (s : State) : State :=
  (s.wr HST_LAST_TRIGGER_CYCLE.f s.cycle).wr HST_LAST_REASON.f reason

/-- Waiting triggers stand in order of qualification, on a tie by code (R150). -/
def insertTrig (t : Trig) : List Trig → List Trig
  | [] => [t]
  | x :: l => if x.at_ == t.at_ && t.reason < x.reason then t :: x :: l else x :: insertTrig t l

/-- The shadow banks hold a Proposal, complete and checked. -/
def State.shadowsBuilt (s : State) (p : Proposal) : Bool := s.slotShadow.ready && s.slotShadow.sched == p.epoch

/-- Empty the shadow banks of routing and binding. -/
def clearBindings (s : State) : State :=
  let b : BindBank := { descs := [], nodes := [] }
  let s1 := if s.sig.bank then { s with sig := { s.sig with bindA := b } } else { s with sig := { s.sig with bindB := b } }
  if s1.net.bank then { s1 with net := { s1.net with routesA := [] } } else { s1 with net := { s1.net with routesB := [] } }

/-- Discard what run-ahead built: the slot shadow, the lane tables, the routing and binding shadows it wrote, the segments and the
proposal (R162). -/
def discardShadows (s0 : State) : State :=
  let drop (b : SlotBank) : SlotBank := { b with slots := [], ready := false }
  let s := match s0.hst.proposal with
    | some p => if 1 ≤ s0.rd HST_STATE.f && s0.rd HST_STATE.f ≤ 4 && s0.shadowsBuilt p then clearBindings s0 else s0
    | none => s0
  let s1 := if s.on TCY_SLOT_BANK.f then { s with tcy := { s.tcy with bankA := drop s.tcy.bankA } }
    else { s with tcy := { s.tcy with bankB := drop s.tcy.bankB } }
  { s1 with bkb := { s1.bkb with shadow := [] },
            hst := { s1.hst with proposal := none, confirmed := [], newSched := 0, swapAt := none, leftAt := none } }

/-- Back to IDLE with the directory CURRENT (R162). -/
def hoistIdle (s : State) : State := ((discardShadows s).wr HST_STATE.f 0).wr HST_PEND_EPOCH.f 0

/-- The node is PENDING: RUNAHEAD, READY or REFUSED. -/
def State.strikable (s : State) : Bool := 1 ≤ s.rd HST_STATE.f && s.rd HST_STATE.f ≤ 3

/-- Every pending `HOIST_REQUEST` that no Commit has answered counts a Strike (R170). -/
def countStrikes (s : State) : State :=
  { s with cmd := { s.cmd with longs := s.cmd.longs.map (fun l =>
      if l.opcode == 0x0501 && l.arg == 0 then { l with arg2 := Nat.min 255 (l.arg2 + 1) } else l) } }

/-- Act on a Strike for the Hoist the node is pending for (R162), or count it ignored. -/
def takeStrike (hoist reason : Nat) (s0 : State) : State :=
  let s := countStrikes s0
  let mine := match s.hst.proposal with | some p => p.hoistId == hoist | none => false
  if s.strikable && mine then
    let struck := s.rd HST_PEND_EPOCH.f
    let s1 := (hoistIdle s).inc HST_STRIKES.f
    s1.raise 0x0503 0 (toBE 2 struck ++ toBE 2 hoist ++ toBE 1 reason ++ toBE 2 (s1.rd HST_EPOCH.f))
  else { s.inc HST_STRIKE_IGNORED.f with
         hst := { s.hst with proposal := if mine && s.rd HST_STATE.f == 0 then none else s.hst.proposal } }

/-- The Lead sends a Strike (R162) and takes it itself. -/
def strike (reason : Nat) (s : State) : State :=
  let h := s.leadHoist
  takeStrike h reason (sendHoist hcStrike 2 (s.rd HST_PROPOSED_LAST.f) h (toBE 1 reason) s)

/-- A trigger other than a join trigger qualifies at the Lead (R165).  Before the Topology it joins the Hoist that starts; of
triggers that qualify at one instant the lowest code gives the reason (R150). -/
def qualify (t : Trig) (s0 : State) : State :=
  let s := noteTrigger t.reason s0
  match s.rd HST_LEAD_STATE.f with
  | 1 => startFresh t.reason s
  | 2 => startFresh t.reason s
  | 3 =>
    if s.hst.topologySent then startFresh t.reason s
    else if t.at_ == s.hst.reasonAt && t.reason < s.hst.reason then { s with hst := { s.hst with reason := t.reason } }
    else s
  | 5 => startFresh t.reason (strike 1 s)
  | 4 => { s with hst := { s.hst with waiting := insertTrig t s.hst.waiting } }
  | 6 => { s with hst := { s.hst with waiting := insertTrig t s.hst.waiting } }
  | _ => s

/-- A join trigger reaches the Lead (R144, R165): in IDLE and HOLD it starts the hold, elsewhere it waits. -/
def joinTrigger (t : Trig) (s : State) : State :=
  let s1 := { s with hst := { s.hst with joins := s.hst.joins ++ [t] } }
  if s1.rd HST_LEAD_STATE.f == 1 then s1.wr HST_LEAD_STATE.f 2 else s1

/-- The Lead returns to IDLE (R165): served join triggers go, a waiting trigger starts one Hoist, a waiting join trigger
starts its hold. -/
def leadIdle (s : State) : State :=
  let joins := s.hst.joins.filter (fun t => s.nodeOfUid t.uid == 0)
  let s1 := { s.wr HST_LEAD_STATE.f 1 with hst := { s.hst with joins := joins, waiting := [], leadProposal := none, commitAt := none } }
  match s.hst.waiting with
  | t :: _ =>
    let s2 := startFresh t.reason s1
    { s2 with hst := { s2.hst with reasonAt := t.at_ } }
  | [] => if joins.isEmpty then s1 else s1.wr HST_LEAD_STATE.f 2

/-- The node enters LEAD: the Lead machine leaves NONE and its entry trigger qualifies (Table 05-8). -/
def enterLeadMachine (reason : Nat) (s : State) : State :=
  let s1 := { s.wr HST_LEAD_STATE.f 1 with hst :=
    { s.hst with waiting := [], joins := [], retries := 0, commitAt := none, yieldDue := none } }
  qualify { reason := reason, detail := 0, uid := s.rd HST_UID.f, foreign := 0, at_ := s.clk.now } s1

/-- The node leaves LEAD: a Strike of reason 4 out of WAIT_READY, then NONE (Table 05-8). -/
def leaveLead (s : State) : State :=
  let s1 := if s.rd HST_LEAD_STATE.f == 5 then strike 4 s else s
  { s1.wr HST_LEAD_STATE.f 0 with hst := { s1.hst with waiting := [], joins := [], leadProposal := none, commitAt := none, yieldDue := none } }

/-! Triggers at the node (R142, R143). -/

/-- The Trigger frame's payload (Table 05-4). -/
def Trig.bytes (t : Trig) : List Byte := toBE 8 t.uid ++ toBE 1 t.reason ++ toBE 1 t.detail ++ toBE 8 t.foreign

/-- Whether a node may send Triggers now: SYNC or SILENT, in the message phase (R143). -/
def State.mayTrigger (s : State) : Bool := (s.rd TCY_STATE.f == 5 || s.rd TCY_STATE.f == 7) && s.inMsgPhase

/-- Send the Triggers held. -/
def sendTriggers (s : State) : State :=
  if s.mayTrigger then
    s.hst.held.foldl (fun t x => sendHoist hcTrigger 0 (t.rd HST_EPOCH.f) (t.rd HST_HOIST_ID.f) x.bytes t)
      { s with hst := { s.hst with held := [] } }
  else s

/-- What a trigger does at the Lead: a merge leads to a Yield only (R163), a join trigger waits, any other qualifies. -/
def atLead (t : Trig) (s : State) : State :=
  if t.foreign != 0 then
    (if s.hst.yieldDue.isSome || s.hst.yieldAt.isSome then s
     else { s with hst := { s.hst with yieldDue := some (t.foreign, 0) } })
  else if t.reason == 6 then joinTrigger t s
  else qualify t s

/-- A trigger is detected here (R142, R143): taken at once by the Lead, reported by any other node. -/
def detect (reason detail foreign : Nat) (s : State) : State :=
  let t : Trig := { reason := reason, detail := detail, uid := s.rd HST_UID.f, foreign := foreign, at_ := s.clk.now }
  if s.isLead then atLead t s
  else sendTriggers { s with hst := { s.hst with held := s.hst.held ++ [t] } }

end Sys2Proof.Machine
end

