-- ==== Sys2Proof/Machine/Float64.lean ====
section
/-!
DEFINITION. IEEE 754 binary64 and binary32 as the signal engines use them (R249, R263): bit patterns as numbers, exact
rational results rounded to nearest with ties to even, every operation rounded by itself.
-/
namespace Sys2Proof.Machine
open Sys2Proof

/-- n / d rounded to nearest, ties to even. -/
def roundHalfEven (n d : Nat) : Nat :=
  let q := n / d
  let r := n % d
  if 2 * r < d then q else if 2 * r > d then q + 1 else q + q % 2

/-- n / d of an integer rounded to nearest, ties to even. -/
def roundHalfEvenInt (n : Int) (d : Nat) : Int :=
  if n < 0 then -(roundHalfEven n.natAbs d : Int) else (roundHalfEven n.natAbs d : Int)

/-- n / d where the spec gives no rounding: one of the two whole numbers beside it, which one is left open. -/
def roundOpen (n : Int) (d : Nat) : Int :=
  if n % d = 0 then n / d else n / d + (if Config.roundsUp n d then 1 else 0)

/-- n / d to the nearest whole number; a tie, of which the spec does not speak, is left open. -/
def roundNearest (n : Int) (d : Nat) : Int :=
  if (2 * n) % d = 0 && n % d != 0 then roundOpen n d else roundHalfEvenInt n d

/-- Powers of two with an integer exponent, as numerator and denominator. -/
def pow2 (e : Int) : Nat × Nat := if e < 0 then (1, 2 ^ e.natAbs) else (2 ^ e.natAbs, 1)

/-- The pattern of the rational n / d with precision `p` (53 or 24), least quantum exponent `qmin`, `w` exponent bits; an
infinity when it is too large.  The sign is the caller's. -/
def encodeRat (p : Nat) (qmin : Int) (w n d : Nat) : Nat :=
  if n = 0 then 0
  else
    let k : Int := (Nat.log2 n : Int) - (Nat.log2 d : Int)
    let at_ (e : Int) : Bool := d * (pow2 e).1 ≤ n * (pow2 e).2
    let e := if at_ k then k else k - 1
    let q := if e - (p - 1) < qmin then qmin else e - (p - 1)
    let m := roundHalfEven (n * (pow2 q).2) (d * (pow2 q).1)
    let bits_ := (q - qmin).toNat * 2 ^ (p - 1) + m
    Nat.min bits_ ((2 ^ w - 1) * 2 ^ (p - 1))

/-- Sign bit of a binary64 pattern. -/
def f64Neg (b : Nat) : Bool := b.testBit 63

/-- Magnitude bits. -/
def f64Mag (b : Nat) : Nat := b % 2 ^ 63

/-- The pattern of infinity. -/
def f64Inf : Nat := 0x7FF0000000000000

/-- A pattern that is no number. -/
def f64Nan : Nat := 0x7FF8000000000000

/-- Neither infinite nor NaN. -/
def f64Finite (b : Nat) : Bool := f64Mag b < f64Inf

/-- A NaN pattern. -/
def f64IsNan (b : Nat) : Bool := f64Inf < f64Mag b

/-- The magnitude of a finite pattern as numerator and denominator. -/
def f64Abs (b : Nat) : Nat × Nat :=
  let ex := f64Mag b / 2 ^ 52
  let fr := f64Mag b % 2 ^ 52
  let m := if ex = 0 then fr else 2 ^ 52 + fr
  let q : Int := (Nat.max ex 1 : Int) - 1075
  (m * (pow2 q).1, (pow2 q).2)

/-- A finite pattern as an integer over a denominator. -/
def f64Rat (b : Nat) : Int × Nat :=
  let (n, d) := f64Abs b
  (if f64Neg b then -(n : Int) else n, d)

/-- Put a sign on a magnitude pattern. -/
def f64Sign (neg : Bool) (mag : Nat) : Nat := (if neg then 2 ^ 63 else 0) + mag

/-- The pattern of the integer n over d, rounded; zero takes the sign given. -/
def f64OfRat (n : Int) (d : Nat) (zeroNeg : Bool := false) : Nat :=
  if n = 0 then f64Sign zeroNeg 0 else f64Sign (n < 0) (encodeRat 53 (-1074) 11 n.natAbs d)

/-- An integer as binary64. -/
def f64OfInt (i : Int) : Nat := f64OfRat i 1

/-- Negation. -/
def f64Negate (b : Nat) : Nat := f64Sign (!f64Neg b) (f64Mag b)

/-- Addition. -/
def f64Add (a b : Nat) : Nat :=
  if f64IsNan a || f64IsNan b then f64Nan
  else if !f64Finite a then (if !f64Finite b && f64Neg a != f64Neg b then f64Nan else a)
  else if !f64Finite b then b
  else
    let (n1, d1) := f64Rat a
    let (n2, d2) := f64Rat b
    f64OfRat (n1 * d2 + n2 * d1) (d1 * d2) (f64Neg a && f64Neg b)

/-- Subtraction. -/
def f64Sub (a b : Nat) : Nat := f64Add a (f64Negate b)

/-- Multiplication. -/
def f64Mul (a b : Nat) : Nat :=
  let neg := f64Neg a != f64Neg b
  if f64IsNan a || f64IsNan b then f64Nan
  else if !f64Finite a || !f64Finite b then (if f64Mag a = 0 || f64Mag b = 0 then f64Nan else f64Sign neg f64Inf)
  else
    let (n1, d1) := f64Abs a
    let (n2, d2) := f64Abs b
    f64Sign neg (encodeRat 53 (-1074) 11 (n1 * n2) (d1 * d2))

/-- Division. -/
def f64Div (a b : Nat) : Nat :=
  let neg := f64Neg a != f64Neg b
  if f64IsNan a || f64IsNan b then f64Nan
  else if !f64Finite a then (if f64Finite b then f64Sign neg f64Inf else f64Nan)
  else if !f64Finite b then f64Sign neg 0
  else if f64Mag b = 0 then (if f64Mag a = 0 then f64Nan else f64Sign neg f64Inf)
  else
    let (n1, d1) := f64Abs a
    let (n2, d2) := f64Abs b
    f64Sign neg (encodeRat 53 (-1074) 11 (n1 * d2) (d1 * n2))

/-- Order of patterns that are no NaN. -/
def f64Key (b : Nat) : Int := if f64Neg b then -(f64Mag b : Int) else f64Mag b

/-- a ≤ b, for patterns that are no NaN. -/
def f64Le (a b : Nat) : Bool := f64Key a ≤ f64Key b

/-- The nearest integer of a finite pattern, ties to even. -/
def f64Round (b : Nat) : Int :=
  let (n, d) := f64Rat b
  roundHalfEvenInt n d

/-- A binary32 pattern is a number. -/
def f32Finite (b : Nat) : Bool := b / 2 ^ 23 % 256 != 255

/-- A finite binary32 pattern widened exactly. -/
def f32Widen (b : Nat) : Nat :=
  let ex := b / 2 ^ 23 % 256
  let fr := b % 2 ^ 23
  let m := if ex = 0 then fr else 2 ^ 23 + fr
  let q : Int := (Nat.max ex 1 : Int) - 150
  f64Sign (b.testBit 31) (encodeRat 53 (-1074) 11 (m * (pow2 q).1) (pow2 q).2)

/-- A finite binary64 pattern as binary32, and whether it saturated at the largest finite one (R263). -/
def f64ToF32 (b : Nat) : Nat × Bool :=
  let (n, d) := f64Abs b
  let neg := if f64Neg b then 2 ^ 31 else 0
  if (2 ^ 24 - 1) * 2 ^ 104 * d < n then (neg + 0x7F7FFFFF, true)
  else (neg + encodeRat 24 (-149) 8 n d, false)

end Sys2Proof.Machine
end

