-- ==== Sys2Proof/Machine/Field.lean ====
section
/-!
DEFINITION. The field channels (spec/13): modes, inputs and filters, outputs with their owners, watchdogs and safe states,
paired channels and holds, bank supplies and the field links.
-/
namespace Sys2Proof.Machine
open Sys2Proof

/-- A value the spec leaves open: the next free value, narrowed to a width. -/
def takeFree (w : Nat) (s : State) : Nat × State := (Config.freeValue s.free % 2 ^ w, { s with free := s.free + 1 })

/-- A channel never used. -/
def chanNone : Chan :=
  { cfg := none, value := 0, running := false, wdFrom := 0, wdMs := 0, dead := 0, kept := false, held := false, holdFrom := 0,
    mirror := none, stale := false, changing := false, taken := false, latch := 0, openLoop := false, level := 0, brk := 0,
    conv := [] }

/-- Channel c as its die holds it. -/
def State.chan (s : State) (c : Nat) : Chan :=
  match getKey Prod.fst c s.fld.chans with
  | some p => p.2
  | none => chanNone

/-- Replace it. -/
def State.setChan (s : State) (c : Nat) (x : Chan) : State :=
  { s with fld := { s.fld with chans := putKey Prod.fst (c, x) s.fld.chans } }

/-- The field link to a die is up. -/
def State.dieUp (s : State) (d : Nat) : Bool := if d = 0 then s.on FLD_LINK0_UP.f else s.on FLD_LINK1_UP.f

/-- The die of a channel. -/
def dieOf (c : Nat) : Nat := c / 128

/-- The mode that the core keeps. -/
def State.fmode (s : State) (c : Nat) : Nat := s.rd (FC_MODE.f c)

/-- Time left in ms until an instant of uncorrected time; how a part of a millisecond counts is left open. -/
def State.leftMs (s : State) (ends : Nat) : Nat := (roundOpen (ends - s.clk.up : Nat) 1000000).toNat

/-- The configuration of a channel as the core keeps it, with its times left. -/
def State.coreCfg (s : State) (c : Nat) : DieCfg :=
  let x := s.chan c
  { mode := s.fmode c, kind := s.rd (FC_OWNER_KIND.f c), safe := s.rd (FC_SAFE_LEVEL.f c), keep := s.on (FC_SAFE_LATCH.f c),
    paired := s.on (FC_PAIRED.f c), wdLeft := if x.running then s.leftMs (x.wdFrom + x.wdMs * 1000000) else 0,
    holdLeft := if x.held then s.leftMs (x.holdFrom + s.rd FLD_HOLD_MS.f * 1000000) else 0 }

/-- The configuration that the die works by: while the link is lost, the one it last received (R406). -/
def State.dieCfg (s : State) (c : Nat) : DieCfg :=
  if s.dieUp (dieOf c) then s.coreCfg c else (s.chan c).cfg.getD (s.coreCfg c)

/-- Supply state of a channel's bank. -/
def State.bankState (s : State) (c : Nat) : Nat := s.fld.banks.getD (c / 32) 2

/-- The logic domain of a channel's bank stands below Run (R383). -/
def State.bankAsleep (s : State) (c : Nat) : Bool := s.rd (LAD_Dd_RUNG.f (160 + c / 32)) != 0

/-- The node runs pair-gated functions as the active one (R423, R425, R434). -/
def State.pairActive (s : State) : Bool := !s.on RED_PAIR.f || (s.on RED_ACTIVE.f && !s.on RED_DUAL_ACTIVE.f)

/-- A paired channel (R403). -/
def State.paired (s : State) (c : Nat) : Bool := s.on RED_PAIR.f && (s.dieCfg c).paired

/-- The channel follows the mirror image: a paired channel of a standby that has not taken it over. -/
def State.follows (s : State) (c : Nat) : Bool := s.paired c && !s.pairActive && !(s.chan c).taken

/-- The safe state of R401 in a mode; level 3 is never accepted. -/
def safeValue (mode level : Nat) : Nat :=
  if mode = 5 then (match level with | 1 => 9000 | 2 => 52500 | _ => 0) else (if level = 0 then 0 else 1)

/-- What the die's rules give an output before latches and the bank: the value, and whether it is the safe state (R399 to
R405). -/
def State.asked (s : State) (c : Nat) : Nat × Bool :=
  let x := s.chan c
  let g := s.dieCfg c
  let safe := safeValue g.mode g.safe
  if s.follows c then
    if g.mode = 5 then (0, false)
    else if x.stale then (0, false)
    else match x.dead, x.mirror with
      | 0, some v => (v, false)
      | _, _ => (safe, true)
  else if x.held then (x.mirror.getD safe, false)
  else if g.kind = 0 || !x.running || x.kept || x.dead != 0 then (safe, true)
  else (x.value, false)

/-- An output mode. -/
def outMode (m : Nat) : Bool := m == 3 || m == 5

/-- The level or code at the terminal (R382, R385, R391). -/
def State.terminal (s : State) (c : Nat) : Nat :=
  let x := s.chan c
  if !outMode (s.dieCfg c).mode || x.changing || s.bankState c = 2 || x.latch != 0 then 0 else (s.asked c).1

/-- OPER of a channel (R413). -/
def State.chanOper (s : State) (c : Nat) : Nat :=
  let x := s.chan c
  let out := outMode (s.fmode c)
  if s.fmode c = 0 || x.changing then 0
  else if s.bankAsleep c then 5
  else if x.latch != 0 then 4
  else if !s.dieUp (dieOf c) || s.on (FC_WBREAK.f c) || (out && s.bankState c == 2) then 2
  else if x.held then 6
  else if out && (s.asked c).2 then 2
  else if s.on (FC_COMPLIANCE.f c) || s.on (FC_OPENLOAD.f c) || x.stale then 3
  else 1

/-- OPER of a bank (R413). -/
def State.bankOper (s : State) (b : Nat) : Nat :=
  if (List.range 32).all (fun i => s.fmode (32 * b + i) == 0) then 0
  else if s.bankAsleep (32 * b) then 5
  else match s.fld.banks.getD b 2 with
    | 0 => 1
    | 2 => 2
    | _ => 3

/-- Bring a bank's OPER to its state. -/
def syncBank (b : Nat) (s : State) : State := s.setOper (unitId 8 b) (s.bankOper b)

/-- Bring a channel's terminal to the rules and, over a link that is up, its words. -/
def syncChan (c : Nat) (s : State) : State :=
  let x := s.chan c
  let v := s.terminal c
  let s1 := s.setChan c { x with level := v }
  let s2 := if v != x.level then s1.emit (.pin (.channel c) v) else s1
  if !s.dieUp (dieOf c) then s2
  else
    let on := s.fmode c == 3 && v != 0
    let s3 := if s2.on (FC_OUT_LEVEL.f c) != on then s2.inc (FC_TRANSITIONS.f c) else s2
    let s4 := (((((s3.wrB (FC_OUT_LEVEL.f c) on).wr (FC_LOOP_CMD.f c) (if s.fmode c = 5 && !x.changing then (s.asked c).1 else 0)).wrB (FC_SAFE.f c)
      (outMode (s.fmode c) && !x.changing && (s.asked c).2)).wrB (FC_HOLD.f c) x.held).wrB (FC_LATCHED.f c) (x.latch != 0)).wr
      (FC_LATCH_CAUSE.f c) x.latch
    let s5 := (s4.wrB (FC_WDT_RUN.f c) x.running).wrB (FC_MIRROR_STALE.f c) x.stale
    s5.setOper (unitId 7 c) (s5.chanOper c)

/-- Bring every channel of a list to the rules. -/
def syncChans (l : List Nat) (s : State) : State := l.foldl (fun t c => syncChan c t) s

/-- The channels in an output mode. -/
def State.outputs (s : State) : List Nat := (List.range 256).filter (fun c => outMode (s.fmode c))

/-- `EVT_DATA` of `WATCHDOG_EXPIRED` (R415). -/
def State.wdData (s : State) (c cause : Nat) : List Byte :=
  toBE 1 cause ++ toBE 1 (s.rd (FC_SAFE_LEVEL.f c))
    ++ toBE 4 (if s.rd (FC_OWNER_KIND.f c) = 1 then s.rd (FC_OWNER_SIG.f c) else 0xFFFFFFFF)

/-- `EVT_DATA` of `COMPLIANCE`. -/
def State.complianceData (s : State) (c : Nat) : List Byte :=
  let cmd := s.rd (FC_LOOP_CMD.f c)
  let meas := s.rd (FC_LOOP_MEAS.f c)
  toBE 1 (b2n (s.chan c).openLoop) ++ toBE 2 cmd ++ toBE 2 meas ++ toBE 2 (s.rd (FC_VTERM.f c))
    ++ toBE 1 (b2n (s.on (FC_OPEN_ON_FAULT.f c)))

/-- Raise `OUTPUT_FAULT`. -/
def outputFault (unit cause v : Nat) (cleared : Bool) (s : State) : State :=
  s.raise 0x0704 unit (toBE 1 cause ++ toBE 4 v) cleared

/-- A refresh of an output reaches its die, or a mirror image counts as one (R399, R400, R403). -/
def refreshDie (c : Nat) (s : State) : State :=
  let x := s.chan c
  if x.dead != 0 && !x.kept then
    let s1 := s.setChan c { x with running := true, wdFrom := s.clk.up, wdMs := s.rd (FC_WDT_MS.f c), dead := 0 }
    if s.on (FC_SAFE_LATCH.f c) then s1 else s1.raise 0x0701 (unitId 7 c) (s.wdData c (x.dead - 1)) true
  else s.setChan c { x with running := true, wdFrom := s.clk.up, wdMs := s.rd (FC_WDT_MS.f c) }

/-- The owner of an output writes a value, with `VALID` or without (R399, R403, R405). -/
def ownerWrite (c v : Nat) (valid : Bool) (s : State) : State :=
  if !s.dieUp (dieOf c) || !outMode (s.fmode c) || (s.chan c).changing then s
  else if s.follows c then
    if (s.chan c).mirror != some v then s.inc (FC_MIRROR_DIFF.f c) else s
  else
    let s1 := s.setChan c { s.chan c with value := v }
    if valid then
      let s2 := refreshDie c s1
      syncChan c (s2.setChan c { s2.chan c with held := false })
    else syncChan c s1

/-- A watchdog runs out (R400). -/
def expireWatchdog (c : Nat) (s : State) : State :=
  let x := s.chan c
  if !outMode (s.dieCfg c).mode || !x.running then s
  else
    let s1 := s.setChan c { x with running := false, dead := 1, kept := x.kept || (s.dieCfg c).keep }
    if s.dieUp (dieOf c) then
      ((syncChan c s1).inc (FC_WDT_EXPIRIES.f c)).raise 0x0701 (unitId 7 c) (s.wdData c 0)
    else syncChan c s1

/-- A hold reaches its limit (R405). -/
def expireHold (c : Nat) (s : State) : State :=
  let x := s.chan c
  if !x.held then s
  else
    let s1 := s.setChan c { x with held := false, running := false, dead := 2 }
    if s.dieUp (dieOf c) then
      ((syncChan c s1).inc (FC_WDT_EXPIRIES.f c)).raise 0x0701 (unitId 7 c) (s.wdData c 1)
    else syncChan c s1

/-! Pairing (R403 to R405, R433). -/

/-- A paired output channel passes to active: it enters hold, unless it holds already or is a guarded channel that is
active. -/
def enterHold (c : Nat) (s : State) : State :=
  let x := s.chan c
  if x.taken then syncChan c (s.setChan c { x with taken := false })
  else if x.held then syncChan c s
  else syncChan c (s.setChan c
    { x with held := true, holdFrom := s.clk.up, running := false, dead := 0, stale := false,
             mirror := some (x.mirror.getD x.level) })

/-- A paired output channel passes to standby: it keeps its level until a mirror image arrives. -/
def leaveActive (c : Nat) (s : State) : State :=
  let x := s.chan c
  syncChan c (s.setChan c { x with held := false, taken := false, dead := 0, mirror := some x.level })

/-- Paired channels in an output mode. -/
def State.pairedOutputs (s : State) : List Nat := s.outputs.filter (fun c => s.paired c)

/-- A channel takes its value from a mirror image (R403). -/
def mirrorChan (c v : Nat) (s : State) : State :=
  if !s.follows c then s
  else
    let s1 := refreshDie c s
    syncChan c (s1.setChan c { s1.chan c with mirror := some v, stale := false })

/-- A mirror image of a 32-byte bitmap and loop codes in ascending channel order (R428). -/
def takeMirror (bitmap : List Byte) (codes : List Nat) (s : State) : State :=
  let loops := s.pairedOutputs.filter (fun c => s.fmode c == 5)
  let s1 := (s.pairedOutputs.filter (fun c => s.fmode c == 3)).foldl
    (fun t c => mirrorChan c (b2n (bit (byteAt bitmap (31 - c / 8)) (c % 8))) t) s
  (List.zip loops codes).foldl (fun t p => mirrorChan p.1 p.2 t) s1

/-- The mirror image of this node. -/
def State.mirrorImage (s : State) : List Byte :=
  let outs := s.pairedOutputs
  let loops := outs.filter (fun c => s.fmode c == 5)
  let level (c : Nat) : Bool := s.fmode c == 3 && s.paired c && (s.chan c).level != 0
  let bitmap := (List.range 32).map (fun i => BitVec.ofNat 8
    ((List.range 8).foldl (fun a j => a + (if level ((31 - i) * 8 + j) then 2 ^ j else 0)) 0))
  withTrailer (toBE 2 loops.length ++ bitmap ++ (loops.map (fun c => toBE 2 (s.chan c).level)).foldr (· ++ ·) [])

/-! Configuration (R385, R402, R408). -/

/-- Take a channel off the guarded list (R432). -/
def unguard (c : Nat) (s : State) : State :=
  let f := RED_GUARDED_w.f (c / 64)
  if bit (s.rd f) (c % 64) then
    let s1 := (s.wr f (setBit (s.rd f) (c % 64) false)).wr RED_GUARDED_N.f (s.rd RED_GUARDED_N.f - 1)
    s1.setChan c { s1.chan c with taken := false }
  else s

/-- The channel leaves its old mode and stands off (R385).  A latched fault stays until it is released (R391). -/
def leaveMode (c : Nat) (s : State) : State :=
  s.setChan c { chanNone with changing := true, latch := (s.chan c).latch, openLoop := (s.chan c).openLoop, level := (s.chan c).level }

/-- The new mode is connected (R385). -/
def connectMode (c : Nat) (s : State) : State :=
  let s1 := s.setChan c { chanNone with latch := (s.chan c).latch, openLoop := (s.chan c).openLoop, level := (s.chan c).level }
  let s2 := (((((s1.wr (FC_FILT_CNT.f c) 0).wr (FC_IN_STATE.f c) 0).wr (FC_WBREAK.f c) 0).wr (FC_COMPLIANCE.f c) 0).wr
    (FC_OPENLOAD.f c) 0).wr (FC_LOOP_MEAS.f c) 0
  syncChan c s2

/-- Write a channel's mode. -/
def writeMode (c m : Nat) (s : State) : State :=
  if s.fmode c = m then s
  else
    let s1 := unguard c (s.wr (FC_MODE.f c) m)
    syncBank (c / 32) (if s.dieUp (dieOf c) then syncChan c (leaveMode c s1) else s1)

/-- Write a channel's owner, which the die takes up over a link that is up: a change stops the watchdog, and the output waits for the new owner in its safe state. -/
def writeOwner (c kind sig : Nat) (s : State) : State :=
  if s.rd (FC_OWNER_KIND.f c) = kind && s.rd (FC_OWNER_SIG.f c) = sig then s
  else
    let s1 := (s.wr (FC_OWNER_KIND.f c) kind).wr (FC_OWNER_SIG.f c) sig
    if s.dieUp (dieOf c) then
      syncChan c (s1.setChan c { s1.chan c with value := 0, running := false, dead := 0, kept := false })
    else s1

/-- Write `FC_PAIRED`. -/
def writePaired (c : Nat) (b : Bool) (s : State) : State :=
  if s.on (FC_PAIRED.f c) = b then s
  else
    let s1 := unguard c (s.wrB (FC_PAIRED.f c) b)
    if s.dieUp (dieOf c) then syncChan c s1 else s1

/-- The configuration words +0x00, +0x08 and +0x10 as they stand. -/
def State.fieldWords (s : State) (c : Nat) : Nat × Nat × Nat :=
  (s.fmode c + 8 * s.rd (FC_ITYPE.f c) + 16 * s.rd (FC_PAIRED.f c) + 32 * s.rd (FC_OPEN_ON_FAULT.f c)
    + 64 * s.rd (FC_OL_EN.f c) + 2 ^ 16 * s.rd (FC_FILT_N.f c) + 2 ^ 32 * s.rd (FC_SAMPLE_US.f c)
    + 2 ^ 48 * s.rd (FC_LAVG_LOG2.f c),
   s.rd (FC_OWNER_KIND.f c) + 2 ^ 32 * s.rd (FC_OWNER_SIG.f c), s.rd (FC_OC_TIME.f c))

/-- The configuration words are within their ranges, reserved bits zero (R408). -/
def fieldWordsOk (w0 w1 w2 : Nat) : Bool :=
  bits w0 0 3 ≤ 5 && bits w0 7 9 == 0 && 1 ≤ bits w0 16 16 && 1 ≤ bits w0 32 10 && bits w0 32 10 ≤ 1000 && bits w0 42 6 == 0
    && bits w0 48 4 ≤ 8 && bits w0 52 12 == 0 && bits w1 0 2 ≤ 2 && bits w1 2 30 == 0 && bits w1 50 14 == 0
    && 1 ≤ bits w2 0 10 && bits w2 0 10 ≤ 1000 && bits w2 10 54 == 0

/-- Write the configuration words of a channel. -/
def writeFieldWords (c w0 w1 w2 : Nat) (s : State) : State :=
  let s1 := writeMode c (bits w0 0 3) s
  let s2 := writePaired c (bit w0 4) (s1.wr (FC_ITYPE.f c) (bits w0 3 1))
  let s3 := ((((s2.wr (FC_OPEN_ON_FAULT.f c) (bits w0 5 1)).wr (FC_OL_EN.f c) (bits w0 6 1)).wr (FC_FILT_N.f c)
    (bits w0 16 16)).wr (FC_SAMPLE_US.f c) (bits w0 32 10)).wr (FC_LAVG_LOG2.f c) (bits w0 48 4)
  (writeOwner c (bits w1 0 2) (bits w1 32 18) s3).wr (FC_OC_TIME.f c) (bits w2 0 10)

/-- Write the safety words of a channel (R410): a new safe level applies at once to a channel in its safe state. -/
def writeSafe (c level latch wdt : Nat) (s : State) : State :=
  let s1 := ((s.wr (FC_SAFE_LEVEL.f c) level).wr (FC_SAFE_LATCH.f c) latch).wr (FC_WDT_MS.f c) wdt
  if s.dieUp (dieOf c) then syncChan c s1 else s1

/-! Latches and faults. -/

/-- Latch a fault (R391, R397). -/
def latchFault (c cause : Nat) (s : State) : State :=
  let s1 := syncChan c (s.setChan c { s.chan c with latch := cause })
  if s.dieUp (dieOf c) then s1.inc (FC_FAULT_CNT.f c) else s1

/-- The current limit has engaged for `FC_OC_TIME` (R391). -/
def overcurrent (c : Nat) (s : State) : State :=
  if (s.dieCfg c).mode = 3 && (s.chan c).level != 0 && s.bankState c != 2 && (s.chan c).latch == 0 then
    let s1 := latchFault c 1 s
    if s.dieUp (dieOf c) then
      let (ma, s2) := takeFree 32 s1
      outputFault (unitId 7 c) 0 ma false s2
    else s1
  else s

/-- A switch's temperature sensor trips (R391). -/
def overtemperature (c : Nat) (s : State) : State :=
  if (s.dieCfg c).mode = 3 && (s.chan c).latch == 0 then
    let s1 := latchFault c 2 s
    if s.dieUp (dieOf c) then outputFault (unitId 7 c) 1 0 false s1 else s1
  else s

/-- Open load begins or ends (R392). -/
def openLoad (c : Nat) (open_ : Bool) (s : State) : State :=
  if !s.dieUp (dieOf c) || s.on (FC_OPENLOAD.f c) = open_ then s
  else if open_ && !(s.on (FC_OL_EN.f c) && s.fmode c = 3 && (s.chan c).level != 0 && !s.paired c && s.bankState c != 2) then s
  else
    let (ma, s1) := takeFree 32 (s.wrB (FC_OPENLOAD.f c) open_)
    let s2 := if open_ then s1.inc (FC_FAULT_CNT.f c) else s1
    outputFault (unitId 7 c) 2 ma (!open_) (syncChan c s2)

/-- A demagnetisation clamp ends (R393): its energy in mJ and the bank's average of the last second in mW. -/
def demagnetised (c energy mw : Nat) (s : State) : State :=
  if !s.dieUp (dieOf c) then s
  else
    let s1 := s.wr (FLD_Bb_DEMAG_MW.f (c / 32)) mw
    let s2 := if energy > 150 then outputFault (unitId 7 c) 4 energy false (s1.inc (FC_FAULT_CNT.f c)) else s1
    if mw > 1500 then outputFault (unitId 8 (c / 32)) 3 mw false (s2.inc (FLD_Bb_DEMAG_OVER.f (c / 32))) else s2

/-- A loop output's shortfall has lasted 500 µs, or has stayed within 300 for 10 ms (R396, R397). -/
def compliance (c : Nat) (short : Bool) (s : State) : State :=
  let cmd := s.rd (FC_LOOP_CMD.f c)
  let meas := s.rd (FC_LOOP_MEAS.f c)
  if !s.dieUp (dieOf c) || s.fmode c != 5 || s.on (FC_COMPLIANCE.f c) = short then s
  else if short then
    if meas + 600 < cmd && s.bankState c != 2 then
      let s0 := s.setChan c { s.chan c with openLoop := meas < 250 && 2500 ≤ cmd }
      let data := s0.complianceData c
      let s1 := s0.wr (FC_COMPLIANCE.f c) 1
      let s2 := if s.on (FC_OPEN_ON_FAULT.f c) then latchFault c 3 s1 else syncChan c (s1.inc (FC_FAULT_CNT.f c))
      s2.raise 0x0702 (unitId 7 c) data
    else s
  else if cmd ≤ meas + 300 && (s.chan c).latch != 3 then
    (syncChan c (s.wr (FC_COMPLIANCE.f c) 0)).raise 0x0702 (unitId 7 c) (s.complianceData c) true
  else s

/-- Release every latch of a channel (R411). -/
def clearFaults (c : Nat) (s : State) : State :=
  let x := s.chan c
  let s1 := syncChan c (s.setChan c { x with latch := 0, kept := false })
  let s2 := match x.latch with
    | 1 => outputFault (unitId 7 c) 0 0 true s1
    | 2 => outputFault (unitId 7 c) 1 0 true s1
    | 3 => syncChan c ((s1.wr (FC_COMPLIANCE.f c) 0).raise 0x0702 (unitId 7 c) (s.complianceData c) true)
    | _ => s1
  if x.kept then s2.raise 0x0701 (unitId 7 c) (s.wdData c 0) true else s2

/-! Inputs. -/

/-- Classes of a sample (Table 13-3): 0 low, 1 high, 2 hold, 3 break.  In mode 1 the threshold's side comes with the
sample, whose tolerance the spec gives; in mode 2 the current in µA decides. -/
def sampleClass (mode level : Nat) (current : Int) : Nat :=
  if mode = 1 then (if level = 0 then 0 else 1)
  else if current > 2000 then 1
  else if current ≥ 1600 then 2
  else if current ≥ 300 then 0
  else 3

/-- One sample of a digital input (R387, R388). -/
def inputSample (c level : Nat) (current : Int) (s : State) : State :=
  let m := s.fmode c
  let x := s.chan c
  if !(m = 1 || m = 2) || x.changing || s.bankAsleep c || !s.dieUp (dieOf c) then s
  else
    let n := s.rd (FC_FILT_N.f c)
    let k := sampleClass m level current
    let cnt0 := Nat.min (s.rd (FC_FILT_CNT.f c)) n
    let cnt := if k = 1 then Nat.min (cnt0 + 1) n else if k = 2 then cnt0 else cnt0 - 1
    let was := s.on (FC_IN_STATE.f c)
    let st := if cnt = 0 then false else if cnt = n then true else was
    let s1 := (s.wr (FC_FILT_CNT.f c) cnt).wrB (FC_IN_STATE.f c) st
    let s2 := if st != was then s1.inc (FC_TRANSITIONS.f c) else s1
    if m = 1 then s2
    else
      let b0 := Nat.min x.brk n
      let b := if k = 3 then Nat.min (b0 + 1) n else b0 - 1
      let s3 := s2.setChan c { x with brk := b }
      let wb := s.on (FC_WBREAK.f c)
      let now := if b = n then true else if b = 0 then false else wb
      if now = wb then s3
      else (syncChan c (s3.wrB (FC_WBREAK.f c) now)).raise 0x0703 (unitId 7 c) (toBE 1 2 ++ toBE 2 0) (!now)

/-- One conversion of a loop current, as a code (R395); of a loop output it is the current measured. -/
def loopConversion (c : Nat) (code : Int) (s : State) : State :=
  let m := s.fmode c
  let v := (clampInt 0 65535 code).toNat
  if (s.chan c).changing || !s.dieUp (dieOf c) then s
  else if m = 5 then s.wr (FC_LOOP_MEAS.f c) v
  else if m = 4 && !s.bankAsleep c then
    let conv := (v :: (s.chan c).conv).take (2 ^ s.rd (FC_LAVG_LOG2.f c))
    (s.setChan c { s.chan c with conv := conv }).wr (FC_LOOP_MEAS.f c)
      (roundNearest (conv.foldl (· + ·) 0 : Nat) conv.length).toNat
  else s

/-- A loop input's mean has stayed below code 2,500, or above 5,000, for 10 ms (R395). -/
def loopBreak (c : Nat) (broken : Bool) (s : State) : State :=
  let meas := s.rd (FC_LOOP_MEAS.f c)
  if !s.dieUp (dieOf c) || s.fmode c != 4 || s.on (FC_WBREAK.f c) = broken then s
  else if (broken && meas < 2500) || (!broken && meas > 5000) then
    (syncChan c (s.wrB (FC_WBREAK.f c) broken)).raise 0x0703 (unitId 7 c) (toBE 1 4 ++ toBE 2 meas) (!broken)
  else s

/-- Bit c of the digital image (R389); inputs of a lost die are invalid, and a channel that stands off or whose bank is asleep
counts as off (R383, R385). -/
def State.imageBit (s : State) (c : Nat) : Bool :=
  (s.fmode c == 1 || s.fmode c == 2) && !(s.chan c).changing && !s.bankAsleep c && s.on (FC_IN_STATE.f c) && !s.on (FC_WBREAK.f c)

/-- A channel gives a source failure (R258): off, wire break, link lost, or its bank asleep. -/
def State.chanBad (s : State) (c : Nat) : Bool :=
  s.fmode c == 0 || (s.chan c).changing || s.on (FC_WBREAK.f c) || !s.dieUp (dieOf c) || s.bankAsleep c

/-! Bank supplies (R382). -/

/-- The next supply state of a bank at a measurement in mV.  Between 16.8 V and 17.5 V an `OK` bank stays `OK`, and a
`RELEASED` or `HIGH` bank leaves for the state whose limits hold. -/
def nextBank (st mv : Nat) : Nat :=
  if mv > 36000 then 3
  else if mv < 9000 then 2
  else match st with
    | 0 => if mv < 16800 then 1 else 0
    | 1 => if mv > 17500 then 0 else 1
    | 2 => if mv ≤ 10000 then 2 else if mv ≥ 17500 then 0 else 1
    | _ => if mv ≥ 35000 then 3 else if mv < 16800 then 1 else 0

/-- Cause of `OUTPUT_FAULT` for a supply state. -/
def bankCause (st : Nat) : Nat := match st with | 1 => 5 | 2 => 6 | _ => 7

/-- A bank's channels. -/
def bankChans (b : Nat) : List Nat := (List.range 32).map (fun i => 32 * b + i)

/-- A bank supply measurement. -/
def measureBank (b mv : Nat) (s : State) : State :=
  let st := s.fld.banks.getD b 2
  let st' := nextBank st mv
  let s0 := { s with fld := { s.fld with banks := putAt b st' s.fld.banks } }
  let chans := (bankChans b).filter (fun c => s.fmode c != 0)
  if !s.dieUp (b / 4) then syncChans chans s0
  else
    let s1 := s0.wr (FLD_Bb_VFB_MV.f b) mv
    if st' = st then s1
    else
      let s2 := s1.wr (FLD_Bb_STATE.f b) st'
      let s3 := if st' = 1 then s2.inc (FLD_Bb_LOWS.f b) else if st' = 2 then s2.inc (FLD_Bb_RELEASES.f b) else s2
      let s4 := syncBank b (syncChans chans s3)
      if st' = 0 then outputFault (unitId 8 b) (bankCause st) mv true s4
      else outputFault (unitId 8 b) (bankCause st') mv false s4

/-! Field links (R12, R406). -/

/-- The field link's words in blocks FLD and GLB. -/
def setFieldLink (d : Nat) (up : Bool) (s : State) : State :=
  ((if d = 0 then s.wrB FLD_LINK0_UP.f up else s.wrB FLD_LINK1_UP.f up).wrB (GLB_LINKl_UP.f d) up).setOper
    (unitId 0x0A d) (if up then 1 else 2)

/-- Channels of a die that are not off. -/
def State.dieChans (s : State) (d : Nat) : List Nat :=
  (List.range 128).filterMap (fun i => if s.fmode (128 * d + i) != 0 then some (128 * d + i) else none)

/-- Channels of a die that hold something beside mode off. -/
def State.dieUsed (s : State) (d : Nat) : List Nat :=
  (List.range 128).filterMap (fun i =>
    if s.fmode (128 * d + i) != 0 || s.chan (128 * d + i) != chanNone then some (128 * d + i) else none)

/-- A field link is lost: the die keeps the configuration it holds, every channel of it reports `DOWN`, its words keep their
values. -/
def loseFieldLink (d : Nat) (s : State) : State :=
  if !s.dieUp d then s
  else
    let s0 := (s.dieUsed d).foldl (fun t c => t.setChan c { s.chan c with cfg := some (s.coreCfg c) }) s
    let s1 := (setFieldLink d false s0).inc (GLB_LINKl_LOSS.f d)
    (s1.dieChans d).foldl (fun t c => t.setOper (unitId 7 c) (t.chanOper c)) s1

/-- A field link comes up: the core resends every configuration, and each channel starts as after a mode change. -/
def raiseFieldLink (d : Nat) (s : State) : State :=
  let s1 := setFieldLink d true { s with fld := { s.fld with missed := putAt d 0 s.fld.missed } }
  let s2 := (s1.dieUsed d).foldl (fun t c => connectMode c t) s1
  ((List.range 4).map (fun i => 4 * d + i)).foldl (fun t b =>
    syncBank b (t.wr (FLD_Bb_STATE.f b) (t.fld.banks.getD b 2))) s2

/-- What a good link frame reports of one channel. -/
def takeMeas (m : ChanMeas) (s : State) : State :=
  (s.wrS (FC_VTERM.f m.channel) m.vterm).wrB (FC_LIMITING.f m.channel) m.limiting

/-- The output image a link frame carries to a die: channel and level or code. -/
def State.outputImage (s : State) (d : Nat) : List (Nat × Nat) :=
  (s.outputs.filter (fun c => dieOf c == d)).map (fun c => (c, (s.chan c).level))

end Sys2Proof.Machine
end

