-- ==== Sys2Proof/Machine/Sme.lean ====
section
/-!
DEFINITION. The Signal Map Entry as a function of its bytes (spec/08): extraction (R247), decoding (R248), transforms
(R249), combination of sources (R250), limits (R251), substitution (R252) and the conversions of destinations (R263).
-/
namespace Sys2Proof.Machine
open Sys2Proof

/-- The fields of a record (Table 08-4). -/
structure Sme where
  valid : Bool
  le : Bool
  limitEn : Bool
  limitClamp : Bool
  substMode : Nat
  vtype : Nat
  coding : Nat
  kind : Nat
  width : Nat
  dstCount : Nat
  srcMsg : Nat
  srcOffset : Nat
  stale : Nat
  altMask : Nat
  auxN : Nat
  altRef : Nat
  auxRef : Nat
  subst : Nat
  p0 : Nat
  p1 : Nat
  lo : Nat
  hi : Nat
  deriving DecidableEq, Repr

/-- The record that 64 bytes spell. -/
def smeOf (b : List Byte) : Sme :=
  let f := byteAt b 0
  { valid := bit f 0, le := bit f 1, limitEn := bit f 2, limitClamp := bit f 3, substMode := bits f 4 2, vtype := bits f 6 2,
    coding := byteAt b 1 % 16, kind := byteAt b 1 / 16, width := byteAt b 2, dstCount := byteAt b 3 % 16,
    srcMsg := beAt b 4 4, srcOffset := beAt b 8 2, stale := beAt b 10 2, altMask := byteAt b 12, auxN := byteAt b 13,
    altRef := beAt b 16 3 % 2 ^ 18, auxRef := beAt b 19 3 % 2 ^ 18, subst := beAt b 24 8, p0 := beAt b 32 8, p1 := beAt b 40 8,
    lo := beAt b 48 8, hi := beAt b 56 8 }

/-- n of Table 08-5. -/
def Sme.n (m : Sme) : Nat := if m.kind = 4 then m.auxN else m.auxN % 32

/-- The staleness timeout in ns, 0 when disabled. -/
def staleNs (f : Nat) : Nat :=
  f % 2 ^ 14 * (match f / 2 ^ 14 with | 0 => 100000 | 1 => 10000000 | 2 => 1000000000 | _ => 0)

/-! Signal kinds by the space of the source message. -/

/-- Space of a logical message ID. -/
def msgSpace (m : Nat) : Nat := m / 2 ^ 24

/-- Source in spaces 1, 2 or 5. -/
def Sme.isMessage (m : Sme) : Bool := msgSpace m.srcMsg == 1 || msgSpace m.srcMsg == 2 || msgSpace m.srcMsg == 5
def Sme.isHost (m : Sme) : Bool := msgSpace m.srcMsg == 4
def Sme.isDerived (m : Sme) : Bool := msgSpace m.srcMsg == 6

/-- Records of the transform in the auxiliary block (R246). -/
def Sme.transformRecs (m : Sme) : Nat :=
  match m.kind with
  | 2 => (m.n + 3) / 4
  | 3 => 1
  | 4 => (m.n + 7) / 8
  | _ => 0

/-- Index of the source record and of the destination record. -/
def Sme.srcRec (m : Sme) : Nat := m.auxRef + m.transformRecs
def Sme.dstRec (m : Sme) : Nat := m.auxRef + m.transformRecs + b2n m.isDerived

/-- Length of the auxiliary block. -/
def Sme.auxLen (m : Sme) : Nat := m.transformRecs + b2n m.isDerived + b2n (m.dstCount != 0)

/-! Fields in payloads. -/

/-- Bit b of a payload, least significant bit of each byte first or most significant first. -/
def payloadBit (p : List Byte) (b : Nat) (le : Bool) : Nat :=
  byteAt p (b / 8) / 2 ^ (if le then b % 8 else 7 - b % 8) % 2

/-- extract of R247. -/
def extract (p : List Byte) (o w : Nat) (le : Bool) : Nat :=
  (List.range w).foldl (fun r k => if le then r + payloadBit p (o + k) le * 2 ^ k else 2 * r + payloadBit p (o + k) le) 0

/-- The field lies within the payload. -/
def fieldFits (p : List Byte) (o w : Nat) : Bool := o + w ≤ 8 * p.length

/-- Set one bit of an image. -/
def setPayloadBit (p : List Byte) (b : Nat) (le : Bool) (v : Bool) : List Byte :=
  modifyAt (b / 8) (fun x => BitVec.ofNat 8 (setBit x.toNat (if le then b % 8 else 7 - b % 8) v)) p

/-- Write w bits into an image at bit offset o. -/
def insertField (p : List Byte) (o w : Nat) (le : Bool) (v : Nat) : List Byte :=
  (List.range w).foldl (fun q k => setPayloadBit q (o + k) le (v.testBit (if le then k else w - 1 - k))) p

/-! Values.  x is an exact integer, or a binary64 pattern. -/

/-- A decoded input. -/
inductive Val
  | int (i : Int)
  | flt (bits_ : Nat)
  deriving DecidableEq, Repr

/-- As binary64. -/
def Val.toF64 : Val → Nat
  | .int i => f64OfInt i
  | .flt b => b

/-- A signed 64-bit integer held at the ends of its range. -/
def sat64 (i : Int) : Int := clampInt (-(2 ^ 63)) (2 ^ 63 - 1) i

/-- A decoded input in a value type, as the 64 bits stored; a pattern that is no number stays for the range check. -/
def Val.store (v : Val) (vtype : Nat) : Nat :=
  match v, vtype with
  | .int i, 1 => ofSigned 64 (sat64 i)
  | .flt b, 1 => ofSigned 64 (sat64 (f64Round b))
  | .int i, 2 => ofSigned 64 i
  | .flt b, 2 => b
  | v, _ => v.toF64

/-- A stored value read back as x. -/
def storedVal (vtype v : Nat) : Val :=
  match vtype with
  | 0 => .flt v
  | 1 => .int (toSigned 64 v)
  | _ => .int v

/-- The decimal number of the 4-bit groups of r; none when a group is above 9. -/
def bcdOf : Nat → Nat → Option Nat
  | 0, _ => some 0
  | k + 1, r => match bcdOf k (r / 16) with
    | some hi => if r % 16 ≤ 9 then some (hi * 10 + r % 16) else none
    | none => none

/-- x from the raw field (Table 08-7); none is a decode failure. -/
def decodeField (coding w r : Nat) : Option Val :=
  match coding with
  | 0 => some (.int r)
  | 1 => some (.int (toSigned w r))
  | 2 => if f32Finite r then some (.flt (f32Widen r)) else none
  | 3 => if f64Finite r then some (.flt r) else none
  | 4 => (bcdOf (w / 4) r).map (fun n => Val.int n)
  | 5 => some (.int (b2n (r != 0)))
  | 6 => some (.int r)
  | _ => none

/-! Transforms. -/

/-- Points of kind 0x2: x and y patterns. -/
def pointsOf (n : Nat) (recs : List (List Byte)) : List (Nat × Nat) :=
  (List.range n).map (fun i => let b := recs.getD (i / 4) []
    (beAt b (16 * (i % 4)) 8, beAt b (16 * (i % 4) + 8) 8))

/-- Piecewise-linear over points (R249). -/
def piecewise (pts : List (Nat × Nat)) (x : Nat) : Nat :=
  match pts with
  | [] => f64Nan
  | p0 :: _ =>
    let last := pts.getLastD p0
    if f64Le x p0.1 then p0.2
    else if f64Le last.1 x then last.2
    else
      let i := ((List.range pts.length).filter (fun j => f64Le (pts.getD j p0).1 x)).getLastD 0
      let a := pts.getD i p0
      let b := pts.getD (i + 1) p0
      f64Add a.2 (f64Div (f64Mul (f64Sub x a.1) (f64Sub b.2 a.2)) (f64Sub b.1 a.1))

/-- Bit remap (R249). -/
def remap (m : List Byte) (r : Nat) : Nat :=
  (List.range 64).foldl (fun y j =>
    let c := byteAt m j
    let v := if c = 0xFF then false else if c = 0xFE then true else (r.testBit (c % 64)) != bit c 6
    y + b2n v * 2 ^ j) 0

/-- A value equals an integer exactly. -/
def Val.equalsInt (x : Val) (c : Int) : Bool :=
  match x with
  | .int i => i == c
  | .flt b => f64Le (f64OfInt c) b && f64Le b (f64OfInt c)

/-- Enumeration table (R249): none when no code equals x. -/
def enumLookup (n : Nat) (recs : List (List Byte)) (x : Val) : Option Int :=
  ((List.range n).find? (fun i => x.equalsInt (beAt (recs.getD (i / 8) []) (8 * (i % 8)) 4))).map
    (fun i => toSigned 32 (beAt (recs.getD (i / 8) []) (8 * (i % 8) + 4) 4))

/-- What an evaluation comes to. -/
inductive Eval
  | good (y : Nat) (limited degraded : Bool)
  /-- Failure, by its cause bit of Table 08-9b: 6 decode, 7 range, 8 safety, 9 source. -/
  | fail (cause : Nat)
  | mapFault
  deriving DecidableEq, Repr

/-- The transform of a single x (R249); `raw` is the raw field or the source's pattern. -/
def transform (m : Sme) (recs : List (List Byte)) (x : Val) (raw : Nat) : Option Nat :=
  match m.kind with
  | 0 => some (if m.vtype = 2 then raw else x.store m.vtype)
  | 1 => some (f64Add (f64Mul x.toF64 m.p0) m.p1)
  | 2 => some (piecewise (pointsOf m.n recs) x.toF64)
  | 3 => some (remap (recs.getD 0 []) raw)
  | 4 => (enumLookup m.n recs x).map (ofSigned 64)
  | _ => none

/-- Order of two stored values in a value type. -/
def valueLe (vtype a b : Nat) : Bool := if vtype = 1 then toSigned 64 a ≤ toSigned 64 b else f64Le a b

/-- Finiteness and limits of a result (R249, R251). -/
def limitCheck (m : Sme) (y : Nat) (degraded : Bool) : Eval :=
  if m.vtype = 0 && !f64Finite y then .fail 7
  else if !m.limitEn then .good y false degraded
  else if valueLe m.vtype m.lo y && valueLe m.vtype y m.hi then .good y false degraded
  else if m.limitClamp then .good (if valueLe m.vtype m.lo y then m.hi else m.lo) true degraded
  else .fail 7

/-! Sources of derived signals (R250). -/

/-- A source as a combining kind sees it: usable or not, its value as binary64, its pattern, its time. -/
structure Src where
  usable : Bool
  f64 : Nat
  pattern : Nat
  vtype : Nat
  time : Nat
  deriving DecidableEq, Repr

/-- Insert a source by value. -/
def insertSrc (x : Src) : List Src → List Src
  | [] => [x]
  | y :: l => if f64Le y.f64 x.f64 then y :: insertSrc x l else x :: y :: l

/-- Sources in ascending value. -/
def sortSrc (l : List Src) : List Src := l.foldl (fun s x => insertSrc x s) []

/-- Vote, minimum or maximum (R250): the source chosen and whether the result is degraded; none is a source failure. -/
def combine (m : Sme) (srcs : List Src) : Option (Src × Bool) :=
  let us := srcs.filter (fun s => s.usable)
  if m.kind = 5 then
    match sortSrc us, us with
    | [l, mid, h], _ =>
      let a := f64Le (f64Sub mid.f64 l.f64) m.p0
      let b := f64Le (f64Sub h.f64 mid.f64) m.p0
      if a || b then some (mid, !(a && b)) else none
    | [l, h], first :: _ => if f64Le (f64Sub h.f64 l.f64) m.p0 then some (first, true) else none
    | _, _ => none
  else if us.length < Nat.max 1 (m.auxN / 32) then none
  else
    let sorted := sortSrc us
    match (if m.kind = 6 then sorted.head? else sorted.getLast?) with
    | some s => some (s, us.length < m.n)
    | none => none

/-! Destinations (R262, R263). -/

/-- A destination entry (Table 08-10). -/
structure Dest where
  kind : Nat
  coding : Nat
  le : Bool
  width : Nat
  offset : Nat
  target : Nat
  deriving DecidableEq, Repr

/-- The destinations of a record's destination list. -/
def destsOf (count : Nat) (b : List Byte) : List Dest :=
  (List.range (Nat.min count 8)).map (fun i =>
    let k := byteAt b (8 * i)
    { kind := k % 16, coding := bits k 4 3, le := bit k 7, width := byteAt b (8 * i + 1), offset := beAt b (8 * i + 2) 2,
      target := beAt b (8 * i + 4) 4 })

/-- A stored value rounded to an integer, ties to even. -/
def storedInt (vtype v : Nat) : Int :=
  match vtype with
  | 0 => f64Round v
  | 1 => toSigned 64 v
  | _ => v

/-- Hold an integer in a range, and whether it had to be. -/
def clampFlag (lo hi i : Int) : Int × Bool := (clampInt lo hi i, i < lo || hi < i)

/-- The digits of a number in 4-bit groups. -/
def toBcd : Nat → Nat → Nat
  | 0, _ => 0
  | k + 1, n => toBcd k (n / 10) * 16 + n % 10

/-- The w bits that a destination of an encoding takes from a stored value, and whether it saturated. -/
def convert (coding w vtype v : Nat) : Nat × Bool :=
  let top : Int := (2 ^ w : Nat)
  if vtype = 2 && (coding = 0 || coding = 6) then (v % 2 ^ w, false)
  else match coding with
    | 1 => let r := clampFlag (-(2 ^ (w - 1) : Nat)) ((2 ^ (w - 1) : Nat) - 1) (storedInt vtype v)
           (ofSigned w r.1, r.2)
    | 2 => match storedVal vtype v with
      | .int i => ((if i < 0 then 2 ^ 31 else 0) + encodeRat 24 (-149) 8 i.natAbs 1, false)
      | .flt b => f64ToF32 b
    | 3 => (if vtype = 1 then f64OfInt (toSigned 64 v) else v, false)
    | 4 => let r := clampFlag 0 ((10 ^ (w / 4) : Nat) - 1) (storedInt vtype v)
           (toBcd (w / 4) r.1.toNat, r.2)
    | 5 => (b2n (if vtype = 0 then f64Mag v != 0 else v != 0), false)
    | _ => let r := clampFlag 0 (top - 1) (storedInt vtype v)
           (r.1.toNat, r.2)

/-- A stored value is not zero. -/
def storedNonzero (vtype v : Nat) : Bool := if vtype = 0 then f64Mag v != 0 else v != 0

/-! The safety trailer (R259, R260). -/

/-- Trailer of a payload: sequence, and whether the CRC holds. -/
def safetyTrailer (id : Nat) (p : List Byte) : Nat × Bool :=
  let n := p.length
  (beAt p (n - 8) 4, crcSafety (toBE 4 id ++ p.take (n - 4)) == beAt p (n - 4) 4)

/-- The outcome of the check of Table R260: 0 accepted, 1 CRC, 2 sequence failure, 3 repeat, 4 length; with the new S. -/
def safetyCheck (d : MsgDesc) (s : Option Nat) (p : List Byte) : Nat × Option Nat :=
  if p.length < 8 then (4, s)
  else
    let (q, ok) := safetyTrailer d.safetyId p
    if !ok then (1, s)
    else match s with
      | none => (0, some q)
      | some x =>
        let delta := (q + 2 ^ 32 - x) % 2 ^ 32
        if delta = 0 then (3, s)
        else if delta ≤ d.window then (0, some q)
        else (2, some q)

/-- The payload of a release with its trailer (R261): the last 8 bytes carry sequence and CRC. -/
def withSafety (id seq : Nat) (img : List Byte) : List Byte :=
  let body := img.take (img.length - 8) ++ toBE 4 seq
  body ++ toBE 4 (crcSafety (toBE 4 id ++ body))

end Sys2Proof.Machine
end

