-- ==== Sys2Proof/Machine/Mapping.lean ====
section
/-!
DEFINITION. Messages, records and bindings (spec/08): logical message IDs (R238), descriptors (R239), the resolution of
binding rules (R242), the record of a profile (R266) and the checks a record passes (R269).
-/
namespace Sys2Proof.Machine
open Sys2Proof

/-! The publish layouts (Table 09-3) as their words hold them. -/

/-- Word w of layout 128u + k. -/
def State.layoutWord (s : State) (l w : Nat) : Nat := s.rd (STL_PLu_k_Ww.f (l / 128) (l % 128) w)

/-- A layout is valid. -/
def State.layoutOn (s : State) (l : Nat) : Bool := bit (s.layoutWord l 0) 0

def State.layoutMsg (s : State) (l : Nat) : Nat := bits (s.layoutWord l 0) 32 32
def State.layoutSize (s : State) (l : Nat) : Nat := bits (s.layoutWord l 0) 16 16
def State.layoutMode (s : State) (l : Nat) : Nat := bits (s.layoutWord l 0) 8 2
def State.layoutSafety (s : State) (l : Nat) : Bool := bit (s.layoutWord l 0) 15
def State.layoutTrigger (s : State) (l : Nat) : Nat := bits (s.layoutWord l 1) 32 32
def State.layoutOffset (s : State) (l : Nat) : Nat := bits (s.layoutWord l 1) 0 32
def State.layoutSafetyId (s : State) (l : Nat) : Nat := bits (s.layoutWord l 2) 32 32

/-- Every valid layout. -/
def State.layouts (s : State) : List Nat :=
  ((List.range 32).filter (fun u => s.rd (STL_PUBu_LAYOUTS.f u) != 0)).foldr
    (fun u acc => ((List.range 128).map (fun k => 128 * u + k)).filter (fun l => s.layoutOn l) ++ acc) []

/-- The layout that describes a message. -/
def State.layoutOf (s : State) (msg : Nat) : Option Nat := s.layouts.find? (fun l => s.layoutMsg l == msg)

/-! Message IDs (R238, R316, R317, R339). -/

/-- Port byte and message number of space 0x01. -/
def portOf (m : Nat) : Nat := bits m 16 8
def numOf (m : Nat) : Nat := m % 2 ^ 16

/-- The table entry of controller c under an MVB address, of the role asked. -/
def State.mvbEntry (s : State) (c addr : Nat) (source : Bool) : Option Nat :=
  (List.range 1024).find? (fun i => s.on (MP_VALID.f c i) && s.rd (MP_ADDR.f c i) == addr && s.on (MP_SOURCE.f c i) == source)

/-- The entry of a CAN controller that a message number names, of the direction asked. -/
def State.canEntry (s : State) (k m : Nat) (tx : Bool) : Option Nat :=
  if m < 0x800 then
    (List.range 128).find? (fun i => s.on (CM_VALID.f k i) && !s.on (CM_IDE.f k i) && s.rd (CM_ID.f k i) == m
      && s.on (CM_TX.f k i) == tx)
  else if 0x8000 ≤ m && m < 0x8080 then
    (let i := m - 0x8000
     if s.on (CM_VALID.f k i) && s.on (CM_IDE.f k i) && s.on (CM_TX.f k i) == tx then some i else none)
  else none

/-- The entry of a serial port under a message number, of the direction asked. -/
def State.serEntry (s : State) (p m : Nat) (tx : Bool) : Option Nat :=
  if m < 64 && s.on (SE_VALID.f p m) && s.on (SE_TX.f p m) == tx then some m else none

/-- A message of space 0x01 names a port and a number that exist, in the direction asked. -/
def State.portMsgOk (s : State) (m : Nat) (dest : Bool) : Bool :=
  let p := portOf m
  let n := numOf m
  if p < 16 then false
  else if p < 80 then (if dest then (match getKey Prod.fst n s.net.egress with | some e => e.2.valid | none => false) else true)
  else if p < 88 then p % 2 == 0 && n < 4096 && (s.mvbEntry ((p - 80) / 2) n dest).isSome
  else if p = 88 then (if dest then n == 0 else 1 ≤ n && n ≤ 63)
  else if p < 92 then false
  else if p < 104 then (s.canEntry (p - 92) n dest).isSome
  else if p < 116 then (s.serEntry (p - 104) n dest).isSome
  else false

/-- An ID that may be a source. -/
def State.srcMsgOk (s : State) (m : Nat) : Bool :=
  match msgSpace m with
  | 1 => s.portMsgOk m false
  | 2 => true
  | 4 => bits m 16 8 == 0
  | 5 => m % 2 ^ 24 ≤ 1
  | 6 => bits m 16 8 == 0
  | _ => false

/-- The size in bytes of a destination message, and whether it is safety-coded; none when it cannot be a destination. -/
def State.destSize (s : State) (m : Nat) : Option (Nat × Bool) :=
  let lay := s.layoutOf m
  let safe := match lay with | some l => s.layoutSafety l | none => false
  match msgSpace m with
  | 1 => match s.portMsgOk m true, lay with
    | true, some l => some (s.layoutSize l, safe)
    | _, _ => none
  | 3 =>
    if bits m 16 8 != 0 then none
    else
      let ds := match getKey Prod.fst (s.rd HST_CLASS.f) s.hst.demands with | some p => p.2 | none => []
      (ds.find? (fun d => d.msg == numOf m)).map (fun d => (d.len - 66, safe))
  | _ => none

/-! Descriptors and bindings. -/

/-- A bank of the binding. -/
def State.bindBank (s : State) (b : Bool) : BindBank := if b then s.sig.bindB else s.sig.bindA

/-- The active bank. -/
def State.binding (s : State) : BindBank := s.bindBank s.sig.bank

/-- The descriptor of a message in a bank. -/
def BindBank.descOf (b : BindBank) (m : Nat) : Option MsgDesc := b.descs.find? (fun d => d.msg == m)

/-- The descriptor whose range covers an index. -/
def BindBank.covering (b : BindBank) (i : Nat) : Option MsgDesc :=
  b.descs.find? (fun d => d.first ≤ i && i < d.first + d.count)

/-- The node a rule resolves to in a directory (R242), 0 when unbound. -/
def resolveRule (dir : List DirRec) (own : Nat) (r : BindRule) : Nat :=
  let l := (dir.filter (fun x => x.kind == 0 && x.node != 0 && !bit x.flags 5)).foldl
    (fun acc x => putKey (fun y => y.node) x acc) []
  let of_ := l.filter (fun x => x.cls == r.cls)
  let dist (x : DirRec) : Nat := if x.node < own then own - x.node else x.node - own
  let found : Option DirRec := match r.kind with
    | 1 => l.find? (fun x => x.uid == r.uid)
    | 2 => if r.ordinal = 0 then none else of_[r.ordinal - 1]?
    | 3 => if r.ordinal = 0 then none else of_.reverse[r.ordinal - 1]?
    | 4 => (of_.filter (fun x => x.node != own)).foldl (fun best x => match best with
      | none => some x
      | some y => if dist x < dist y then some x else some y) none
    | 5 => match l.find? (fun x => x.node == own) with
      | some me => l.find? (fun x => x.vehId == me.vehId && x.node != own)
      | none => none
    | 6 => l.find? (fun x => x.hops == 0)
    | _ => none
  match found with
  | some x => if x.node = own then 0 else x.node
  | none => 0

/-- Bring `SIG_RULE_NODE`, `SIG_RULES_UNBOUND` and the descriptor counts to the active bank. -/
def syncBinding (s : State) : State :=
  let b := s.binding
  let s1 := (List.range 256).foldl (fun t i => t.wr (SIG_RULE_NODE.f (i / 8) (i % 8)) (b.nodes.getD i 0)) s
  let unbound := ((List.zip s.sig.rules (List.range s.sig.rules.length)).filter
    (fun (x : BindRule × Nat) => x.1.kind != 0 && b.nodes.getD x.2 0 == 0)).length
  ((s1.wr SIG_RULES_UNBOUND.f unbound).wr SIG_DESCRIPTORS.f b.descs.length).wr SIG_SIGNALS.f
    ((b.descs.map (fun d => d.count)).foldl (· + ·) 0)

/-- The rule that a message ID of the train names (R241). -/
def msgRule (m : Nat) : Option Nat := if msgSpace m = 2 then some (bits m 16 8) else none

/-- A binding flip (R260): a safety descriptor whose rule's node differs from that of the bank before becomes unsynchronised, and
so does one that the bank in force does not hold. -/
def unsyncSafety (before : BindBank) (s : State) : State :=
  let b := s.binding
  let moved (m : Nat) : Bool := match msgRule m with
    | some k => before.nodes.getD k 0 != b.nodes.getD k 0
    | none => false
  let keeps (m : Nat) : Bool := !moved m && (match b.descOf m with | some d => d.safety | none => false)
  { s with sig := { s.sig with safety := s.sig.safety.map (fun p => if keeps p.1 then p else (p.1, none, p.2.2)) } }

/-! Records. -/

/-- A record of the map table. -/
def State.record (s : State) (i : Nat) : List Byte :=
  match getKey Prod.fst i s.sig.map with
  | some p => p.2
  | none => zeros 64

/-- Set a record; one that is all zero is not listed. -/
def State.setRecord (s : State) (i : Nat) (b : List Byte) : State :=
  let m := dropKey Prod.fst i s.sig.map
  { s with sig := { s.sig with map := if b.all (· == 0#8) then m else putKey Prod.fst (i, b) m } }

/-- The index of the record that a profile uses for a signal (R266). -/
def State.recordIndex (s : State) (i p : Nat) : Nat :=
  let m := smeOf (s.record i)
  if p = 0 || !bit m.altMask p then i else m.altRef + popcount p m.altMask

/-- The transform records of an entry's auxiliary block. -/
def State.auxRecs (s : State) (m : Sme) : List (List Byte) := (List.range m.transformRecs).map (fun k => s.record (m.auxRef + k))

/-- Source signals of a derived signal, in the order listed. -/
def State.sourcesOf (s : State) (m : Sme) : List Nat :=
  let r := s.record m.srcRec
  let n := if m.kind ≤ 4 then 1 else m.n
  (List.range (Nat.min n 8)).map (fun k => beAt r (4 * k) 4 % 2 ^ 18)

/-- Destinations of an entry. -/
def State.destsOf (s : State) (m : Sme) : List Dest :=
  if m.dstCount = 0 then [] else Sys2Proof.Machine.destsOf m.dstCount (s.record m.dstRec)

/-! The checks of R269. -/

/-- Widths of an encoding (Table 08-7). -/
def widthOk (coding w : Nat) : Bool :=
  match coding with
  | 0 => 1 ≤ w && w ≤ 64
  | 1 => 2 ≤ w && w ≤ 64
  | 2 => w == 32
  | 3 => w == 64
  | 4 => 4 ≤ w && w ≤ 64 && w % 4 == 0
  | 5 => 1 ≤ w && w ≤ 64
  | 6 => 1 ≤ w && w ≤ 32
  | _ => false

/-- Encodings that a kind takes (Table 08-5). -/
def codingOk (kind coding : Nat) : Bool :=
  match kind with
  | 0 => coding ≤ 6
  | 1 => coding ≤ 4
  | 2 => coding ≤ 4
  | 3 => coding == 0 || coding == 5 || coding == 6
  | 4 => coding == 0 || coding == 6
  | _ => coding == 0

/-- Value types that a kind takes. -/
def vtypeOk (kind vtype : Nat) : Bool :=
  match kind with
  | 0 => vtype ≤ 2
  | 1 => vtype == 0
  | 2 => vtype == 0
  | 3 => vtype == 2
  | 4 => vtype == 1
  | _ => vtype ≤ 1

/-- `SM_AUX_N` fits its kind. -/
def auxNOk (kind n : Nat) : Bool :=
  match kind with
  | 2 => 2 ≤ n && n ≤ 16
  | 4 => 1 ≤ n && n ≤ 64
  | 5 => n == 3
  | 6 => 2 ≤ n % 32 && n % 32 ≤ 8
  | 7 => 2 ≤ n % 32 && n % 32 ≤ 8
  | _ => n == 0

/-- The points of kind 0x2 stand in strictly ascending x. -/
def ascending : List (Nat × Nat) → Bool
  | a :: b :: l => f64Le a.1 b.1 && !f64Le b.1 a.1 && ascending (b :: l)
  | _ => true

/-- The transform records of the auxiliary block fit Table 08-6. -/
def State.transformOk (s : State) (m : Sme) : Bool :=
  let recs := s.auxRecs m
  match m.kind with
  | 2 => ascending (pointsOf m.n recs) && (pointsOf m.n recs).all (fun p => f64Finite p.1 && f64Finite p.2)
  | 3 => (recs.getD 0 []).all (fun b => b.toNat ≥ 0xFE || b.toNat < 0x80)
  | _ => true

/-- The source record fits Table 08-6. -/
def State.sourceOk (s : State) (m : Sme) : Bool :=
  let r := s.record m.srcRec
  let n := if m.kind ≤ 4 then 1 else m.n
  !m.isDerived || ((List.range 8).all (fun k => if k < n then beAt r (4 * k) 4 < 2 ^ 18 else beAt r (4 * k) 4 == 0xFFFFFFFF)
    && (r.drop 32).all (· == 0#8))

/-- A destination entry has a form of Table 08-10. -/
def destForm (d : Dest) : Bool :=
  match d.kind with
  | 1 => widthOk d.coding d.width
  | 2 => d.coding == 0 && !d.le && d.width == 0 && d.target < 256
  | 3 => d.coding == 0 && !d.le && d.width == 0
  | 4 => d.coding == 0 && d.width == 1
  | _ => false

/-- A destination entry fits Table 08-10 and its target (check 4 of R269). -/
def State.destOk (s : State) (d : Dest) : Bool :=
  destForm d && (match d.kind with
  | 2 => true
  | 3 => (match s.binding.covering d.target with | some x => msgSpace x.msg == 6 | none => false)
  | _ => (match s.destSize d.target with
    | some (n, safe) => d.offset + d.width ≤ 8 * (n - (if safe then 8 else 0))
    | none => false))

/-- The checks 3 of R269 on a record, each with the byte offset of its field, in ascending order. -/
def State.smeChecks (s : State) (b : List Byte) (alt : Bool) : List (Nat × Bool) :=
  let m := smeOf b
  let message := m.isMessage
  let auxEmpty := m.auxLen = 0
  let rsv (i n : Nat) : Bool := beAt b i n == 0
  [ (0, m.substMode ≤ 2 && m.vtype ≤ 2 && vtypeOk m.kind m.vtype && !(m.vtype == 2 && m.limitEn)),
    (1, (if message then m.kind ≤ 4 && codingOk m.kind m.coding else if m.isHost then m.kind == 0 && m.coding == 0
      else m.kind ≤ 7 && m.coding == 0)),
    (2, if message then widthOk m.coding m.width else m.width == 0),
    (3, m.dstCount ≤ 8 && byteAt b 3 < 16),
    (4, s.srcMsgOk m.srcMsg),
    (10, m.stale / 2 ^ 14 != 3),
    (12, !bit m.altMask 0 && (!alt || m.altMask == 0)),
    (13, auxNOk m.kind m.auxN),
    (14, rsv 14 2),
    (16, beAt b 16 3 < 2 ^ 18 && (m.altMask != 0 || m.altRef == 0) && m.altRef + popcount 8 m.altMask ≤ 2 ^ 18),
    (19, beAt b 19 3 < 2 ^ 18 && (!auxEmpty || m.auxRef == 0) && m.auxRef + m.auxLen ≤ 2 ^ 18 && s.transformOk m
      && s.sourceOk m),
    (22, rsv 22 2),
    (24, m.vtype != 0 || f64Finite m.subst),
    (32, if m.kind == 1 then f64Finite m.p0 else if m.kind == 5 then f64Finite m.p0 && (!f64Neg m.p0 || f64Mag m.p0 == 0)
      else m.p0 == 0),
    (40, if m.kind == 1 then f64Finite m.p1 else m.p1 == 0),
    (56, !m.limitEn || valueLe m.vtype m.lo m.hi) ]

/-- The byte offset of the first failing field of a record, check 3 before check 4. -/
def State.smeFault (s : State) (b : List Byte) (alt : Bool) : Option Nat :=
  match (s.smeChecks b alt).find? (fun c => !c.2) with
  | some c => some c.1
  | none => if (s.destsOf (smeOf b)).all s.destOk then none else some 19

/-- A record is malformed at run time (R270): its own fields, its auxiliary block or the form of a destination. -/
def State.malformed (s : State) (b : List Byte) (alt : Bool) : Bool :=
  !(s.smeChecks b alt).all (fun c => c.2) || !(s.destsOf (smeOf b)).all destForm

/-- The record ri that a profile uses for signal i cannot be read, itself, its primary or a record of its auxiliary block, or is
malformed; an alternative is malformed too when its source is not its primary's (R266, R270). -/
def State.mapBad (s : State) (i ri : Nat) : Bool :=
  let b := s.record ri
  let m := smeOf b
  let lost (k : Nat) : Bool := s.sig.mapFaults.contains k
  lost i || lost ri || (m.valid && ((List.range m.auxLen).any (fun k => lost (m.auxRef + k)) || s.malformed b (ri != i)
    || m.srcMsg != (smeOf (s.record i)).srcMsg))

/-! Fan-out (R291). -/

/-- Indices of the records that any profile uses for a signal. -/
def State.recordsOf (s : State) (i : Nat) : List Nat :=
  let m := smeOf (s.record i)
  i :: (List.range (popcount 8 m.altMask)).map (fun k => m.altRef + k)

/-- The layouts that signals can write, their derived follow-ons included, down to a number of levels. -/
def State.fanout (s : State) : Nat → List Nat → List Nat
  | 0, _ => []
  | n + 1, signals =>
    let dests := (signals.map (fun i => ((s.recordsOf i).map (fun r => s.destsOf (smeOf (s.record r)))).foldr (· ++ ·) [])).foldr
      (· ++ ·) []
    let here := dests.filterMap (fun d => if d.kind = 1 || d.kind = 4 then s.layoutOf d.target else none)
    let next := dests.filterMap (fun d => if d.kind = 3 then some d.target else none)
    (here ++ (if next.isEmpty then [] else s.fanout n next)).eraseDups

/-- The signals of an index range that have a record. -/
def State.signalsIn (s : State) (first count : Nat) : List Nat :=
  (s.sig.map.filter (fun p => first ≤ p.1 && p.1 < first + count)).map Prod.fst

/-- The fan-out of a descriptor: levels 0 to 4. -/
def State.fanoutOf (s : State) (d : MsgDesc) : List Nat := s.fanout 5 (s.signalsIn d.first d.count)

end Sys2Proof.Machine
end

