-- ==== Sys2Proof/Machine/Release.lean ====
section
/-!
DEFINITION. Where a publish release goes (R292): to the slot of its demand, to an Ethernet port through the egress header
table (R317), or to the transmit image or queue of a legacy controller (R343, R357, R361).
-/
namespace Sys2Proof.Machine
open Sys2Proof

/-! Legacy controllers. -/

/-- The transmit image of a port and message number. -/
def State.txImage (s : State) (port msg : Nat) : Option TxImage :=
  s.leg.images.find? (fun i => i.port == port && i.msg == msg)

/-- Put a transmit image in place of the one before. -/
def State.setTxImage (s : State) (x : TxImage) : State :=
  let rest := s.leg.images.filter (fun i => i.port != x.port || i.msg != x.msg)
  { s with leg := { s.leg with images := x :: rest } }

/-- Drop the transmit images that meet a condition. -/
def State.dropImages (s : State) (p : TxImage → Bool) : State :=
  { s with leg := { s.leg with images := s.leg.images.filter (fun i => !p i) } }

/-- A serial port's queue, oldest first. -/
def State.serQueue (s : State) (port : Nat) : List SerFrame := s.leg.serial.filter (fun f => f.port == port)

/-- The node transmits on a pair-gated controller: ungated, or active (R426). -/
def State.gateOpen (s : State) (gated : Bool) : Bool := !gated || s.pairActive

/-- A CAN controller is gated by this pair member. -/
def State.canGated (s : State) (k : Nat) : Bool := s.on RED_PAIR.f && bit (s.rd RED_GATE_CAN.f) k

/-- A serial port is. -/
def State.serGated (s : State) (x : Nat) : Bool := s.on RED_PAIR.f && bit (s.rd RED_GATE_SER.f) x

/-- Empty the queues of serial ports, counting what is dropped (R24, R426). -/
def dropSerial (p : Nat → Bool) (s : State) : State :=
  (s.leg.serial.filter (fun f => p (f.port - 104))).foldl (fun t f => t.inc (LEG_SERs_TXQ_DROP.f (f.port - 104)))
    { s with leg := { s.leg with serial := s.leg.serial.filter (fun f => !p (f.port - 104)) } }

/-- An MVB controller with pair behaviour on a pair member (R349). -/
def State.mvbGated (s : State) (c : Nat) : Bool := s.on RED_PAIR.f && s.on (LEG_MVBc_PAIR.f c)

/-- The WTB node is gated by this pair member (R426). -/
def State.wtbGated (s : State) : Bool := s.on RED_PAIR.f && s.on RED_GATE_WTB.f

/-- The foreign table empties (R352). -/
def clearForeign (s : State) : State :=
  ((List.range 63).foldl (fun t i =>
    (((t.wr (LEG_WTB_FNk_VALID.f (i + 1)) 0).wr (LEG_WTB_FNk_ADDR.f (i + 1)) 0).wr (LEG_WTB_FNk_INV.f (i + 1)) 0).wr
      (LEG_WTB_FNk_KEY.f (i + 1)) 0) s).wr LEG_WTB_FOREIGN.f 0

/-- The WTB node is off: no part in the WTB, no foreign table. -/
def wtbStop (s : State) : State :=
  (((((clearForeign s).wr LEG_WTB_STATE.f 0).wr LEG_WTB_MASTER.f 0).wr LEG_WTB_END_NODE.f 0).wr LEG_WTB_NODES.f 0).wr
    LEG_WTB_OTHERSIDE.f 0

/-- Hand a release to the transmit image of a legacy message, or to its queue; it wakes the port's domain (R27). -/
def releaseLegacy (msg : Nat) (bytes : List Byte) (s0 : State) : State :=
  let p := portOf msg
  let s := wakeLegacy [p] s0
  let m := numOf msg
  let over_ := match s.txImage p m with | some i => i.unsent | none => false
  let set (t : State) : State := t.setTxImage { port := p, msg := m, bytes := bytes, unsent := true, since := t.clk.up }
  if p < 88 then
    set (if over_ then s.inc (LEG_MVBc_OVERWRITE.f ((p - 80) / 2)) else s)
  else if p < 92 then set s
  else if p < 104 then
    let k := p - 92
    if s.gateOpen (s.canGated k) then set (if over_ then s.inc (LEG_CANk_OVERWRITE.f k) else s) else s
  else
    let x := p - 104
    if !s.gateOpen (s.serGated x) || (s.serQueue p).length ≥ 8 then s.inc (LEG_SERs_TXQ_DROP.f x)
    else { s with leg := { s.leg with serial := s.leg.serial ++ [{ port := p, entry := m, bytes := bytes }] } }

/-! Ethernet ports. -/

/-- Pad a frame without FCS to the least length (R305). -/
def padFrame (b : List Byte) : List Byte := b ++ zeros (60 - b.length)

/-- The frame of a release through entry m of the egress header table (R317). -/
def State.egressFrame (s : State) (e : EgressHdr) (bytes : List Byte) : List Byte :=
  padFrame (toBE 6 e.da ++ toBE 6 (s.rd GLB_MAC_ADDR.f) ++ (if e.tag then toBE 2 0x8100 ++ toBE 2 e.tci else [])
    ++ toBE 2 e.etype ++ bytes)

/-- Send a release on an Ethernet port. -/
def releaseEth (msg : Nat) (bytes : List Byte) (s : State) : State :=
  let p := portOf msg
  match getKey Prod.fst (numOf msg) s.net.egress with
  | none => s
  | some (_, e) =>
    match enterBuffer (.eth (s.egressFrame e bytes)) chainPublish 255 1 none s with
    | none => stat p 59 1 (s.inc MAC_PUB_NOBUF.f)
    | some (id, s1) => enqueue (plainCopy id p e.queue s1.clk.up) s1

/-! Slots. -/

/-- Hand a release to the slot of its demand (R118, R327): it replaces the one before, which stays when no cell is free. -/
def releaseSlot (layout : Nat) (bytes : List Byte) (s : State) : State :=
  match enterBuffer (.eth bytes) chainPublish 255 1 none s with
  | none => s.inc MAC_PUB_NOBUF.f
  | some (id, s1) =>
    let old := s1.eng.slots.filter (fun x => x.layout == layout)
    let pub : Published := { layout := layout, bytes := bytes, time := s1.ts, cycle := s1.cycle, buf := id }
    old.foldl (fun t x => unref x.buf t)
      { s1 with eng := { s1.eng with slots := pub :: s1.eng.slots.filter (fun x => x.layout != layout) } }

/-- The message image of a layout. -/
def State.image (s : State) (l : Nat) : List Byte :=
  match getKey Prod.fst l s.eng.images with
  | some p => p.2
  | none => zeros (s.layoutSize l)

/-- A release (R292): the image, with its trailer when safety-coded (R261), handed on whole. -/
def release (l : Nat) (s : State) : State :=
  let seq := (match getKey Prod.fst l s.eng.seqs with | some p => p.2 + 1 | none => 1) % 2 ^ 32
  let safe := s.layoutSafety l
  let bytes := if safe then withSafety (s.layoutSafetyId l) seq (s.image l) else s.image l
  let s1 := if safe then { s with eng := { s.eng with seqs := putKey Prod.fst (l, seq) s.eng.seqs } } else s
  let s2 := s1.inc (STL_PUBu_RELEASES.f (l / 128))
  let msg := s.layoutMsg l
  if msgSpace msg = 3 then releaseSlot l bytes s2
  else if portOf msg < 80 then releaseEth msg bytes s2
  else releaseLegacy msg bytes s2

end Sys2Proof.Machine
end

