-- ==== Sys2Proof/Machine/Engines.lean ====
section
/-!
DEFINITION. The job builder, the engines and the publish units (spec/09) and what a job does to signals (spec/08): pushes
and homes (R279 to R284), records, store writes and destinations (R247 to R265), chunks, generations and releases (R290 to
R292), steals (R285 to R287) and quarantine (R297 to R300).
-/
namespace Sys2Proof.Machine
open Sys2Proof

/-! Engines. -/

/-- An engine with an empty deque. -/
def engineNone (e : Nat) : Engine := { num := e, deque := [], running := none, stolen := [], testing := false }

/-- Engine e. -/
def State.engine (s : State) (e : Nat) : Engine :=
  match getKey (fun x => x.num) e s.eng.engines with
  | some x => x
  | none => engineNone e

/-- Replace an engine, with its words. -/
def State.setEngine (s : State) (x : Engine) : State :=
  ({ s with eng := { s.eng with engines := putKey (fun y => y.num) x s.eng.engines } }.wr (STL_ENGe_DEPTH.f x.num)
    x.deque.length).wrB (STL_ENGe_BUSY.f x.num) x.running.isSome

/-- OPER of an engine. -/
def State.engOper (s : State) (e : Nat) : Nat := s.rd (STL_ENGe_OPER.f e)

/-- The engines of a fen. -/
def fenEngines (f : Nat) : List Nat := (List.range 16).map (fun i => 16 * f + i)

/-- Engines of a fen in OPER `UP`, and in `UP` or `HELD`. -/
def State.fenUp (s : State) (f : Nat) : Nat := ((fenEngines f).filter (fun e => s.engOper e == 1)).length
def State.fenAble (s : State) (f : Nat) : Nat := ((fenEngines f).filter (fun e => s.engOper e == 1 || s.engOper e == 6)).length

/-- What the schedule needs of a fen. -/
def State.fenNeed (s : State) (f : Nat) : Nat := s.rd (STL_FENf_NEED.f (f / 8) (f % 8))

/-- OPER of a fen (R300). -/
def State.fenOper (s : State) (f : Nat) : Nat :=
  if s.fenUp f = 16 then 1 else if s.fenNeed f ≤ s.fenAble f then 3 else 2

/-- Change an engine's OPER, and its fen's with it. -/
def setEngOper (e v : Nat) (s : State) : State :=
  let s1 := s.setOper (unitId 4 e) v
  s1.setOper (unitId 5 (e / 16)) (s1.fenOper (e / 16))

/-- The OPER of every fen follows from its need and its engines, as after a load that changes what it needs (R300). -/
def settleFens (s : State) : State := (List.range 32).foldl (fun t f => t.setOper (unitId 5 f) (t.fenOper f)) s

/-! Keys and costs. -/

/-- Order of two jobs (R282): deadline, class, arrival, first record. -/
def jobLt (a b : Job) : Bool :=
  if a.deadline != b.deadline then a.deadline < b.deadline
  else if a.cls != b.cls then a.cls < b.cls
  else if a.arrival != b.arrival then a.arrival < b.arrival
  else a.first < b.first

/-- Insert a job by its key. -/
def insertJob (j : Job) : List Job → List Job
  | [] => [j]
  | x :: l => if jobLt j x then j :: x :: l else x :: insertJob j l

/-- The execution estimate in clocks (R278); a check job reads its payload. -/
def State.estimate (s : State) (j : Job) : Nat :=
  let len := match s.eng.insts.find? (fun i => i.id == j.inst) with | some i => i.payload.length | none => 0
  8 * j.count + 16 + (if j.check then (len + 15) / 16 else 0)

/-- Slack of a deadline in ns exceeds a number of clocks at the `ENG` frequency in force (R278, R455). -/
def State.slackOver (s : State) (deadline clocks : Nat) : Bool :=
  decide (((deadline : Int) - s.clk.now) * (10 - s.rd LAD_FSTEP.f : Nat) > clocks * 10)

/-- Classes shed (R284). -/
def State.shed (s : State) (cls : Nat) : Bool :=
  (cls == 3 && 1 ≤ s.rd STL_SHED_STATE.f) || (cls == 2 && 2 ≤ s.rd STL_SHED_STATE.f)

/-- The tag of what arrives now (R16). -/
def State.tagNow (s : State) : Tag :=
  { routing := s.net.bank, slot := s.on TCY_SLOT_BANK.f, binding := s.sig.bank, profile := s.rd SIG_PROFILE.f,
    epoch := s.rd HST_EPOCH.f }

/-- The budget of a class in ns (R279). -/
def State.budget (s : State) (cls : Nat) : Nat :=
  match cls with
  | 0 => s.rd STL_DL_SCHED_NS.f
  | 1 => s.rd STL_DL_SAFETY_NS.f
  | 2 => s.rd STL_DL_EVENT_US.f * 1000
  | _ => s.rd STL_DL_DIAG_US.f * 1000

/-- The home engine of an ID (R281). -/
def State.home (s : State) (id : Nat) : Option Nat :=
  let h := (id ^^^ s.rd STL_HASH_SEED.f) * 0x9E3779B1 % 2 ^ 32
  let e := h / 2 ^ 23
  ((List.range 512).map (fun k => 16 * ((e / 16 + k / 16) % 32) + (e % 16 + k % 16) % 16)).find?
    (fun c => s.on (STL_ENGe_CFG.f c) && s.engOper c == 1)

/-! Generations and releases (R290, R291). -/

/-- A job still owes something to a layout. -/
def State.owes (s : State) (root layout : Nat) : Bool := s.eng.owed.any (fun o => o.root == root && o.layouts.contains layout)

/-- Release what has nothing left to await. -/
def tryReleases (s : State) : State :=
  let ready := s.eng.releases.filter (fun r => r.roots.all (fun x => !s.owes x r.layout))
  let s1 := { s with eng := { s.eng with releases := s.eng.releases.filter (fun r => !r.roots.all (fun x => !s.owes x r.layout)) } }
  ready.foldl (fun t r =>
    let t1 := release r.layout t
    match r.since with
    | none => t1
    | some t0 =>
      let lat := t1.clk.now - t0
      let t2 := t1.wr STL_LAT_MAX_NS.f (Nat.max (t1.rd STL_LAT_MAX_NS.f) (Nat.min lat (2 ^ 32 - 1)))
      if lat > 6000 then t2.inc STL_LATE_RELEASE.f else t2) s1

/-- A release point of a layout falls: it closes a generation, merging with a release that is pending. -/
def closeGeneration (layout : Nat) (since : Option Nat) (s : State) : State :=
  let roots := (s.eng.owed.filter (fun o => o.layouts.contains layout)).map (fun o => o.root)
  let old := s.eng.releases.find? (fun r => r.layout == layout)
  let r : Release := match old with
    | some o => { layout := layout, roots := (o.roots ++ roots).eraseDups, since := match o.since with | some t => some t | none => since }
    | none => { layout := layout, roots := roots, since := since }
  tryReleases { s with eng := { s.eng with releases := s.eng.releases.filter (fun x => x.layout != layout) ++ [r] } }

/-- A job no longer owes a layout anything. -/
def settleOwed (root layout : Nat) (s : State) : State :=
  let less := s.eng.owed.map (fun o => if o.root == root then { o with layouts := o.layouts.filter (· != layout) } else o)
  { s with eng := { s.eng with owed := less.filter (fun o => !o.layouts.isEmpty) } }

/-- A job and its follow-ons have ended: one chunk goes to each layout touched, the other layouts await nothing (R290). -/
def handChunks (root epoch : Nat) (writes : List DestWrite) (s : State) : State :=
  let touched := (writes.map (fun w => w.layout)).eraseDups
  let chunks := touched.map (fun l =>
    { layout := l, root := root, writes := writes.filter (fun w => w.layout == l), epoch := epoch : Chunk })
  let owed := (s.eng.owed.map (fun o => if o.root == root then { o with layouts := touched } else o)).filter
    (fun o => !o.layouts.isEmpty)
  tryReleases { s with eng := { s.eng with chunks := s.eng.chunks ++ chunks, owed := owed } }

/-- The key of a signal's writes into a layout. -/
def appliedKey (w : DestWrite) : Nat := w.layout * 2 ^ 18 + w.signal

/-- A write of a later store write of the signal stands in the image already. -/
def State.overtaken (s : State) (w : DestWrite) : Bool :=
  match getKey Prod.fst (appliedKey w) s.eng.applied with
  | some p => w.stamp < p.2
  | none => false

/-- Write one destination into an image, unless a later store write of its signal stands there: the order of a signal's store
writes is kept whatever the order in which chunks arrive (R254, R290).  DEDUCED, log entry 95. -/
def writeImage (w : DestWrite) (s : State) : State :=
  if s.overtaken w then s
  else
    let img := insertField (s.image w.layout) w.offset w.width w.le w.raw
    { s with eng := { s.eng with images := putKey Prod.fst (w.layout, img) s.eng.images,
                                 applied := putKey Prod.fst (appliedKey w, w.stamp) s.eng.applied } }

/-- Whether an epoch may still write: the current one, or in the overlap cycle the one replaced (R16). -/
def State.epochLive (s : State) (epoch : Nat) : Bool :=
  epoch == s.rd HST_EPOCH.f || (epoch == s.rd HST_PREV_EPOCH.f && s.tcy.overlap == some s.cycle)

/-- A publish unit applies the oldest chunk of a layout, whole (R290); one of an old epoch, after the overlap cycle, is discarded
and counted (R16, R255). -/
def applyChunk (layout : Nat) (s : State) : State :=
  match s.eng.chunks.find? (fun c => c.layout == layout) with
  | none => s
  | some c =>
    let s1 := { s with eng := { s.eng with chunks := s.eng.chunks.erase c } }
    let s2 := if s.epochLive c.epoch then c.writes.foldl (fun t w => writeImage w t) s1 else s1.inc SIG_OLD_EPOCH_DISC.f
    tryReleases (settleOwed c.root layout s2)

/-! Instances and drops. -/

/-- An instance by number. -/
def State.instOf (s : State) (id : Nat) : Option Instance := s.eng.insts.find? (fun i => i.id == id)

/-- Change an instance. -/
def State.setInst (s : State) (id : Nat) (g : Instance → Instance) : State :=
  { s with eng := { s.eng with insts := s.eng.insts.map (fun i => if i.id == id then g i else i) } }

/-- One job of an instance has ended; with the last one the payload's cells go back (R281). -/
def instDone (id : Nat) (s : State) : State :=
  match s.instOf id with
  | none => s
  | some i =>
    if i.jobs ≤ 1 then
      let s1 := { s with eng := { s.eng with insts := s.eng.insts.filter (fun x => x.id != id) } }
      match i.buf with | some b => unref b s1 | none => s1
    else s.setInst id (fun x => { x with jobs := x.jobs - 1 })

/-- A job is dropped: it writes nothing and counts as complete (R283); what its ancestors staged is handed on. -/
def dropJob (j : Job) (s : State) : State := instDone j.inst (handChunks j.root j.tag.epoch j.staged s)

/-- Drop a job that waits in the deque of an engine. -/
def dropFrom (e : Nat) (j : Job) (s : State) : State :=
  let x := s.engine e
  dropJob j (s.setEngine { x with deque := x.deque.erase j })

/-- The jobs of an instance in the deques, with their engines. -/
def State.waitingJobs (s : State) (inst : Nat) : List (Nat × Job) :=
  (s.eng.engines.map (fun x => (x.deque.filter (fun j => j.inst == inst && !j.sweep)).map (fun j => (x.num, j)))).flatten

/-- Let go an engine whose job waits for the trailer outcome of an instance: its job is dropped. -/
def dropAwaiting (inst : Nat) (x : Engine) (s : State) : State :=
  match x.running with
  | some r => if r.job.inst == inst && !r.done then dropJob r.job (s.setEngine { s.engine x.num with running := none }) else s
  | none => s

/-- A check job is dropped: every other job of its instance is dropped as well (R283). -/
def dropOthers (j : Job) (s : State) : State :=
  if j.check then
    let s1 := (s.waitingJobs j.inst).foldl (fun t p => dropFrom p.1 p.2 t) s
    s1.eng.engines.foldl (fun t x => dropAwaiting j.inst x t) s1
  else s

/-! Pushes (R280 to R284). -/

/-- Count a push, and one to a home for the fen's envelope as well (R293): a follow-on is pushed to the engine that completed its
parent. -/
def countPush (e : Nat) (j : Job) (s : State) : State :=
  let s1 := s.inc STL_PUSHED.f
  if j.cls ≤ 1 && !j.followOn then { s1 with eng := { s1.eng with envelope := modifyAt (e / 16) (· + j.count) s1.eng.envelope } } else s1

/-- Put a job into an engine's deque; one that arrives at a fen below Run wakes its domain (R27). -/
def putJob (e : Nat) (j : Job) (s0 : State) : State :=
  let s := wakeDomain (128 + e / 16) s0
  let x := s.engine e
  s.setEngine { x with deque := insertJob j x.deque }

/-- The engine of a list with the fewest jobs, the first on a tie. -/
def State.shortest (s : State) (l : List Nat) : Option Nat :=
  l.foldl (fun best e => match best with
    | none => some e
    | some b => if (s.engine e).deque.length < (s.engine b).deque.length then some e else some b) none

/-- The job of a class with the latest key in a fen, with its engine. -/
def State.latestOf (s : State) (f cls : Nat) : Option (Nat × Job) :=
  (fenEngines f).foldl (fun best e =>
    ((s.engine e).deque.filter (fun j => j.cls == cls && !j.check)).foldl (fun b j => match b with
      | none => some (e, j)
      | some (_, k) => if jobLt k j then some (e, j) else b) best) none

/-- Push a job to an engine's deque, or where R283 sends it; false when it is dropped. -/
def pushAt (e : Nat) (j : Job) (s : State) : State × Bool :=
  let f := e / 16
  if (s.engine e).deque.length < 64 then (countPush e j (putJob e j s), true)
  else
    match s.shortest (fenEngines f) with
    | some x =>
      if (s.engine x).deque.length < 64 then (countPush x j (putJob x j (s.inc STL_SPILL.f)), true)
      else
        match (match s.latestOf f 3 with | some p => some p | none => s.latestOf f 2) with
        | some (y, old) =>
          (countPush y j (putJob y j (dropFrom y old (s.inc STL_EVICT.f))), true)
        | none => (dropJob j (s.inc STL_FULL_DROP.f), false)
    | none => (dropJob j (s.inc STL_FULL_DROP.f), false)

/-- Push a job to the home of an ID. -/
def pushHome (id : Nat) (j : Job) (s : State) : State × Bool :=
  match s.home id with
  | some e => pushAt e j s
  | none => (dropJob j (s.inc STL_FULL_DROP.f), false)

/-- Take a job's number. -/
def newId (s : State) : Nat × State := (s.eng.nextId, { s with eng := { s.eng with nextId := s.eng.nextId + 1 } })

/-- Take an arrival number (R254). -/
def newArrival (s : State) : Nat × State := (s.sig.arrival, { s with sig := { s.sig with arrival := (s.sig.arrival + 1) % 2 ^ 64 } })

/-- Push the jobs of an instance in ascending index, 64 records each (R279, R280); a dropped check job takes the others with
it. -/
def pushJobs (msg inst arrival deadline cls : Nat) (safety : Bool) (tag : Tag) (layouts : List Nat) :
    Nat → Nat → Nat → Bool → State → State
  | 0, _, _, _, s => s
  | k + 1, first, left, firstJob, s =>
    if left = 0 then s
    else
      let n := Nat.min left 64
      let (id, s1) := newId s
      let j : Job :=
        { id := id, root := id, deadline := deadline, arrival := arrival, first := first, count := n, cls := cls,
          check := firstJob && safety, followOn := false, sweep := false, level := 0, tag := tag, inst := inst, signals := [],
          staged := [], numbers := [], rerun := false }
      let owe : Owed := { root := id, layouts := layouts }
      let s2 := { s1 with eng := { s1.eng with owed := if layouts.isEmpty then s1.eng.owed else s1.eng.owed ++ [owe] } }
      let (s3, ok) := pushHome msg j (s2.setInst inst (fun i => { i with jobs := i.jobs + 1 }))
      if firstJob && safety && !ok then s3
      else pushJobs msg inst arrival deadline cls safety tag layouts k (first + n) (left - n) false s3

/-- Release points of mode 0 that an instance of a message brings (R291). -/
def triggerReleases (msg : Nat) (since : Option Nat) (s : State) : State :=
  (s.layouts.filter (fun l => s.layoutMode l == 0 && s.layoutTrigger l == msg)).foldl (fun t l => closeGeneration l since t) s

/-- The job builder takes a message instance (R239, R279): `time` compact, `ref_` the reference instant in local ns, `buf` the
held frame whose cells carry the payload, one reference of which is the instance's. -/
def buildInstance (d : MsgDesc) (payload : List Byte) (time origin : Nat) (bad : List Nat) (buf : Option Nat) (tag : Tag)
    (ref_ : Nat) (s : State) : State :=
  let free (t : State) : State := match buf with | some b => unref b t | none => t
  if s.shed d.cls then free (s.inc STL_SHED_DROP.f)
  else
    let (arrival, s1) := newArrival s
    let (id, s2) := newId s1
    let i : Instance :=
      { id := id, desc := d, payload := payload, time := time, origin := origin, badChannels := bad,
        outcome := if d.safety then 0 else 1, jobs := 1, buf := buf, arrival := arrival, start := ref_ }
    let s3 := { s2 with eng := { s2.eng with insts := s2.eng.insts ++ [i] } }
    let s4 := pushJobs d.msg id arrival (ref_ + s.budget d.cls) d.cls d.safety tag (s.fanoutOf d) (d.count / 64 + 1) d.first
      d.count true s3
    triggerReleases d.msg (if d.cls ≤ 1 then some ref_ else none) (instDone id s4)

/-- Deliver a message by its logical ID: it becomes an instance when the binding bank of the tag describes it. -/
def deliverMsg (msg : Nat) (payload : List Byte) (time origin : Nat) (bad : List Nat) (buf : Option Nat) (tag : Tag) (ref_ : Nat)
    (s : State) : State :=
  match (if s.sig.faulty.contains tag.binding then none else (s.bindBank tag.binding).descOf msg) with
  | some d => buildInstance d payload time origin bad buf tag ref_ s
  | none => match buf with | some b => unref b s | none => s

/-! The value store (R252 to R255). -/

/-- An entry never written. -/
def entryZero : ValEntry := { value := 0, time := 0, status := 0, epoch := 0, origin := 0, arrival := 0 }

/-- The entry of a signal; one found unreadable reads invalid (R14). -/
def State.entry (s : State) (i : Nat) : ValEntry :=
  match getKey Prod.fst i s.sig.store with
  | some p => if s.sig.valueFaults.contains i then { p.2 with status := setBits p.2.status 0 1 0 } else p.2
  | none => entryZero

/-- Queue a recorder record for a store write (R475); the domains it brings into use rise (R445). -/
def recordWrite (i : Nat) (e : ValEntry) (s : State) : State :=
  if !s.on GLB_REC_EN.f || s.sys.stage != 3 then s
  else match s.sto.signals.find? (fun x => x.index == i) with
    | none => s
    | some x =>
      let skip := match x.last with | some (t, st) => s.clk.now < t + x.least && st == e.status | none => false
      if skip then s
      else
        let r : RecRecord :=
          { value := e.value, time := e.time, index := i, status := e.status, epoch := e.epoch, origin := e.origin,
            seq := s.rd GLB_REC_SEQ.f, damaged := false }
        let full := s.sto.queue.length ≥ 4096
        let q := (if full then s.sto.queue.drop 1 else s.sto.queue) ++ [r]
        let sigs := s.sto.signals.map (fun y => if y.index == i then { y with last := some (s.clk.now, e.status) } else y)
        let s1 := { s with sto := { s.sto with queue := q, signals := sigs } }.wr GLB_REC_SEQ.f (s.rd GLB_REC_SEQ.f + 1)
        let s2 := if full then s1.inc GLB_REC_DROPS.f else s1
        [178, 180, 181].foldl (fun t d => wakeDomain d t) s2

/-- Write an entry. -/
def putEntry (i : Nat) (e : ValEntry) (s : State) : State :=
  recordWrite i e { s with sig := { s.sig with store := putKey Prod.fst (i, e) s.sig.store,
                                               valueFaults := s.sig.valueFaults.filter (· != i) } }

/-- What an update brings beside its outcome. -/
structure Update where
  time : Nat
  origin : Nat
  arrival : Nat
  tag : Tag
  host : Bool

/-- Status of a good update (Table 08-9b). -/
def goodStatus (limited degraded host : Bool) (quality : Nat) (old : Bool) (profile : Nat) : Nat :=
  1 + 16 * b2n limited + 32 * b2n degraded + 2048 * b2n host + 4096 * quality + 16384 * b2n old + 32768 + 65536 * profile

/-- Substitution (Table 08-8): the value and status after a failure of a cause bit, or staleness (bit 1).  `SUBSTITUTED` and
`HELD` say which of the two the value is. -/
def substitute (m : Sme) (e : ValEntry) (cause : Nat) (quality : Nat) (old : Bool) (profile : Nat) : Nat × Nat :=
  let hold := if cause = 1 then m.substMode == 2 else m.substMode != 0 && bit e.status 15
  let st := setBits (setBit (setBit (setBits e.status 0 1 0) cause true) 14 old) 12 2 quality
  let st1 := setBits st 16 3 profile
  if hold then (e.value, setBit (setBit st1 2 false) 3 true)
  else (m.subst, setBit (setBit (setBit (setBit (setBit st1 2 true) 3 false) 4 false) 5 false) 11 false)

/-- Whether a tag's epoch may write: the current one, or in the overlap cycle the one replaced; and whether it is old. -/
def State.tagEpoch (s : State) (t : Tag) : Bool × Bool := (s.epochLive t.epoch, t.epoch != s.rd HST_EPOCH.f)

/-- A store write of an outcome (R252 to R255): the state, and whether the write was made and its destinations follow. -/
def storeWrite (i : Nat) (m : Sme) (v : Eval) (u : Update) (s : State) : State × Bool :=
  let e := s.entry i
  let (live, old) := s.tagEpoch u.tag
  if !live then (s.inc SIG_OLD_EPOCH_DISC.f, false)
  else if u.arrival < e.arrival then (s.inc SIG_OUT_OF_ORDER.f, false)
  else
    let q := s.rd TIM_QUALITY.f
    let put (value time status : Nat) (t : State) : State :=
      putEntry i { value := value, time := time, status := status, epoch := u.tag.epoch, origin := u.origin, arrival := u.arrival } t
    match v with
    | .good y lim deg => (put y u.time (goodStatus lim deg u.host q old u.tag.profile) s, true)
    | .fail c =>
      let s1 := match c with
        | 6 => s.inc SIG_DECODE_FAIL.f
        | 7 => s.inc SIG_RANGE_FAIL.f
        | 9 => s.inc SIG_SOURCE_FAIL.f
        | _ => s
      let (value, st) := substitute m e c q old u.tag.profile
      (put value e.time st s1, true)
    | .mapFault =>
      let st := setBits (setBits (setBit (setBits e.status 0 1 0) 10 true) 12 2 q) 16 3 u.tag.profile
      (put e.value e.time (setBit st 14 old) (s.inc SIG_MAP_FAULT.f), false)

end Sys2Proof.Machine
end

