-- ==== Sys2Proof/Machine/Jobs.lean ====
section
/-!
DEFINITION. What a job does: its records evaluated, stored and sent to their destinations (R247 to R265), the safety check
(R288), the sweep (R257) and host writes (R271); how jobs run and complete (R282, R290, R297), and steals (R285, R286).
-/
namespace Sys2Proof.Machine
open Sys2Proof

/-- What a job has gathered so far: the state, the destination writes staged, the derived signals triggered, the arrival numbers
taken. -/
structure JobAcc where
  state : State
  writes : List DestWrite
  triggers : List Nat
  numbers : List Nat

/-- Count a saturation. -/
def satCount (b : Bool) (s : State) : State := if b then s.inc SIG_DST_SAT.f else s

/-- One destination of signal i (R263 to R265). -/
def applyDest (i : Nat) (m : Sme) (d : Dest) (level : Nat) (a : JobAcc) : JobAcc :=
  let s := a.state
  let e := s.entry i
  let valid := bit e.status 0
  match d.kind with
  | 1 => match s.layoutOf d.target with
    | none => a
    | some l =>
      let (raw, sat) := convert d.coding d.width m.vtype e.value
      { a with state := satCount sat s,
               writes := a.writes ++ [{ layout := l, signal := i, stamp := s.eng.stamp, le := d.le, offset := d.offset,
                                        width := d.width, raw := raw }] }
  | 4 => match s.layoutOf d.target with
    | none => a
    | some l =>
      { a with writes := a.writes ++ [{ layout := l, signal := i, stamp := s.eng.stamp, le := d.le, offset := d.offset, width := 1,
                                        raw := b2n valid }] }
  | 2 =>
    let c := d.target
    if s.rd (FC_OWNER_KIND.f c) = 1 && s.rd (FC_OWNER_SIG.f c) = i && outMode (s.fmode c) then
      if s.fmode c = 3 then { a with state := ownerWrite c (b2n (storedNonzero m.vtype e.value)) valid s }
      else
        let (code, sat) := convert 0 16 m.vtype e.value
        { a with state := ownerWrite c (Nat.min code 60000) valid (satCount (sat || 60000 < code) s) }
    else { a with state := s.inc SIG_FIELD_SKIP.f }
  | 3 =>
    if level ≥ 4 then { a with state := s.inc SIG_DEPTH_DROP.f }
    else { a with triggers := if a.triggers.contains d.target then a.triggers else a.triggers ++ [d.target] }
  | _ => a

/-- Every destination of the record used, under the next store-write number. -/
def applyDests (i : Nat) (m : Sme) (level : Nat) (a : JobAcc) : JobAcc :=
  let s := a.state
  let a1 : JobAcc := { a with state := { s with eng := { s.eng with stamp := s.eng.stamp + 1 } } }
  (s.destsOf m).foldl (fun b d => applyDest i m d level b) a1

/-! Evaluation. -/

/-- The channels whose inputs a field of a field image reads (R258). -/
def imageChannels (m : Sme) : List Nat :=
  let per := if m.srcMsg % 2 ^ 24 = 0 then 1 else 16
  let lo := m.srcOffset / per
  let hi := (m.srcOffset + m.width - 1) / per
  (List.range (hi + 1 - lo)).map (fun k => lo + k)

/-- A message signal's outcome (R247 to R251). -/
def evalMessage (s : State) (m : Sme) (x : Instance) : Eval :=
  if x.outcome = 2 then .fail 8
  else if msgSpace m.srcMsg = 5 && !x.payload.isEmpty && (imageChannels m).any (fun c => x.badChannels.contains c) then .fail 9
  else if !fieldFits x.payload m.srcOffset m.width then .fail 6
  else
    let r := extract x.payload m.srcOffset m.width m.le
    match decodeField m.coding m.width r with
    | none => .fail 6
    | some v => match transform m (s.auxRecs m) v r with
      | none => .fail 7
      | some y => limitCheck m y false

/-- A source signal of a derived one (R250). -/
def State.source (s : State) (j profile : Nat) : Src :=
  let e := s.entry j
  let m := smeOf (s.record (s.recordIndex j profile))
  let t := staleNs m.stale
  { usable := bit e.status 0 && (t = 0 || compactDiff s.ts e.time ≤ t), f64 := (storedVal m.vtype e.value).toF64,
    pattern := e.value, vtype := m.vtype, time := e.time }

/-- The oldest of the times of the usable sources. -/
def oldest (l : List Src) : Nat :=
  match l.filter (fun x => x.usable) with
  | [] => 0
  | x :: xs => xs.foldl (fun a y => if compactDiff y.time a < 0 then y.time else a) x.time

/-- A derived signal's outcome and time (R249 to R251, R255). -/
def evalDerived (s : State) (m : Sme) (profile : Nat) : Eval × Nat :=
  let srcs := (s.sourcesOf m).map (fun j => s.source j profile)
  let time := oldest srcs
  if m.kind ≤ 4 then
    match srcs with
    | x :: _ =>
      if !x.usable then (.fail 9, 0)
      else match transform m (s.auxRecs m) (storedVal x.vtype x.pattern) x.pattern with
        | none => (.fail 7, 0)
        | some y => (limitCheck m y false, time)
    | [] => (.fail 9, 0)
  else match combine m srcs with
    | none => (.fail 9, 0)
    | some (x, deg) =>
      (limitCheck m (if x.vtype = m.vtype then x.pattern else (storedVal x.vtype x.pattern).store m.vtype) deg, time)

/-- Process one record of a message job (R239, R252). -/
def messageRecord (j : Job) (x : Instance) (i : Nat) (a : JobAcc) : JobAcc :=
  let s := a.state
  let ri := s.recordIndex i j.tag.profile
  let m := smeOf (s.record ri)
  let u : Update := { time := x.time, origin := x.origin, arrival := x.arrival, tag := j.tag, host := false }
  if s.mapBad i ri then { a with state := (storeWrite i m .mapFault u s).1 }
  else if !m.valid then a
  else
    let (s1, go) := storeWrite i m (evalMessage s m x) u s
    if go then applyDests i m j.level { a with state := s1 } else { a with state := s1 }

/-- The arrival number of a job's next derived evaluation: a rerun repeats the numbers of the first run (R254, R297). -/
def evalNumber (j : Job) (a : JobAcc) : Nat × JobAcc :=
  match j.numbers[a.numbers.length]? with
  | some n => (n, { a with numbers := a.numbers ++ [n] })
  | none => ((newArrival a.state).1, { a with state := (newArrival a.state).2, numbers := a.numbers ++ [(newArrival a.state).1] })

/-- Evaluate one derived signal of a follow-on job (R265). -/
def derivedRecord (j : Job) (i : Nat) (a0 : JobAcc) : JobAcc :=
  let (arrival, a) := evalNumber j a0
  let s := a.state
  let ri := s.recordIndex i j.tag.profile
  let m := smeOf (s.record ri)
  if s.mapBad i ri then
    { a with state := (storeWrite i m .mapFault { time := 0, origin := 0, arrival := arrival, tag := j.tag, host := false } s).1 }
  else if !m.valid then a
  else
    let (v, time) := evalDerived s m j.tag.profile
    let (s1, go) := storeWrite i m v { time := time, origin := 0, arrival := arrival, tag := j.tag, host := false } s
    if go then applyDests i m j.level { a with state := s1 } else { a with state := s1 }

/-- A sweep visit of one signal under the active profile (R257); its write is of the node itself, so under the current epoch and
with no origin (Table 08-9a). -/
def sweepRecord (j : Job) (i : Nat) (a : JobAcc) : JobAcc :=
  let s := a.state
  let p := s.rd SIG_PROFILE.f
  let ri := s.recordIndex i p
  let m := smeOf (s.record ri)
  let e := s.entry i
  let t := staleNs m.stale
  if (s.binding.covering i).isNone then a
  else if s.mapBad i ri then
    { a with state := (storeWrite i m .mapFault
        { time := 0, origin := 0, arrival := e.arrival, tag := { j.tag with profile := p, epoch := s.rd HST_EPOCH.f }, host := false } s).1 }
  else if !m.valid || t = 0 || bit e.status 1 || compactDiff s.ts e.time ≤ t then a
  else
    let (v, st) := substitute m e 1 (s.rd TIM_QUALITY.f) false p
    let s1 := putEntry i { e with value := v, status := st, epoch := s.rd HST_EPOCH.f, origin := 0 } (s.inc SIG_STALE.f)
    applyDests i m j.level { a with state := s1 }

/-- The destinations of a host write (R271). -/
def hostRecord (j : Job) (i : Nat) (a : JobAcc) : JobAcc :=
  let s := a.state
  let ri := s.recordIndex i j.tag.profile
  if !s.epochLive j.tag.epoch then { a with state := s.inc SIG_OLD_EPOCH_DISC.f }
  else if s.mapBad i ri then a
  else applyDests i (smeOf (s.record ri)) 0 a

/-! The safety check (R259, R260, R288). -/

/-- Check the trailer of an instance and post the outcome. -/
def checkTrailer (x : Instance) (s : State) : State :=
  let d := x.desc
  let old := getKey Prod.fst d.msg s.sig.safety
  let sq := match old with | some p => p.2.1 | none => none
  let lastEvent := match old with | some p => p.2.2 | none => none
  let (out, sq') := safetyCheck d sq x.payload
  let s1 := match out with
    | 1 => s.inc SIG_SAFETY_CRC.f
    | 4 => s.inc SIG_SAFETY_CRC.f
    | 2 => s.inc SIG_SAFETY_SEQ.f
    | 3 => s.inc SIG_SAFETY_REPEAT.f
    | _ => s
  let failed := out == 1 || out == 2 || out == 4
  let due := failed && (match lastEvent with | some t => t + 100000000 ≤ s.clk.up | none => true)
  let keep (t : State) (ev : Option Nat) : State :=
    { t with sig := { t.sig with safety := putKey Prod.fst (d.msg, sq', ev) t.sig.safety } }
  let s2 := keep s1 (if due then some s.clk.up else lastEvent)
  let seq := if x.payload.length < 8 then 0 else beAt x.payload (x.payload.length - 8) 4
  let cause := match out with | 1 => 0 | 2 => 1 | _ => 2
  let s3 := if due then s2.raise 0x0602 0 (toBE 4 d.msg ++ toBE 1 cause ++ toBE 4 seq ++ toBE 3 (sq.getD 0)) else s2
  s3.setInst x.id (fun i => { i with outcome := if failed then 2 else if out = 3 then 3 else 1 })

/-! Running a job. -/

/-- Process a job's records; none while its instance's trailer outcome is awaited. -/
def runJob (j : Job) (s : State) : Option JobAcc :=
  let start (t : State) : JobAcc := { state := t, writes := [], triggers := [], numbers := [] }
  let range := (List.range j.count).map (fun k => j.first + k)
  if j.sweep then some (range.foldl (fun a i => sweepRecord j i a) (start s))
  else if j.followOn then some (j.signals.foldl (fun a i => derivedRecord j i a) (start s))
  else match s.instOf j.inst with
    | none => some (range.foldl (fun a i => hostRecord j i a) (start s))
    | some x0 =>
      let s1 := if j.check && x0.outcome = 0 then checkTrailer x0 s else s
      match s1.instOf j.inst with
      | none => some (start s1)
      | some x =>
        if x.outcome = 0 then none
        else if x.outcome = 3 then some (start s1)
        else some (range.foldl (fun a i => messageRecord j x i a) (start s1))

/-- Let the job on an engine process its records if it has not. -/
def attemptRun (e : Nat) (s : State) : State :=
  match (s.engine e).running with
  | some r =>
    if r.done then s
    else match runJob r.job s with
      | none => s
      | some a =>
        let x := a.state.engine e
        let j : Job := { r.job with numbers := a.numbers }
        a.state.setEngine { x with running := some { job := j, done := true, writes := a.writes, triggers := a.triggers } }
  | none => s

/-- The jobs an owner may take from its deque: all in `UP`, those stolen into it in `HELD`, none when its CFG is cleared. -/
def State.mine (s : State) (e : Nat) : List Job :=
  let x := s.engine e
  match s.engOper e with
  | 1 => if s.on (STL_ENGe_CFG.f e) then x.deque else []
  | 6 => x.deque.filter (fun j => x.stolen.contains j.id)
  | _ => []

/-- Drop a job of a shed class, and with a check job the others of its instance; each is counted (R284). -/
def shedJob (e : Nat) (j : Job) (s : State) : State :=
  let s1 := dropFrom e j (s.inc STL_SHED_DROP.f)
  if j.check then dropOthers j (s1.incBy STL_SHED_DROP.f (s1.waitingJobs j.inst).length) else s1

/-- Drop jobs of a shed class that have reached the earliest-key end (R284). -/
def dropShed (e : Nat) : Nat → State → State
  | 0, s => s
  | n + 1, s => match s.mine e with
    | j :: _ => if s.shed j.cls then dropShed e n (shedJob e j s) else s
    | [] => s

/-- An engine whose CFG is cleared reads `DISABLED` once it has nothing left (R300). -/
def settleEngine (e : Nat) (s : State) : State :=
  let x := s.engine e
  if !s.on (STL_ENGe_CFG.f e) && s.engOper e == 1 && x.deque.isEmpty && x.running.isNone then setEngOper e 0 s else s

/-- An engine takes the earliest job it may (R282); the run of a job that a quarantine sent back is a rerun (R297). -/
def takeJob (e : Nat) (s : State) : State :=
  if (s.engine e).running.isSome then s
  else
    let s1 := dropShed e (s.engine e).deque.length s
    match s1.mine e with
    | [] => settleEngine e s1
    | j :: _ =>
      let x := s1.engine e
      let r : Running := { job := { j with rerun := false }, done := false, writes := [], triggers := [] }
      attemptRun e ((s1.setEngine { x with deque := x.deque.erase j, stolen := x.stolen.filter (· != j.id),
                                           running := some r }).when j.rerun (fun t => t.inc STL_RERUNS.f))

/-- Count a job completed after its deadline. -/
def countMiss (j : Job) (s : State) : State :=
  if s.clk.now ≤ j.deadline then s
  else s.inc (match j.cls with
    | 0 => STL_MISS_SCHED.f
    | 1 => STL_MISS_SAFETY.f
    | 2 => STL_MISS_EVENT.f
    | _ => STL_MISS_DIAG.f)

/-- The job on an engine completes: its triggers form one follow-on job, which carries on what it staged, or its chunks are
handed over (R265, R290). -/
def completeJob (e : Nat) (s0 : State) : State :=
  let s := attemptRun e s0
  match (s.engine e).running with
  | none => s
  | some r =>
    if !r.done then s
    else
      let j := r.job
      let x := s.engine e
      let s1 := countMiss j ((s.setEngine { x with running := none }).inc (STL_ENGe_JOBS.f e))
      let staged := j.staged ++ r.writes
      let s2 :=
        if r.triggers.isEmpty then handChunks j.root j.tag.epoch staged s1
        else
          let (id, t) := newId s1
          let f : Job :=
            { j with id := id, first := r.triggers.getD 0 0, count := r.triggers.length, check := false, followOn := true,
                     sweep := false, level := j.level + 1, signals := r.triggers, staged := staged, numbers := [] }
          (pushAt e f (t.setInst j.inst (fun i => { i with jobs := i.jobs + 1 }))).1
      settleEngine e (instDone j.inst s2)

/-! Steals. -/

/-- The search order of a thief (R285), with the cost in clocks of each victim (Table 09-2). -/
def searchOrder (e hops : Nat) : List (Nat × Nat) :=
  let f := e / 16
  let l := e % 16
  let own := (List.range 15).map (fun k => (16 * f + (l + 1 + k) % 16, 6))
  let fen (g c : Nat) : List (Nat × Nat) := (List.range 16).map (fun k => (16 * g + (l + k) % 16, c))
  own ++ ((List.range hops).map (fun d =>
    fen ((f + d + 1) % 32) (50 + 10 * d) ++ fen ((f + 32 - (d + 1)) % 32) (50 + 10 * d))).foldr (· ++ ·) []

/-- The batch of R286 from jobs in key order: while the slack exceeds the cost and the estimates so far. -/
def batchOf (s : State) (free : Bool) : Nat → Nat → List Job → List Job
  | 0, _, _ => []
  | _, _, [] => []
  | n + 1, cost, j :: l =>
    let c := cost + s.estimate j
    if free || s.slackOver j.deadline c then j :: batchOf s free n c l else []

/-- Look at victims in order: the batch of at most `room` jobs and its victim, or whether a non-empty deque was refused. -/
def searchVictims (s : State) (room : Nat) : List (Nat × Nat) → Bool → Option (Nat × List Job) × Bool
  | [], inelig => (none, inelig)
  | (v, c) :: l, inelig =>
    let q := (s.engine v).deque
    if q.isEmpty then searchVictims s room l inelig
    else
      let op := s.engOper v
      let b := batchOf s (op == 0 || op == 4 || op == 6) (Nat.min room (Nat.max 1 (q.length / 2))) c q
      if b.isEmpty then searchVictims s room l true else (some (v, b), inelig)

/-- What an engine's own deque holds for itself: all of it, but in `HELD`, where it goes on as a thief, only what it stole
(R300). -/
def State.ownWork (s : State) (e : Nat) : List Job := if s.engOper e = 6 then s.mine e else (s.engine e).deque

/-- A batch goes from a victim's deque to the thief's, where each job takes the place of its key (R286, R287). -/
def moveBatch (e v : Nat) (b : List Job) (s : State) : State :=
  let y := s.engine v
  let ids := b.map (fun j => j.id)
  let s2 := s.setEngine { y with deque := y.deque.filter (fun j => !ids.contains j.id),
                                 stolen := y.stolen.filter (fun i => !ids.contains i) }
  let s3 := settleEngine v s2
  let z := s3.engine e
  let s4 := s3.setEngine { z with deque := b.foldl (fun q j => insertJob j q) z.deque, stolen := z.stolen ++ ids }
  if v / 16 = e / 16 then s4.inc STL_STEALS_LOCAL.f else s4.inc STL_STEALS_REMOTE.f

/-- An idle engine searches for work (R285 to R287); the batch fits the places its deque has free (R282). -/
def stealSearch (e : Nat) (s : State) : State :=
  let x := s.engine e
  let able := s.engOper e == 1 || s.engOper e == 6
  if !able || !s.on STL_STEAL_EN.f || x.running.isSome || !(s.ownWork e).isEmpty || 64 ≤ x.deque.length then s
  else
    let (found, inelig) := searchVictims s (64 - x.deque.length) (searchOrder e (Nat.min 4 (s.rd STL_MAX_HOPS.f))) false
    let s1 := if inelig then s.inc STL_STEAL_INELIG.f else s
    match found with
    | none => s1
    | some (v, b) => moveBatch e v b s1

/-! Faults (R297). -/

/-- Quarantine an engine: the running job goes back to the earliest-key end, to be run again in full. -/
def quarantine (e cause : Nat) (s : State) : State :=
  if s.engOper e = 4 then s
  else
    let x := s.engine e
    let s1 := match x.running with
      | some r => s.setEngine { x with deque := { r.job with rerun := true } :: x.deque, running := none }
      | none => s
    setEngOper e 4 ((s1.wr (STL_ENGe_QCAUSE.f e) cause).inc STL_QUARANTINES.f)

/-- A deque entry fails its parity check: it is dropped as under R283, a check job with the others of its instance, and the
engine quarantined. -/
def dequeFault (e : Nat) (s : State) : State :=
  match (s.engine e).deque with
  | j :: _ => dropOthers j (dropFrom e j (quarantine e 3 s))
  | [] => quarantine e 3 s

/-! Host writes (R271). -/

/-- The value a host writes after R251; none when it is refused. -/
def hostValue (m : Sme) (v : Nat) : Option (Nat × Bool) :=
  match limitCheck m (v % 2 ^ 64) false with
  | .good y lim _ => some (y, lim)
  | _ => none

/-- Store a host value and let its destinations follow in a job. -/
def hostWrite (i : Nat) (d : MsgDesc) (y : Nat) (limited : Bool) (s : State) : State :=
  let (arrival, s1) := newArrival s
  let tag := s1.tagNow
  let e : ValEntry :=
    { value := y, time := s1.ts, status := goodStatus limited false true (s1.rd TIM_QUALITY.f) false tag.profile, epoch := tag.epoch,
      origin := 0, arrival := arrival }
  let s2 := (putEntry i e s1).inc SIG_HOST_WRITES.f
  if s2.shed d.cls then s2.inc STL_SHED_DROP.f
  else
    let (id, s3) := newId s2
    let layouts := s3.fanoutOf d
    let owe : Owed := { root := id, layouts := layouts }
    let s4 := { s3 with eng := { s3.eng with owed := if layouts.isEmpty then s3.eng.owed else s3.eng.owed ++ [owe] } }
    let j : Job :=
      { id := id, root := id, deadline := s4.clk.now + s4.budget d.cls, arrival := arrival, first := i, count := 1, cls := d.cls,
        check := false, followOn := false, sweep := false, level := 0, tag := tag, inst := 0, signals := [], staged := [],
        numbers := [], rerun := false }
    let s5 := (pushHome d.msg j s4).1
    triggerReleases d.msg (if d.cls ≤ 1 then some s5.clk.now else none) s5

/-- A host write to an index: none when it is taken, else the status and the byte offset of R271's refusal, in the order of R38. -/
def State.hostRefusal (s : State) (i v : Nat) : Option (Nat × Nat) :=
  match (if i < 2 ^ 18 then s.binding.covering i else none) with
  | none => some (stRange, 0)
  | some d =>
    let ri := s.recordIndex i (s.rd SIG_PROFILE.f)
    let m := smeOf (s.record ri)
    let bad := s.mapBad i ri
    if !bad && !m.valid then some (stRange, 0)
    else if !bad && (hostValue m v).isNone then some (stRange, 4)
    else if msgSpace d.msg != 4 then some (stConflict, 0)
    else none

/-- A host write whose record cannot be read or is malformed marks its signal (R270).  DEDUCED, log entry 96. -/
def hostFault (i : Nat) (s : State) : State :=
  let (arrival, s1) := newArrival s
  let m := smeOf (s1.record (s1.recordIndex i (s1.rd SIG_PROFILE.f)))
  (storeWrite i m .mapFault { time := s1.ts, origin := 0, arrival := arrival, tag := s1.tagNow, host := true } s1).1

/-- Carry a host write out. -/
def doHostWrite (i v : Nat) (s : State) : State :=
  match s.binding.covering i with
  | none => s
  | some d =>
    let ri := s.recordIndex i (s.rd SIG_PROFILE.f)
    if s.mapBad i ri then hostFault i s
    else match hostValue (smeOf (s.record ri)) v with
      | some (y, lim) => hostWrite i d y lim s
      | none => s

/-! Sweeps and field images. -/

/-- A sweep round over an index range: jobs of 64 signals of the safety class (R257, R279, R281). -/
def pushSweep : Nat → Nat → Nat → State → State
  | 0, _, _, s => s
  | k + 1, first, left, s =>
    if left = 0 then s
    else
      let n := Nat.min left 64
      let (id, s1) := newId s
      let layouts := s1.fanout 5 (s1.signalsIn first n)
      let owe : Owed := { root := id, layouts := layouts }
      let s2 := { s1 with eng := { s1.eng with owed := if layouts.isEmpty then s1.eng.owed else s1.eng.owed ++ [owe] } }
      let j : Job :=
        { id := id, root := id, deadline := s2.clk.now + s2.rd SIG_SWEEP_US.f * 1000, arrival := s2.sig.arrival, first := first,
          count := n, cls := 1, check := false, followOn := false, sweep := true, level := 0, tag := s2.tagNow, inst := 0,
          signals := [], staged := [], numbers := [], rerun := false }
      pushSweep k (first + n) (left - n) (pushHome (0xFF000000 + first / 64) j s2).1

/-- Eight levels as a byte, the first in bit 0. -/
def packBits (l : List Bool) : Byte := BitVec.ofNat 8 (l.foldr (fun b n => b2n b + 2 * n) 0)

/-- The digital input image (R258, R389). -/
def State.digitalImage (s : State) : List Byte :=
  (List.range 32).map (fun i => packBits ((List.range 8).map (fun j => s.imageBit (8 * i + j))))

/-- The loop input image. -/
def State.loopImage (s : State) : List Byte :=
  ((List.range 256).map (fun c => toLE 2 (if s.fmode c = 4 then s.rd (FC_LOOP_MEAS.f c) else 0))).foldr (· ++ ·) []

/-- Channels whose bit of the digital image, or whose code of the loop image, is a source failure. -/
def State.badDigital (s : State) : List Nat := (List.range 256).filter (fun c => !(s.fmode c = 1 || s.fmode c = 2) || s.chanBad c)
def State.badLoop (s : State) : List Nat := (List.range 256).filter (fun c => s.fmode c != 4 || s.chanBad c)

/-- Present the digital image to the job builder. -/
def presentDigital (s : State) : State :=
  let us := s.clk.now / 1000 * 1000
  deliverMsg 0x05000000 s.digitalImage (compact us) 0 s.badDigital none s.tagNow us s

/-- Present the loop image. -/
def presentLoop (s : State) : State :=
  let us := s.clk.now / 1000 * 1000
  deliverMsg 0x05000001 s.loopImage (compact us) 0 s.badLoop none s.tagNow us s

/-- Present both field images to the job builder. -/
def presentImages (s : State) : State := presentLoop (presentDigital s)

/-- Move the oldest queued record to the ring; every 32,768th closes an index entry (R475). -/
def writeRecord (s : State) : State :=
  match s.sto.queue with
  | [] => s
  | r :: q =>
    let ring := s.sto.ring ++ [r]
    let ring1 := if ring.length > 132120576 then ring.drop 1 else ring
    let block := ring.drop (ring.length - 32768)
    let idx := if (r.seq + 1) % 32768 = 0 && !s.pair.noMram then
        s.sto.index ++ [(r.seq + 1 - 32768, (block.head?.map (fun x => x.time)).getD 0, r.time)] else s.sto.index
    { s with sto := { s.sto with queue := q, ring := ring1, index := idx } }

end Sys2Proof.Machine
end

