-- ==== Sys2Proof/Machine/FieldCmds.lean ====
section
/-!
DEFINITION. Commands of the field channels (R408 to R412) and what their dies report: samples, conversions, faults, bank
supplies, watchdogs and holds (spec/13).
-/
namespace Sys2Proof.Machine
open Sys2Proof

/-! Commands. -/

/-- `FIELD_CONFIG` (R408): words +0x00, +0x08, +0x10 and +0x18, each most significant byte first. -/
def cmdFieldConfig (h : CmdHdr) (channel : Nat) (config : List Byte) (s : State) : State :=
  command 0x0701 h (toBE 1 channel ++ config) (fun s =>
    let w (i : Nat) : Nat := beAt config (8 * i) 8
    if config.length != 32 then ⟨s, stBadLength, []⟩
    else if !fieldWordsOk (w 0) (w 1) (w 2) || w 3 != 0 then ansRange s 1
    else ansOk (writeFieldWords (channel % 256) (w 0) (w 1) (w 2) s)) s

/-- The meaning of `FIELD_CONFIG`. -/
def execFieldConfig (h : CmdHdr) (channel : Nat) (config : List Byte) (s : State) : Outcome :=
  act (whenServing (cmdFieldConfig h channel config)) s

/-- A channel state record (Table 13-6). -/
def State.channelRecord (s : State) (c : Nat) : List Byte :=
  let m := s.fmode c
  let level := if m = 3 || m = 5 then s.rd (FC_OUT_LEVEL.f c) else s.rd (FC_IN_STATE.f c)
  let flags := level + 2 * s.rd (FC_WBREAK.f c) + 4 * s.rd (FC_SAFE.f c) + 8 * s.rd (FC_HOLD.f c) + 16 * s.rd (FC_LATCHED.f c)
    + 32 * s.rd (FC_COMPLIANCE.f c) + 64 * s.rd (FC_OPENLOAD.f c) + 128 * s.rd (FC_MIRROR_STALE.f c)
  toBE 1 m ++ toBE 1 flags ++ toBE 1 (s.rd (FC_OPER.f c)) ++ toBE 1 (s.rd (FC_LATCH_CAUSE.f c))
    ++ toBE 2 (if m = 4 || m = 5 then s.rd (FC_LOOP_MEAS.f c) else 0) ++ toBE 2 (s.rd (FC_VTERM.f c))

/-- `FIELD_READ` (R412). -/
def cmdFieldRead (h : CmdHdr) (first count : Nat) (s : State) : State :=
  command 0x0702 h (toBE 1 first ++ toBE 2 count) (fun s =>
    if count = 0 || count > 256 then ansRange s 1
    else if first + count > 256 then ansRange s 0
    else ansOk s (((List.range count).map (fun k => s.channelRecord (first + k))).foldr (· ++ ·) [])) s

/-- The meaning of `FIELD_READ`. -/
def execFieldRead (h : CmdHdr) (first count : Nat) (s : State) : Outcome := act (whenServing (cmdFieldRead h first count)) s

/-- A channel owned by a host and in a mode. -/
def State.hostOwned (s : State) (mode c : Nat) : Bool := s.rd (FC_OWNER_KIND.f c) == 2 && s.fmode c == mode

/-- `FIELD_SET` (R409). -/
def cmdFieldSet (h : CmdHdr) (mask levels : List Byte) (s : State) : State :=
  command 0x0703 h (mask ++ levels) (fun s =>
    if mask.length != 32 || levels.length != 32 then ⟨s, stBadLength, []⟩
    else
      let named := bitsOf 256 (fromBE mask)
      match named.find? (fun c => !s.hostOwned 3 c) with
      | some c => ansConflict s (unitId 7 c)
      | none => ansOk (named.foldl (fun t c => ownerWrite c (b2n (bit (fromBE levels) c)) true t) s)) s

/-- The meaning of `FIELD_SET`. -/
def execFieldSet (h : CmdHdr) (mask levels : List Byte) (s : State) : Outcome :=
  act (whenServing (cmdFieldSet h mask levels)) s

/-- `LOOP_SET` (R409). -/
def cmdLoopSet (h : CmdHdr) (channel code : Nat) (s : State) : State :=
  command 0x0704 h (toBE 1 channel ++ toBE 2 code) (fun s =>
    if code > 60000 then ansRange s 1
    else if !s.hostOwned 5 channel then ansConflict s (unitId 7 channel)
    else ansOk (ownerWrite channel code true s)) s

/-- The meaning of `LOOP_SET`. -/
def execLoopSet (h : CmdHdr) (channel code : Nat) (s : State) : Outcome := act (whenServing (cmdLoopSet h channel code)) s

/-- `FIELD_SAFE_SET` (R410). -/
def cmdFieldSafeSet (h : CmdHdr) (channel safe watchdog : Nat) (s : State) : State :=
  command 0x0705 h (toBE 1 channel ++ toBE 1 safe ++ toBE 4 watchdog) (fun s =>
    if bits safe 0 2 = 3 || bits safe 2 5 != 0 then ansRange s 1
    else if watchdog = 0 || watchdog > 10000 then ansRange s 2
    else ansOk (writeSafe channel (bits safe 0 2) (bits safe 7 1) watchdog s)) s

/-- The meaning of `FIELD_SAFE_SET`. -/
def execFieldSafeSet (h : CmdHdr) (channel safe watchdog : Nat) (s : State) : Outcome :=
  act (whenServing (cmdFieldSafeSet h channel safe watchdog)) s

/-- `FIELD_FAULT_CLEAR` (R411). -/
def cmdFieldFaultClear (h : CmdHdr) (channel : Nat) (s : State) : State :=
  command 0x0706 h (toBE 1 channel) (fun s => ansOk (clearFaults channel s)) s

/-- The meaning of `FIELD_FAULT_CLEAR`. -/
def execFieldFaultClear (h : CmdHdr) (channel : Nat) (s : State) : Outcome :=
  act (whenServing (cmdFieldFaultClear h channel)) s

/-! Mode changes (R385). -/

/-- The meaning of `FC_MODE`: a write of the mode; codes 6 and 7 are undefined. -/
def execFcMode (channel mode : Nat) (s : State) : Outcome :=
  act (whenUp (fun s => if channel < 256 && mode ≤ 5 then settleMismatch (unitId 7 channel) (writeMode channel mode s) else s)) s

/-- The meaning of `NEW_MODE_CONNECT`: the new mode is connected after its stand-off. -/
def execNewModeConnect (channel : Nat) (s : State) : Outcome :=
  act (whenRunning (fun s => if channel < 256 && (s.chan channel).changing then connectMode channel s else s)) s

/-! Inputs. -/

/-- A happening at an input whose change of filtered state or wire break is presented at once (R258, R389). -/
def withImage (c : Nat) (f : State → State) (s : State) : State :=
  let t := f s
  if s.sys.started && (s.rd (FC_IN_STATE.f c) != t.rd (FC_IN_STATE.f c) || s.rd (FC_WBREAK.f c) != t.rd (FC_WBREAK.f c))
      && t.fmode c ≤ 2 then presentDigital t
  else t

/-- The meaning of `INPUT_SAMPLE`. -/
def execInputSample (channel level : Nat) (current : Int) (s : State) : Outcome :=
  act (whenRunning (fun s => if channel < 256 then withImage channel (inputSample channel level current) s else s)) s

/-- The meaning of `LOOP_CONVERSION`. -/
def execLoopConversion (channel : Nat) (code : Int) (s : State) : Outcome :=
  act (whenRunning (fun s => if channel < 256 then loopConversion channel code s else s)) s

/-- The meaning of `LOOP_WIRE_BREAK`. -/
def execLoopWireBreak (channel : Nat) (broken : Bool) (s : State) : Outcome :=
  act (whenRunning (fun s => if channel < 256 then loopBreak channel broken s else s)) s

/-! Outputs. -/

/-- The meaning of `OVERCURRENT_LATCH`. -/
def execOvercurrentLatch (channel : Nat) (s : State) : Outcome :=
  act (whenRunning (fun s => if channel < 256 then overcurrent channel s else s)) s

/-- The meaning of `OVERTEMPERATURE_TRIP`. -/
def execOvertemperatureTrip (channel : Nat) (s : State) : Outcome :=
  act (whenRunning (fun s => if channel < 256 then overtemperature channel s else s)) s

/-- The meaning of `OPEN_LOAD`. -/
def execOpenLoad (channel : Nat) (open_ : Bool) (s : State) : Outcome :=
  act (whenRunning (fun s => if channel < 256 then openLoad channel open_ s else s)) s

/-- The meaning of `DEMAGNETISATION_END`. -/
def execDemagnetisationEnd (channel energy bankMw : Nat) (s : State) : Outcome :=
  act (whenRunning (fun s => if channel < 256 then demagnetised channel energy bankMw s else s)) s

/-- The meaning of `COMPLIANCE`. -/
def execCompliance (channel : Nat) (short : Bool) (s : State) : Outcome :=
  act (whenRunning (fun s => if channel < 256 then compliance channel short s else s)) s

/-- The meaning of `WATCHDOG_EXPIRED`. -/
def execWatchdogExpired (channel : Nat) (s : State) : Outcome :=
  act (whenRunning (fun s => if channel < 256 then expireWatchdog channel s else s)) s

/-- The meaning of `HOLD_LIMIT`. -/
def execHoldLimit (channel : Nat) (s : State) : Outcome :=
  act (whenRunning (fun s => if channel < 256 then expireHold channel s else s)) s

/-- The meaning of `BANK_SUPPLY_MEASURE`. -/
def execBankSupplyMeasure (bank mv : Nat) (s : State) : Outcome :=
  act (whenRunning (fun s => if bank < 8 then measureBank bank mv s else s)) s

end Sys2Proof.Machine
end

