-- ==== Sys2Proof/Machine/Pair.lean ====
section
/-!
DEFINITION. The pair (spec/14, R423 to R434): health and `ARB_REQ`, roles, guidons and declarations, guarded channels, and the
field links whose loss is a health condition (R12).
-/
namespace Sys2Proof.Machine
open Sys2Proof

/-- This node is a pair member (R423). -/
def State.isPair (s : State) : Bool := s.on RED_PAIR.f

/-! Partner. -/

/-- This node carries `E1_NODE` (Table 05-3): by its record, or before there is one by what the board lays down. -/
def State.isE1Node (s : State) : Bool :=
  match s.hst.current.find? (fun r => r.kind == 0 && r.uid == s.rd HST_UID.f) with
  | some r => bit r.flags 4
  | none => Config.e1Node

/-- The plane-ends that face the partner (R429). -/
def State.facingEnds (s : State) : List Nat := if s.isE1Node then [2, 3] else [0, 1]

/-- The lanes that carry guidons: trained, on a facing plane-end at 2.5 Gb/s. -/
def State.guidonLanes (s : State) : List Nat :=
  (s.facingEnds.map (fun p => (List.range 4).map (fun l => 4 * p + l))).foldr (· ++ ·) [] |>.filter (fun m =>
    (s.bkb.lanes.getD m { trained := false, speed := 0, inLoss := false, lossStart := 0, lossInWindow := false,
                          qualified := false, recovering := false, errors := [] }).trained && s.rd (BKB_PEp_CTL_SPEED.f (m / 4)) == 0)

/-- Bring `RED_BB_PATH` to the lanes. -/
def syncBbPath (s : State) : State := s.wrB RED_BB_PATH.f (s.isPair && !s.guidonLanes.isEmpty)

/-- The backbone path counts as missing throughout at other speeds (R429). -/
def State.bbMissed (s : State) : Bool := s.pair.bb.missed || !s.on RED_BB_PATH.f

/-- Low 32 bits of the unique ID of the other node of the own `DR_VEH_ID` in the CURRENT directory. -/
def State.directoryPartner (s : State) : Option Nat :=
  match s.hst.current.find? (fun r => r.kind == 0 && r.uid == s.rd HST_UID.f) with
  | none => none
  | some me => (s.hst.current.find? (fun r => r.kind == 0 && r.vehId == me.vehId && r.uid != me.uid)).map (fun r => r.uid)

/-- Raise `PARTNER_LOST`. -/
def partnerLost (cause : Nat) (cleared : Bool) (s : State) : State :=
  s.raise 0x0902 0x087F (toBE 1 cause ++ toBE 4 (s.rd RED_PARTNER_UID.f)) cleared

/-- Compare the partner's identity with the directory (R423). -/
def checkPartner (s : State) : State :=
  if !s.isPair || s.hst.current.isEmpty || s.rd RED_PARTNER_UID.f == 0 then s
  else
    let bad := match s.directoryPartner with
      | some u => u % 2 ^ 32 != s.rd RED_PARTNER_UID.f
      | none => true
    if bad == s.pair.stranger then s
    else partnerLost 3 (!bad) { s with pair := { s.pair with stranger := bad } }

/-! Roles (R425, R434). -/

/-- Nanoseconds since the partner's last accepted guidon. -/
def State.guidonGap (s : State) : Nat :=
  if s.pair.hal.seq.isNone && s.pair.bb.seq.isNone then 0
  else s.clk.up - Nat.max s.pair.hal.at_ s.pair.bb.at_

/-- Raise `PAIR_FAILOVER`. -/
def pairFailover (role cause gap : Nat) (s : State) : State :=
  s.raise 0x0901 0 (toBE 1 role ++ toBE 1 cause ++ toBE 4 (Nat.min gap (2 ^ 32 - 1)))

/-- The gated functions of a node that turns standby (R426): its serial queues are emptied, an MVB controller with pair
behaviour only sinks (R349), and a gated WTB node takes no role. -/
def emptyGated (s0 : State) : State :=
  let s1 := (List.range 4).foldl (fun t c => if t.mvbGated c then
      { t.wr (LEG_MVBc_MASTER.f c) 0 with leg := { t.leg with polls := putAt c [] t.leg.polls } } else t) s0
  dropSerial (fun x => s1.serGated x) (if s1.wtbGated then wtbStop s1 else s1)

/-- The node passes to active; what it accepted as a standby does not count toward R434. -/
def becomeActive (s0 : State) : State :=
  let gap := s0.guidonGap
  let s := { s0 with pair := { s0.pair with hal := { s0.pair.hal with activeRow := 0 } } }
  let s1 := (s.wr RED_ACTIVE.f 1).inc RED_FAILOVERS.f
  let s2 := if s.pair.taken then s1 else s1.wr RED_LAST_GAP_NS.f (Nat.min gap (2 ^ 32 - 1))
  let s3 := s2.pairedOutputs.foldl (fun t c => enterHold c t) { s2 with pair := { s2.pair with taken := false } }
  pairFailover 2 0 gap s3

/-- The paired channels and gated functions follow from now on. -/
def followNow (s : State) : State :=
  let s1 := { s with pair := { s.pair with taken := false } }
  s1.pairedOutputs.foldl (fun t c => leaveActive c t) (emptyGated s1)

/-- The node passes to standby, for a cause of R437. -/
def becomeStandby (cause : Nat) (s : State) : State :=
  pairFailover 1 cause 0 (followNow ((s.wr RED_ACTIVE.f 0).wr RED_DUAL_ACTIVE.f 0))

/-- Bring the role to `ARB_REQ` and `ARB_GNT`.  Under `FAILOVER_REQUEST` the node stays active until the grant falls
(R427). -/
def syncRole (s : State) : State :=
  let req := s.on RED_ARB_REQ.f || (s.pair.reqLow && s.on RED_HEALTHY.f && s.on RED_ACTIVE.f)
  let want := s.isPair && req && s.on RED_ARB_GNT.f
  if want == s.on RED_ACTIVE.f then s
  else if want then becomeActive s
  else becomeStandby (if !s.on RED_HEALTHY.f then 3 else if s.pair.reqLow then 4 else 1) s

/-- Raise the guarded channels of a healthy standby whose partner is declared failed (R433). -/
def takeGuarded (s : State) : State :=
  let list := (List.range 256).filter (fun c => bit (s.rd (RED_GUARDED_w.f (c / 64))) (c % 64) && !(s.chan c).taken)
  if !s.isPair || s.on RED_ACTIVE.f || !s.on RED_HEALTHY.f || !s.on RED_DECLARED.f || list.isEmpty then s
  else
    let gap := s.guidonGap
    let take (t : State) (c : Nat) : State :=
      let u := enterHold c t
      syncChan c (u.setChan c { u.chan c with taken := true })
    let s1 := list.foldl take { s with pair := { s.pair with taken := true } }
    if s.pair.taken then s1
    else pairFailover 3 2 gap (s1.wr RED_LAST_GAP_NS.f (Nat.min gap (2 ^ 32 - 1)))

/-- Guarded channels taken over return to standby behaviour (R433). -/
def returnGuarded (s : State) : State :=
  if !s.pair.taken then s
  else
    let list := s.outputs.filter (fun c => (s.chan c).taken)
    list.foldl (fun t c => leaveActive c t) { s with pair := { s.pair with taken := false } }

/-! Health (R424). -/

/-- Every condition of R424 holds. -/
def State.healthy (s : State) : Bool :=
  let m := s.rd RED_HEALTH_MASK.f
  s.sys.power == 3 && !s.pair.shutdown && s.dieUp 0 && s.dieUp 1 && s.sys.stage == 3 && !s.pair.fwLate
    && s.rd LAD_THERM_STATE.f != 3 && s.rd GLB_STRAP_JTAG.f != 3
    && !(bit m 0 && s.rd TCY_STATE.f == 8) && !(bit m 1 && s.rd TCY_STATE.f == 7)
    && !(bit m 2 && (List.range 32).any (fun f => s.operOf (unitId 5 f) == 2))
    && !(bit m 3 && s.rd LAD_THERM_STATE.f == 2)

/-- Bring `RED_HEALTHY`, `ARB_REQ` and the role to the conditions (R424, R425). -/
def rehealth (s : State) : State :=
  let h := s.isPair && s.healthy
  let s1 := s.wrB RED_HEALTHY.f h
  let s2 := if h then s1 else
    (if s1.pair.taken && !s1.on RED_ACTIVE.f then pairFailover 1 3 0 (returnGuarded s1) else s1)
  let req := h && s2.on RED_REQ_EN.f && !s2.pair.reqLow
  let s3 := if req == s2.on RED_ARB_REQ.f then s2 else (s2.wrB RED_ARB_REQ.f req).emit (.pin .arbReq (b2n req))
  takeGuarded (syncRole s3)

/-! Declarations (R430). -/

/-- The yield ends with the partner's activeness, of which a declaration is the end: the node acts as the active one again
(R434). -/
def endYield (s : State) : State :=
  let s1 := s.wr RED_DUAL_ACTIVE.f 0
  s1.pairedOutputs.foldl (fun t c => enterHold c t) s1

/-- Report what the paths have come to: a declaration, or the loss of one path. -/
def reportPaths (s : State) : State :=
  let h := s.pair.hal.missed
  let b := s.bbMissed
  if h && b then
    if s.on RED_DECLARED.f then s
    else
      let s1 := partnerLost 0 false ((s.wr RED_DECLARED.f 1).inc RED_DECLARATIONS.f)
      takeGuarded (if s1.on RED_DUAL_ACTIVE.f then endYield s1 else s1)
  else if h != b then
    let p := if h then 1 else 2
    if s.pair.lostPath = p then s else partnerLost p false { s with pair := { s.pair with lostPath := p } }
  else s

/-- A guidon path goes 30 µs, or a further 10 µs, without an accepted guidon. -/
def missPath (g : GuidonPath) : GuidonPath × Nat :=
  if g.missed then ({ g with row := 0, activeRow := 0, counted := g.counted + 1 }, 1)
  else ({ g with row := 0, activeRow := 0, missed := true, counted := 3 }, 3 - Nat.min 3 g.counted)

/-- `GUIDON_MISS`: path 0 is Halyard, 1 the backbone. -/
def guidonMiss (path : Nat) (s : State) : State :=
  if !s.isPair then s
  else if path = 0 then
    let (g, n) := missPath s.pair.hal
    reportPaths ({ s with pair := { s.pair with hal := g } }.incBy RED_HAL_MISS.f n)
  else
    let (g, n) := missPath s.pair.bb
    reportPaths ({ s with pair := { s.pair with bb := g } }.incBy RED_BB_MISS.f n)

/-- The meaning of `GUIDON_MISS`. -/
def execGuidonMiss (path : Nat) (s : State) : Outcome := act (whenRunning (guidonMiss path)) s

/-! Guidons (R428 to R430). -/

/-- The partner's guidons are accepted on at least one path. -/
def State.partnerSeen (s : State) : Bool :=
  (s.pair.hal.seq.isSome && !s.pair.hal.missed) || (s.pair.bb.seq.isSome && !s.bbMissed)

/-- The guidon header of Table 14-3. -/
def State.guidonHeader (s : State) (mirror : Bool) : List Byte :=
  let flags := s.rd RED_HEALTHY.f + 2 * s.rd RED_ACTIVE.f + 4 * s.rd RED_ARB_REQ.f + 8 * b2n mirror + 16 * b2n s.partnerSeen
  let b := toBE 1 s.pair.seq ++ toBE 1 flags ++ toBE 4 (s.rd HST_UID.f) ++ toBE 1 0
  b ++ toBE 1 (crc8 b)

/-- A guidon sequence is newer than the last accepted of its path. -/
def newerSeq (last : Option Nat) (q : Nat) : Bool :=
  match last with
  | none => true
  | some l => let d := (q + 256 - l % 256) % 256; 1 ≤ d && d < 128

/-- A path after an accepted guidon, whose rows go on when it follows the last accepted by its sequence, and the misses that its gap adds. -/
def acceptPath (g : GuidonPath) (q up : Nat) (active : Bool) : GuidonPath × Nat :=
  let gaps := if g.seq.isSome then (up - g.at_ - 1) / 10000 else 0
  let next (n : Nat) : Nat := if g.seq == some ((q + 255) % 256) then n + 1 else 1
  ({ seq := some q, at_ := up, row := next g.row, activeRow := if active then next g.activeRow else 0, missed := false,
     counted := 0 }, gaps - g.counted)

/-- The single path whose loss was reported is back. -/
def pathBack (p : Nat) (s : State) : State :=
  if s.pair.lostPath = p then partnerLost p true { s with pair := { s.pair with lostPath := 0 } } else s

/-- `FAILOVER_REQUEST` ends: `ARB_REQ` goes high again. -/
def endFailover (status : Nat) (s : State) : State :=
  cmdDoneAll 0x0903 (fun _ => true) status (fun _ => []) (rehealth { s with pair := { s.pair with reqLow := false } })

/-- The node with the higher unique ID yields (R434). -/
def yields (s : State) : Bool :=
  match s.directoryPartner with
  | some u => decide (u < s.rd HST_UID.f)
  | none => decide (s.rd RED_PARTNER_UID.f < s.rd HST_UID.f % 2 ^ 32)

/-- What an accepted guidon with its flags brings (R427, R430, R433, R434). -/
def takeFlags (flags : Nat) (halyard : Bool) (s : State) : State :=
  let active := bit flags 1
  let s1 := if halyard && s.on RED_DECLARED.f && 3 ≤ s.pair.hal.row then partnerLost 0 true (s.wr RED_DECLARED.f 0) else s
  let s2 := if active && s1.pair.taken && !s1.on RED_ACTIVE.f then returnGuarded s1 else s1
  let s3 := if active && s2.pair.reqLow && !s2.on RED_ACTIVE.f then endFailover stOk s2 else s2
  let s4 := if !active && s3.on RED_DUAL_ACTIVE.f then endYield s3 else s3
  let s5 :=
    if halyard && 3 ≤ s4.pair.hal.activeRow && s4.on RED_ACTIVE.f && !s4.on RED_DUAL_ACTIVE.f && yields s4 then
      pairFailover 1 5 0 (followNow ((s4.wr RED_DUAL_ACTIVE.f 1).inc RED_DUAL_COUNT.f))
    else s4
  reportPaths s5

/-- A guidon header arrives on a path: whether it is accepted. -/
def guidonHeaderIn (halyard : Bool) (hdr : List Byte) (s : State) : State × Bool :=
  if hdr.length != 8 || byteAt hdr 7 != crc8 (hdr.take 7) then (s.inc RED_HAL_CRC.f, false)
  else
    let q := byteAt hdr 0
    let flags := byteAt hdr 1
    let g := if halyard then s.pair.hal else s.pair.bb
    let set (g' : GuidonPath) (t : State) : State :=
      if halyard then { t with pair := { t.pair with hal := g' } } else { t with pair := { t.pair with bb := g' } }
    let s1 := { s.wr RED_PARTNER_UID.f (beAt hdr 2 4) with pair := { s.pair with partner := some flags } }
    if s.pair.stranger || !newerSeq g.seq q then (s1, false)
    else if !bit flags 0 then
      let s2 := set { g with row := 0, activeRow := 0 } s1
      (if !bit flags 1 && s2.on RED_DUAL_ACTIVE.f then endYield s2 else s2, false)
    else
      let (g', n) := acceptPath g q s.clk.up (bit flags 1)
      let s2 := (set g' s1).incBy (if halyard then RED_HAL_MISS.f else RED_BB_MISS.f) n
      (takeFlags flags halyard (pathBack (if halyard then 1 else 2) s2), true)

/-- A mirror image: its bitmap and codes, none when its length or CRC fails. -/
def mirrorOf (b : List Byte) : Option (List Byte × List Nat) :=
  let l := beAt b 0 2
  let n := 34 + 2 * l
  if b.length == n + 4 && beAt b n 4 == crc32c (b.take n) then
    some (slice b 2 32, (List.range l).map (fun i => beAt b (34 + 2 * i) 2))
  else none

/-- A Halyard frame (R428, R403). -/
def halyardFrame (hdr mirror : List Byte) (s : State) : State :=
  if !s.isPair then s
  else
    let (s1, _) := guidonHeaderIn true hdr s
    let good := hdr.length == 8 && byteAt hdr 7 == crc8 (hdr.take 7)
    if !good || !bit (byteAt hdr 1) 3 then s1
    else match mirrorOf mirror with
      | none => s1.inc RED_HAL_CRC.f
      | some (bitmap, codes) => if s1.pair.stranger then s1 else takeMirror bitmap codes s1

/-- The meaning of `HALYARD_FRAME_RECEIVE`. -/
def execHalyardFrameReceive (hdr mirror : List Byte) (s : State) : Outcome := act (whenRunning (halyardFrame hdr mirror)) s

/-- A guidon ordered set on a lane of a facing plane-end. -/
def backboneGuidon (mac : Nat) (hdr : List Byte) (s : State) : State :=
  if !s.isPair || !s.facingEnds.contains (mac / 4) || !s.on RED_BB_PATH.f then s else (guidonHeaderIn false hdr s).1

/-- The meaning of `BACKBONE_GUIDON_RECEIVE`. -/
def execBackboneGuidonReceive (mac : Nat) (hdr : List Byte) (s : State) : Outcome := act (whenRunning (backboneGuidon mac hdr)) s

/-- Halyard comes up, with the partner it shows, or is lost (R428, R423). -/
def halyardUp (up : Bool) (uid : Nat) (s : State) : State :=
  let s1 := (s.wrB RED_HAL_UP.f up).setOper 0x087F (if up then 1 else 2)
  if up then checkPartner (s1.wr RED_PARTNER_UID.f uid) else s1

/-- The meaning of `HALYARD_UP`. -/
def execHalyardUp (up : Bool) (partnerUid : Nat) (s : State) : Outcome := act (whenRunning (halyardUp up partnerUid)) s

/-- The standby has received no mirror image for the time of R404 and R431. -/
def mirrorStale (s : State) : State :=
  if !s.isPair || s.pairActive || s.on RED_DECLARED.f then s
  else (s.pairedOutputs.filter (fun c => s.fmode c == 3 && s.follows c)).foldl
    (fun t c => syncChan c (t.setChan c { t.chan c with stale := true })) s

/-- The meaning of `MIRROR_STALE`. -/
def execMirrorStale (s : State) : Outcome := act (whenRunning mirrorStale) s

/-! Health trips, grant and the commands. -/

/-- A health trip as hardware finds it: 0 rails, 1 field links, 2 firmware, 3 thermal, 4 a selected state (R424). -/
def healthTrip (b : Nat) (s : State) : State :=
  rehealth (match b with
    | 0 => { s with pair := { s.pair with shutdown := true } }
    | 2 => { s with pair := { s.pair with fwLate := true } }
    | _ => s)

/-- The meaning of `HEALTH_TRIP`. -/
def execHealthTrip (b : Nat) (s : State) : Outcome := act (whenRunning (healthTrip b)) s

/-- The filtered level of `ARB_GNT` changes. -/
def grantChange (level : Nat) (s : State) : State := if s.isPair then syncRole (s.wr RED_ARB_GNT.f level) else s.wr RED_ARB_GNT.f level

/-- The meaning of `ARB_GNT_CHANGE`. -/
def execArbGntChange (level : Nat) (s : State) : Outcome := act (whenRunning (grantChange level)) s

/-- A write of `RED_REQ_EN` and `RED_HEALTH_MASK` (R440). -/
def writeReqEn (en mask : Nat) (s : State) : State := rehealth ((s.wr RED_REQ_EN.f en).wr RED_HEALTH_MASK.f mask)

/-- The meaning of `RED_REQ_EN`. -/
def execRedReqEn (en mask : Nat) (s : State) : Outcome := act (whenUp (writeReqEn en mask)) s

/-- Role as `PAIR_STATUS` gives it (R437). -/
def State.pairRole (s : State) : Nat :=
  if !s.isPair then 0 else if s.pairActive then 2 else if s.pair.taken then 3 else 1

/-- The partner's state (R437). -/
def State.partnerState (s : State) : Nat :=
  match s.pair.partner with
  | none => if s.on RED_DECLARED.f then 4 else 0
  | some f =>
    if s.on RED_DECLARED.f then 4
    else if !bit f 0 || s.pair.hal.missed || s.bbMissed || s.pair.stranger then 3
    else if bit f 1 then 2 else 1

/-- `PAIR_STATUS`. -/
def cmdPairStatus (h : CmdHdr) (s : State) : State :=
  command 0x0901 h [] (fun s => ansOk s (toBE 1 s.pairRole ++ toBE 1 s.partnerState ++ toBE 4 (s.rd RED_HAL_MISS.f)
    ++ toBE 4 (s.rd RED_BB_MISS.f))) s

/-- The meaning of `PAIR_STATUS`. -/
def execPairStatus (h : CmdHdr) (s : State) : Outcome := act (whenServing (cmdPairStatus h)) s

/-- Replace the guarded list; a channel that leaves it after a takeover by declaration returns to standby behaviour. -/
def setGuarded (l : List Nat) (s0 : State) : State :=
  let s := (s0.outputs.filter (fun c => (s0.chan c).taken && !l.contains c)).foldl (fun t c => leaveActive c t) s0
  let word (w : Nat) : Nat := (l.filter (fun c => c / 64 = w)).foldl (fun a c => a + 2 ^ (c % 64)) 0
  let s1 := (List.range 4).foldl (fun t w => t.wr (RED_GUARDED_w.f w) (word w)) s
  takeGuarded (s1.wr RED_GUARDED_N.f l.length)

/-- `GUARDED_SET` (R432). -/
def cmdGuardedSet (h : CmdHdr) (channels : List Nat) (s : State) : State :=
  command 0x0902 h (toBE 1 channels.length ++ (channels.map (fun c => BitVec.ofNat 8 c))) (fun s =>
    if channels.length > 32 then ansRange s 0
    else match (List.range channels.length).find? (fun i => (channels.take i).contains (channels.getD i 0)) with
      | some i => ansRange s (1 + i)
      | none => match channels.find? (fun c => !s.on (FC_PAIRED.f c) || !outMode (s.fmode c)) with
        | some c => ansConflict s (unitId 7 c)
        | none => ansOk (setGuarded channels s)) s

/-- The meaning of `GUARDED_SET`. -/
def execGuardedSet (h : CmdHdr) (channels : List Nat) (s : State) : Outcome := act (whenServing (cmdGuardedSet h channels)) s

/-- The partner's latest guidon reports it healthy and standby. -/
def State.partnerReady (s : State) : Bool :=
  match s.pair.partner with
  | some f => bit f 0 && !bit f 1 && !s.on RED_DECLARED.f && !s.pair.stranger
  | none => false

/-- `FAILOVER_REQUEST` (R427). -/
def cmdFailoverRequest (h : CmdHdr) (s : State) : State :=
  command 0x0903 h [] (fun s =>
    if !s.isPair || !s.pairActive || !s.partnerReady then ansConflict s
    else acceptLong h 0x0903 0 0 (fun t => rehealth { t with pair := { t.pair with reqLow := true } }) s) s

/-- The meaning of `FAILOVER_REQUEST`. -/
def execFailoverRequest (h : CmdHdr) (s : State) : Outcome := act (whenServing (cmdFailoverRequest h)) s

/-- The partner is not active 10 ms after acceptance (R427). -/
def failoverTimeout (s : State) : State := if s.pair.reqLow then endFailover stTimeout s else s

/-- The meaning of `FAILOVER_TIMEOUT`. -/
def execFailoverTimeout (s : State) : Outcome := act (whenRunning failoverTimeout) s

/-! Field links (R12, R406). -/

/-- A frame of a die link (Table 01-2).  One that fails its CRC is counted, whatever the link's state (R12).  Of a field link that
is up the third failed frame in a row loses the link, and a good one brings what the die reports, and the core answers with the
output image; field die 0 brings the debounced sense inputs.  Link 2 is the core–power link. -/
def linkFrame (die : Nat) (ok : Bool) (senses : Nat) (meas : List ChanMeas) (s : State) : State :=
  if !ok then
    let s1 := s.inc (GLB_LINKl_CRC.f die)
    if die = 2 || !s.dieUp die then s1
    else
      let n := s.fld.missed.getD die 0 + 1
      let s2 := { s1 with fld := { s.fld with missed := putAt die n s.fld.missed } }
      if n ≥ 3 then rehealth (loseFieldLink die s2) else s2
  else if die = 2 || !s.dieUp die then s
  else
    let s1 := { s with fld := { s.fld with missed := putAt die 0 s.fld.missed } }
    let s2 := (meas.filter (fun m => m.channel < 256 && dieOf m.channel == die)).foldl (fun t m => takeMeas m t) s1
    let s3 := if die = 0 then { s2 with hst := { s2.hst with cabActive := bit senses 2 } } else s2
    s3.emit (.fieldFrame die (s3.outputImage die))

/-- The meaning of `FIELD_LINK_FRAME`. -/
def execFieldLinkFrame (die : Nat) (ok : Bool) (senses : Nat) (meas : List ChanMeas) (s : State) : Outcome :=
  act (whenRunning (fun s => if die < 3 then linkFrame die ok senses meas s else s)) s

/-- The meaning of `FIELD_LINK_LOST`: three frames missed in a row (3 µs). -/
def execFieldLinkLost (die : Nat) (s : State) : Outcome :=
  act (whenRunning (fun s => if die < 2 then rehealth (loseFieldLink die s) else s)) s

/-- The meaning of `FIELD_LINK_UP`: the core sends every configuration (R406). -/
def execFieldLinkUp (die : Nat) (s : State) : Outcome :=
  act (whenRunning (fun s => if die < 2 then rehealth (raiseFieldLink die s) else s)) s

end Sys2Proof.Machine
end

