-- ==== Sys2Proof/Machine/Time.lean ====
section
/-!
DEFINITION. Train time (spec/06): delay exchanges (R176 to R178), the servo (R179 to R181), quality (R182), scheduled
steps (R183, R184), references (R189 to R195) and the boundary clock (R196).
-/
namespace Sys2Proof.Machine
open Sys2Proof

/-! Delay exchanges. -/

/-- A lane with no delay state. -/
def delayNone : DelayLane := { results := [], dx := none }

/-- The delay state of a MAC's lane. -/
def State.dly (s : State) (mac : Nat) : DelayLane := s.tim.delays.getD mac delayNone

/-- Replace a lane's delay state. -/
def State.setDly (s : State) (mac : Nat) (d : DelayLane) : State :=
  { s with tim := { s.tim with delays := putAt mac d s.tim.delays } }

/-- A lane lost its training: its delay state is cleared (R177), and what waits for a gap on it goes nowhere. -/
def clearDelay (mac : Nat) (s : State) : State :=
  let s1 := s.setDly mac delayNone
  let s2 : State := { s1 with bkb := { s1.bkb with gaps := s1.bkb.gaps.filter (fun x => x.1 != mac) } }
  (s2.wr (TIM_DLY_PEp_Ll.f (mac / 4) (mac % 4)) 0).wr (TIM_DLY_PEp_Ll_VALID.f (mac / 4) (mac % 4)) 0

/-- An exchange is void: counted, and no other effect (R177). -/
def voidDx (mac : Nat) (s : State) : State :=
  (s.setDly mac { s.dly mac with dx := none }).inc (TIM_DX_FAIL_PEp_Ll.f (mac / 4) (mac % 4))

/-- The body of Table 06-1. -/
def dxBody (typ lane seq t2 t3 : Nat) : List Byte :=
  toBE 1 typ ++ toBE 1 lane ++ toBE 2 seq ++ toBE 8 t2 ++ toBE 8 t3 ++ zeros 10

/-- Send the request of an exchange: t1 is its transmit instant (R177). -/
def sendDxRequest (mac : Nat) (s : State) : State :=
  let seq := s.tim.dxSeq
  let s1 := s.setDly mac { s.dly mac with dx := some { seq := seq, t1 := s.clk.now, t2 := none, t4 := none } }
  sendLane mac (localFrame s1 7 (dxBody 1 (mac % 4) seq 0 0))
    { s1 with tim := { s1.tim with dxSeq := (seq + 1) % 65536 } }

/-- Start one exchange on a trained lane; its request goes out in a gap that R90 allows (R177). -/
def startDx (mac : Nat) (s : State) : State :=
  let s0 := if (s.dly mac).dx.isSome then voidDx mac s else s
  if s0.laneGap mac then sendDxRequest mac s0 else holdGap mac .request s0

/-- Answer a request with the response and its follow-up (R177). -/
def sendDxResponse (mac seq t2 : Nat) (s : State) : State :=
  let s1 := sendLane mac (localFrame s 7 (dxBody 2 (mac % 4) seq t2 0)) s
  sendLane mac (localFrame s1 7 (dxBody 3 (mac % 4) seq 0 s.ts)) s1

/-- An accepted result enters the mean of the most recent 16 (R177). -/
def acceptDx (mac d : Nat) (s : State) : State :=
  let rs := (d :: (s.dly mac).results).take 16
  let mean := (roundOpen (rs.foldl (· + ·) 0 : Nat) rs.length).toNat
  ((s.setDly mac { results := rs, dx := none }).wr (TIM_DLY_PEp_Ll.f (mac / 4) (mac % 4)) mean).wrB
    (TIM_DLY_PEp_Ll_VALID.f (mac / 4) (mac % 4)) (4 ≤ rs.length || s.on (TIM_DLY_PEp_Ll_VALID.f (mac / 4) (mac % 4)))

/-- d_in in ps of a complete exchange: ((t4 − t1) − (t3 − t2)) / 2 − a / 2. -/
def dxResult (x : Dx) (t2 t4 t3 : Nat) (a : Int) : Int :=
  roundOpen ((((t4 : Int) - x.t1) - compactDiff t3 t2) * 1000 - a) 2

/-- A delay exchange frame arrived on a lane (R177). -/
def receiveDx (rx : RxBb) (s : State) : State :=
  let mac := rx.mac
  let b := rx.frame.body
  let typ := byteAt b 0
  let seq := beAt b 2 2
  let good := rx.fcsOk && rx.symOk
  match typ with
  | 1 =>
    if !good then s
    else if s.laneGap mac then sendDxResponse mac seq (compact rx.time) s
    else holdGap mac (.response seq (compact rx.time)) s
  | 2 => match (s.dly mac).dx with
    | none => s
    | some x =>
      if !good || seq != x.seq then voidDx mac s
      else s.setDly mac { s.dly mac with dx := some { x with t2 := some (beAt b 4 8), t4 := some rx.time } }
  | 3 => match (s.dly mac).dx with
    | none => s
    | some x => match good && seq == x.seq, x.t2, x.t4 with
      | true, some t2, some t4 =>
        let d := dxResult x t2 t4 (beAt b 12 8) (s.rdS (TIM_ASYM_PEp_Ll.f (mac / 4) (mac % 4)))
        if d < 0 || d > 10000000 then voidDx mac s else acceptDx mac d.toNat s
      | _, _, _ => voidDx mac s
  | _ => s

/-- The delay in ps that R178 takes for a lane: its own, or that of the lowest lane of its plane-end. -/
def State.laneDelay (s : State) (mac : Nat) : Option Nat :=
  let p := mac / 4
  if s.on (TIM_DLY_PEp_Ll_VALID.f p (mac % 4)) then some (s.rd (TIM_DLY_PEp_Ll.f p (mac % 4)))
  else ((List.range 4).find? (fun l => s.on (TIM_DLY_PEp_Ll_VALID.f p l))).map (fun l => s.rd (TIM_DLY_PEp_Ll.f p l))

/-! The rate correction and the servo. -/

/-- The slew limit in 2^-32 ns per ns. -/
def State.slew (s : State) : Nat := s.rd TIM_SLEW_PPB.f * 2 ^ 32 / 1000000000

/-- The rate correction. -/
def State.rate (s : State) : Int := s.rdS TIM_RATE.f

/-- The rate correction summed over uncorrected time up to now (R191). -/
def State.rateTotal (s : State) : Int := s.tim.rateSum + s.rate * ((s.clk.up : Int) - s.tim.rateFrom)

/-- Set the rate correction; f_h follows it while no reference has been `GOOD` (R191), and the sum runs on. -/
def setRate (r : Int) (s : State) : State :=
  let t := { s.tim with rateSum := s.rateTotal, rateFrom := s.clk.up }
  let s1 := { s with tim := t }.wrS TIM_RATE.f r
  if s.tim.haveHold then s1 else s1.wrS TIM_HOLD_FREQ.f r

/-- Clamp rate and integral to the slew limit in force (R181). -/
def clampSlew (s : State) : State :=
  let m : Int := s.slew
  setRate (clampInt (-m) m s.rate) { s with tim := { s.tim with integ := clampInt (-m) m s.tim.integ } }

/-- The gain after an offset (R180): doubled after 4 above 50 ns, halved after 64 below 10 ns.  An adapted gain applies from
the next update on, and the count that adapted it starts again (DESIGN CHOICE, log entry 85). -/
def adaptGain (o : Int) (t : TimeUnit) : TimeUnit :=
  let over_ := if absNat o > 50 then t.over50 + 1 else 0
  let under := if absNat o < 10 then t.under10 + 1 else 0
  let t1 := { t with over50 := over_, under10 := under }
  if over_ ≥ 4 then { t1 with over50 := 0, kiLog := Nat.max 2 (t.kiLog - 1) }
  else if under ≥ 64 then { t1 with under10 := 0, kiLog := Nat.min 6 (t.kiLog + 1) }
  else t1

/-- One servo update for an offset in ns over an interval of t ns (R180); none while frozen (R181). -/
def servoUpdate (o : Int) (t : Nat) (s : State) : State :=
  if s.on TIM_FREEZE.f || t = 0 then s
  else
    let m : Int := s.slew
    let i := clampInt (-m) m (s.tim.integ + roundOpen (o * 2 ^ 32) (2 ^ s.tim.kiLog * t))
    setRate (clampInt (-m) m (i + roundOpen (o * 2 ^ 32) (2 * t)))
      { s with tim := { adaptGain o s.tim with integ := i } }

/-- The servo after the clock has been set from a Pennant (R180): the rate stands, the integral takes it. -/
def servoRestart (s : State) : State :=
  { s with tim := { s.tim with integ := s.rate, kiLog := 4, over50 := 0, under10 := 0 } }

/-- The local clock counts nanoseconds modulo 2^48 s (R173). -/
def clockSpan : Nat := 2 ^ 48 * 1000000000

/-- A local instant after the clock has been moved. -/
def moveNs (d : Int) (t : Nat) : Nat := (((t : Int) + d) % (clockSpan : Nat)).toNat

/-- How far local instant t lies after u, in ns, read as R174 reads compact timestamps. -/
def nsDiff (t u : Nat) : Int := compactDiff (compact t) (compact u)

/-- Instants of real events that a reference unit, a PTP port and an axle hold, after the clock has been moved. -/
def RefUnit.move (d : Int) (u : RefUnit) : RefUnit := { u with waiting := u.waiting.map (fun w => (moveNs d w.1, w.2)) }
def PtpPort.move (d : Int) (p : PtpPort) : PtpPort :=
  { p with sync := p.sync.map (fun m => { m with rxTime := moveNs d m.rxTime }), reqTime := p.reqTime.map (moveNs d), t2 := p.t2 + d }
def Axle.move (d : Int) (a : Axle) : Axle := { a with te := moveNs d a.te }

/-- Move the local clock by a signed number of ns.  What the timebase and the odometry hold as local instants of past events
moves with it, so that intervals stay what they were (DEDUCED, log entry 91). -/
def moveClock (d : Int) (s : State) : State :=
  { s with clk := { s.clk with now := moveNs d s.clk.now },
           tim := { s.tim with refs := s.tim.refs.map (RefUnit.move d), ptp := s.tim.ptp.map (PtpPort.move d) },
           pos := { s.pos with axles := s.pos.axles.map (Axle.move d), pnStart := moveNs d s.pos.pnStart,
                               fusedAt := moveNs d s.pos.fusedAt,
                               history := s.pos.history.map (fun h => (moveNs d h.1, h.2)) } }

/-- Set the local clock. -/
def setClock (ns : Nat) (s : State) : State :=
  let s1 := moveClock ((ns : Int) - s.clk.now) s
  { s1 with clk := { s1.clk with frac := 0 } }

/-! Quality and source (R182). -/

/-- The source of the Lead's time. -/
def State.timeSource (s : State) : Nat :=
  if s.isLead then (if s.rd TIM_REF_ACTIVE.f == 0xF then 0xFF else s.rd TIM_REF_ACTIVE.f)
  else if s.rd TCY_LEAD_UID.f == 0 then 0xFE else s.tim.pnSource

/-- The quality of Table 06-2. -/
def State.timeQuality (s : State) : Nat :=
  let st := s.rd TCY_STATE.f
  if st == 8 then 3
  else if st == 5 || st == 6 then (if s.timeSource == 2 || s.timeSource == 3 || s.timeSource == 4 then 0 else 1)
  else 2

/-- Bring `TIM_QUALITY`, `TIM_REFUSING` and `TIM_SOURCE` to the state. -/
def State.syncTime (s : State) : State :=
  ((s.wr TIM_SOURCE.f s.timeSource).wr TIM_QUALITY.f s.timeQuality).wrB TIM_REFUSING.f (s.rd TCY_STATE.f == 8)

/-! Scheduled steps (R183, R184). -/

/-- Arm a step for a cycle. -/
def armStep (cycle : Nat) (step : Int) (s : State) : State :=
  let s1 : State := { s with tim := { s.tim with stepRef := s.rd TIM_REF_ACTIVE.f } }
  ((s1.wr TIM_STEP_ARMED.f 1).wr TIM_STEP_CYCLE.f cycle).wrS TIM_STEP_NS.f step

/-- Disarm the step. -/
def disarmStep (s : State) : State := ((s.wr TIM_STEP_ARMED.f 0).wr TIM_STEP_CYCLE.f 0).wr TIM_STEP_NS.f 0

/-- A step whose boundary this node has missed will never apply here: it no longer blocks another, nor fires in a later train
(R184). -/
def dropMissedStep (s : State) : State :=
  if s.on TIM_STEP_ARMED.f && !cycleAhead (s.rd TIM_STEP_CYCLE.f) s.cycle then disarmStep s else s

/-- An armed step not yet applied, 0 when none. -/
def State.armedStep (s : State) : Int := if s.on TIM_STEP_ARMED.f then s.rdS TIM_STEP_NS.f else 0

/-! References (R191 to R194).  Reference r is 2 `PPS_IN_A`, 3 `PPS_IN_B`, 4 PTP. -/

/-- A reference never seen. -/
def refNone : RefUnit :=
  { pulses := 0, lastPulse := none, anchorRef := 0, anchorUp := 0, startE := 0, lastE := 0, bad := false, waiting := none,
    timedOut := false, lastEvent := none }

/-- Reference r's unit. -/
def State.ref (s : State) (r : Nat) : RefUnit := s.tim.refs.getD (r - 2) refNone

/-- Replace it. -/
def State.setRef (s : State) (r : Nat) (u : RefUnit) : State :=
  { s with tim := { s.tim with refs := putAt (r - 2) u s.tim.refs } }

/-- Its state of Table 06-3: 0 ABSENT, 1 QUALIFYING, 2 GOOD, 3 SUSPECT, 4 REJECTED. -/
def State.refState (s : State) (r : Nat) : Nat := s.rd (TIM_REFr_STATE.f r)

/-- The entries of `TIM_REF_PRIO` before the list's end or a holdover mark (R190). -/
def prioList (v : Nat) : List Nat := ((List.range 5).map (fun i => bits v (4 * i) 4)).takeWhile (fun x => 2 ≤ x && x ≤ 4)

/-- The Lead's active reference under R193, 0xF in holdover. -/
def State.wantedRef (s : State) : Nat :=
  ((prioList (s.rd TIM_REF_PRIO.f)).find? (fun r => s.refState r == 2 || s.refState r == 3)).getD 0xF

/-- e_r of a reference time at an uncorrected instant, in 2^-32 ns (R191). -/
def State.phaseError (s : State) (r : Nat) (refNs : Int) (up : Nat) : Int :=
  let u := s.ref r
  let dt : Int := (up : Int) - u.anchorUp
  (refNs - u.anchorRef - dt) * 2 ^ 32 - dt * s.rdS TIM_HOLD_FREQ.f

/-- ν_r in ppt of a change of phase error over 60 s. -/
def freqPpt (de : Int) : Int := roundOpen (de * 1000) (60 * 2 ^ 32)

/-- The reference is active: the Lead takes its time from it, and it has not been lost or rejected since. -/
def State.refActive (s : State) (r : Nat) : Bool :=
  s.isLead && s.rd TIM_REF_ACTIVE.f == r && (s.refState r == 2 || s.refState r == 3)

/-- Raise `REF_STATE` (R210). -/
def raiseRef (r prev : Nat) (s : State) : State :=
  s.raise 0x0303 (unitId 0x0B r) (toBE 1 (s.refState r) ++ toBE 1 prev ++ toBE 4 (s.rd (TIM_REFr_PHASE_NS.f r))
    ++ toBE 4 (s.rd (TIM_REFr_FREQ_PPT.f r)) ++ toBE 1 (b2n (s.refActive r)))

/-- Set the anchor at an instant. -/
def anchor (r : Nat) (refNs : Int) (up : Nat) (s : State) : State :=
  (s.setRef r { s.ref r with anchorRef := refNs, anchorUp := up, startE := 0, lastE := 0, bad := false }).wr
    (TIM_REFr_STABLE_S.f r) 0

/-- A Lead with no reference to take holds over: the rate is held at f_h (R193), a frozen servo's too (DESIGN CHOICE, log
entry 86). -/
def holdover (s : State) : State :=
  if s.isLead && s.wantedRef == 0xF then (setRate (s.rdS TIM_HOLD_FREQ.f) (s.wr TIM_REF_ACTIVE.f 0xF)).syncTime else s

/-- A node that is Lead no more has no active reference (R189, R193). -/
def dropActive (s : State) : State :=
  { s.wr TIM_REF_ACTIVE.f 0xF with tim := { s.tim with holdFrom := none } }

/-- The window in which the active reference stays `GOOD` begins or breaks off (R191). -/
def State.windowFrom (s : State) (r : Nat) : Option (Nat × Int) :=
  if s.rd TIM_REF_ACTIVE.f != r then s.tim.holdFrom
  else if s.refActive r && s.refState r == 2 then some (s.clk.up, s.rateTotal) else none

/-- Enter a state of Table 06-3 from another. -/
def toRefState (r new : Nat) (raises : Bool) (s : State) : State :=
  let prev := s.refState r
  let s1 := (s.wr (TIM_REFr_STATE.f r) new).setOper (unitId 0x0B r) (if new = 2 || new = 3 then 1 else 2)
  let s2 := holdover { s1 with tim := { s1.tim with holdFrom := s1.windowFrom r } }
  if raises && prev != new then raiseRef r prev s2 else s2

/-- The reference is lost. -/
def refLost (r : Nat) (s : State) : State :=
  if s.refState r == 0 then s.setRef r refNone else toRefState r 0 true (s.setRef r refNone)

/-- Limits in 2^-32 ns and ppt. -/
def eOver (lim : Nat) (e : Int) : Bool := decide (absNat e > lim * 2 ^ 32)

/-- Judge a phase error under Table 06-3. -/
def judge (r : Nat) (e refNs : Int) (up : Nat) (s : State) : State :=
  match s.refState r with
  | 1 => if eOver 200 e then anchor r refNs up s else s
  | 2 =>
    if eOver 1000 e then anchor r refNs up (toRefState r 4 true s)
    else if eOver 200 e then toRefState r 3 true (s.setRef r { s.ref r with startE := e, bad := true })
    else s
  | 3 =>
    if eOver 1000 e then anchor r refNs up (toRefState r 4 true s)
    else if eOver 200 e then s.setRef r { s.ref r with bad := true } else s
  | 4 => if eOver 200 e then anchor r refNs up s else s
  | _ => s

/-- The Lead's step or slew for an offset of the active reference (R194).  When the reference has changed since a step was
armed, the offset to the new one is handled after the step (R188). -/
def discipline (o : Int) (interval : Nat) (s : State) : State :=
  let s1 := s.wr TIM_REF_OFFSET_NS.f (satSigned 32 o)
  if s.on TIM_STEP_ARMED.f && s.tim.stepRef != s.rd TIM_REF_ACTIVE.f then s1
  else if absNat o > s.rd TIM_AUTOSTEP_NS.f && s.on TIM_AUTOSTEP_EN.f && !s.on TIM_STEP_ARMED.f then
    (armStep ((s.cycle + s.rd TIM_AUTOSTEP_LEAD.f) % 2 ^ 32) o s1).inc TIM_AUTOSTEPS.f
  else servoUpdate o interval s1

/-- The active reference changes to r at its event (R193). -/
def takeActive (r : Nat) (s : State) : State :=
  if s.isLead && s.wantedRef == r && s.rd TIM_REF_ACTIVE.f != r then
    let s1 := ((s.wr TIM_REF_ACTIVE.f r).inc TIM_REF_SWITCHES.f).syncTime
    raiseRef r (s1.refState r) { s1 with tim := { s1.tim with holdFrom := none } }
  else s

/-- A reference event (R191 to R194): the reference names `refNs` at the local instant `t`, which in uncorrected ns is `up`.
A time of day that names another second than the model's is a phase error of half a second or more. -/
def refEvent (r : Nat) (refNs : Int) (t up : Nat) (present : Bool) (s : State) : State :=
  let prevEvent := (s.ref r).lastEvent
  let s0 := s.setRef r { s.ref r with lastEvent := some up }
  let s1 :=
    if s0.refState r == 0 then
      (if present then anchor r refNs up (toRefState r 1 false s0) else s0)
    else
      let e := s0.phaseError r refNs up
      let s2 := (s0.setRef r { s0.ref r with lastE := e }).wr (TIM_REFr_PHASE_NS.f r)
        (satSigned 32 (roundOpen e (2 ^ 32)))
      let s3 := judge r e refNs up s2
      s3.wr (TIM_REFr_STABLE_S.f r) ((up - (s3.ref r).anchorUp) / 1000000000)
  let s4 := takeActive r s1
  if s4.isLead && s4.rd TIM_REF_ACTIVE.f == r then
    let interval := match prevEvent with | some p => up - p | none => 1000000000
    discipline (refNs - t - s4.armedStep) interval s4
  else s4

/-- A node in OFF, LISTEN, BACKOFF or STARTUP sets its clock once from a reference's full time (R175). -/
def firstTime (refNs : Int) (t : Nat) (s : State) : State :=
  if s.rd TCY_STATE.f ≤ 3 && !s.tim.firstTime then
    setClock (refNs + (s.clk.now - t : Nat)).toNat { s with tim := { s.tim with firstTime := true } }
  else s

/-- The end of a 60 s window of a reference (R191, R192); `long` is the 600 s window of REJECTED. -/
def refWindow (r : Nat) (long : Bool) (s : State) : State :=
  let u := s.ref r
  let ppt := freqPpt (u.lastE - u.startE)
  let over_ (lim : Nat) : Bool := decide (absNat ppt > lim)
  let s1 := s.wr (TIM_REFr_FREQ_PPT.f r) (satSigned 32 ppt)
  let next (t : State) : State := t.setRef r { t.ref r with startE := u.lastE, bad := false }
  let refNow : Int := u.anchorRef + ((s.clk.up : Int) - u.anchorUp)
    + roundOpen (((s.clk.up : Int) - u.anchorUp) * s.rdS TIM_HOLD_FREQ.f + u.lastE) (2 ^ 32)
  let anchorNow (t : State) : State := anchor r refNow s.clk.up t
  match s.refState r with
  | 1 => if over_ 100000 || u.bad then anchorNow s1 else anchorNow (toRefState r 2 true s1)
  | 2 =>
    if over_ 200000 then anchorNow (toRefState r 4 true s1)
    else if over_ 100000 then next (toRefState r 3 true s1)
    else
      let s2 := match s.refActive r, s.tim.holdFrom with
        | true, some (from_, sum) =>
          if from_ < s.clk.up then
            { s1 with tim := { s1.tim with haveHold := true } }.wrS TIM_HOLD_FREQ.f (roundOpen (s.rateTotal - sum) (s.clk.up - from_))
          else s1
        | _, _ => s1
      anchorNow { s2 with tim := { s2.tim with holdFrom := s2.windowFrom r } }
  | 3 =>
    if over_ 200000 then anchorNow (toRefState r 4 true s1)
    else if !u.bad && !over_ 100000 then anchorNow (toRefState r 2 true s1)
    else next s1
  | 4 =>
    if over_ 100000 then anchorNow s1
    else if long && !u.bad then anchorNow (toRefState r 2 true s1)
    else s1.setRef r { u with startE := u.lastE }
  | _ => s1

/-! PPS inputs (R195): input 0 is `PPS_IN_A`, 1 `PPS_IN_B`. -/

/-- Time of day is expected on an input. -/
def State.todOn (s : State) (x : Nat) : Bool := if x = 0 then s.on TIM_PPSA_TOD_EN.f else s.on TIM_PPSB_TOD_EN.f

/-- A pulse that counts: its spacing to the last one, and presence after three. -/
def countPulse (x up : Nat) (s : State) : State × Bool :=
  let r := x + 2
  let u := s.ref r
  let ok := match u.lastPulse with
    | some p => 999900000 ≤ up - p && up - p ≤ 1000100000
    | none => false
  let n := if ok then u.pulses + 1 else 1
  (s.setRef r { u with pulses := n, lastPulse := some up }, 3 ≤ n)

/-- A pulse is treated as missing (R195). -/
def missPulse (x : Nat) (s : State) : State :=
  let r := x + 2
  s.setRef r { s.ref r with pulses := 0, waiting := none }

/-- A pulse at a corrected instant without time of day marks the second nearest to the model's reading; before there is a
model, to the local clock's. -/
def barePulse (x t up : Nat) (s : State) : State :=
  let r := x + 2
  let (s1, present) := countPulse x up s
  let u := s1.ref r
  let model : Int := if s1.refState r == 0 then (t : Int) else
    u.anchorRef + ((up : Int) - u.anchorUp) + ((up : Int) - u.anchorUp) * s1.rdS TIM_HOLD_FREQ.f / 2 ^ 32
  refEvent r (roundNearest model 1000000000 * 1000000000) t up present s1

/-- The edge that an input takes: the rising one, or the falling one with `TIM_PPSx_POL` set. -/
def State.ppsFalling (s : State) (x : Nat) : Bool := if x = 0 then s.on TIM_PPSA_POL.f else s.on TIM_PPSB_POL.f

/-- An edge of a PPS input at a local instant; one that the input does not take is none. -/
def ppsPulse (x : Nat) (falling : Bool) (time : Nat) (s : State) : State :=
  let comp := if x = 0 then s.rdS TIM_PPSA_COMP_NS.f else s.rdS TIM_PPSB_COMP_NS.f
  let t := ((time : Int) + comp).toNat
  let up := s.upAt t
  if falling != s.ppsFalling x then s
  else if s.todOn x then
    let r := x + 2
    let s1 := if (s.ref r).waiting.isSome then missPulse x s else s
    s1.setRef r { s1.ref r with waiting := some (t, up), timedOut := false }
  else barePulse x t up s

/-- 900 ms have passed without the message of a pulse: the pulse is missing and counted; a message that comes later is not
counted again. -/
def todTimeout (x : Nat) (s : State) : State :=
  let r := x + 2
  if s.todOn x && (s.ref r).waiting.isSome then
    let s1 := (missPulse x s).inc TIM_TOD_BAD.f
    s1.setRef r { s1.ref r with timedOut := true }
  else s

/-- A time-of-day message of Table 06-4, in time or not. -/
def todMessage (x : Nat) (b : List Byte) (s : State) : State :=
  let r := x + 2
  match s.todOn x, (s.ref r).waiting with
  | true, some (t, up) =>
    let late := s.clk.now - t
    let ok := b.length == 16 && beAt b 0 2 == 0xCE54 && beAt b 12 4 == crc32c (b.take 12) && 10000000 ≤ late && late ≤ 900000000
    if !ok then (missPulse x s).inc TIM_TOD_BAD.f
    else if !bit (byteAt b 10) 0 then missPulse x s
    else
      let ns : Int := (beAt b 2 6 : Nat) * 1000000000
      let (s1, present) := countPulse x up (s.setRef r { s.ref r with waiting := none })
      firstTime ns t (refEvent r ns t up present s1)
  | true, none => if (s.ref r).timedOut then s.setRef r { s.ref r with timedOut := false } else s.inc TIM_TOD_BAD.f
  | _, _ => s

/-! The boundary clock (R196).  Its best-master comparison is the default one of IEEE 1588, which the spec names and does not
print (PRESUMED, log entry 55). -/

/-- A port without PTP. -/
def ptpNone : PtpPort :=
  { state := 1, best := none, sync := none, reqSeq := 0, reqTime := none, t1 := 0, t2 := 0, delay := none, sendSeq := 0 }

/-- The PTP state of a vehicle port. -/
def State.ptpPort (s : State) (k : Nat) : PtpPort := s.tim.ptp.getD k ptpNone

/-- Replace it. -/
def State.setPtp (s : State) (k : Nat) (p : PtpPort) : State := { s with tim := { s.tim with ptp := putAt k p s.tim.ptp } }

/-- clockClass of this node (Table 06-5). -/
def State.ownClass (s : State) : Nat := match s.timeQuality with | 0 => 6 | 1 => 7 | _ => 248

/-- The data set of an Announce as a comparison key. -/
def annKey (m : PtpMsg) : List Nat := [m.prio1, m.clockClass, m.accuracy, m.variance, m.prio2, m.identity]

/-- The own data set: as announced, and as compared. -/
def State.ownKey (s : State) : List Nat :=
  [s.rd TIM_PTP_PRIO1.f, s.ownClass, Config.ptpAccuracy, Config.ptpVariance, s.rd TIM_PTP_PRIO2.f, s.rd HST_UID.f]

/-- Lexicographic order. -/
def lexLt : List Nat → List Nat → Bool
  | a :: l, b :: m => if a < b then true else if b < a then false else lexLt l m
  | _, _ => false

/-- Announce a is better than b, or better by topology: by data set, and for one grandmaster by the way to it. -/
def annBetter (a b : PtpMsg) : Bool :=
  if a.identity == b.identity then lexLt [a.steps, a.sender] [b.steps, b.sender] else lexLt (annKey a) (annKey b)

/-- a is better than b by topology alone: both lead to one grandmaster, and the ways differ by no more than one step.  `own` is
the identity of the clock that received both. -/
def annByTopology (own : Nat) (a b : PtpMsg) : Bool :=
  a.identity == b.identity && (if a.steps == b.steps then a.sender < b.sender else a.steps + 1 == b.steps && b.sender < own)

/-- SLAVE is open to a port (R175, Table 06-5). -/
def State.mayBeSlave (s : State) (k : Nat) : Bool :=
  bit (s.rd TIM_PTP_SLAVE_EN.f) k && (s.isLead || s.rd TCY_STATE.f ≤ 3)

/-- The best Announce of all ports. -/
def State.bestAnnounce (s : State) : Option PtpMsg :=
  (s.tim.ptp.filterMap PtpPort.best).foldl (fun b m => match b with
    | some o => if annBetter m o then some m else some o
    | none => some m) none

/-- The port's state by the Announces (2 MASTER, 3 PASSIVE, 4 SLAVE): a port to which SLAVE is not open is masterOnly.  Where it
is open, a clockClass up to 127 keeps a Lead from no reference, since Table 06-5 lets it be SLAVE (DEDUCED, log entry 55). -/
def ptpDecide (k : Nat) (s : State) : Nat :=
  match (s.ptpPort k).best, s.bestAnnounce with
  | some m, some e =>
    if !s.mayBeSlave k || !lexLt (annKey e) s.ownKey then 2
    else if e.port == m.port then 4
    else if annByTopology (s.rd HST_UID.f) e m then 3
    else 2
  | _, _ => 2

/-- Set a PTP port's state; PTP is lost as a reference when it leaves SLAVE (R191). -/
def setPtpState (k v : Nat) (s : State) : State :=
  let was := (s.ptpPort k).state
  let p := s.ptpPort k
  let s1 := s.setPtp k (if v == was then p else { p with state := v, sync := none, reqTime := none, delay := none })
  if was == 4 && v != 4 then refLost 4 s1 else s1

/-- A port in SLAVE leaves it when the node's state no longer allows it (Table 06-5). -/
def ptpRestrict (s : State) : State :=
  (List.range 48).foldl (fun t k => if (t.ptpPort k).state == 4 && !t.mayBeSlave k then setPtpState k 2 t else t) s

/-- A Sync with its precise origin time is a reference event.  Until an exchange of the port has measured a path delay it
counts as 0 (DEDUCED, log entry 55), and the node's first full time waits for that exchange (R175). -/
def ptpSync (k : Nat) (t2 : Nat) (origin corr : Int) (s : State) : State :=
  let p := s.ptpPort k
  let ref := origin + corr + p.delay.getD 0
  let s1 := refEvent 4 ref t2 (s.upAt t2) true (s.setPtp k { p with t1 := origin + corr, t2 := t2, sync := none })
  if p.delay.isSome then firstTime ref t2 s1 else s1

/-- External PHY latencies of the QSGMII lane of a vehicle port (R196). -/
def State.qsgRx (s : State) (k : Nat) : Nat := s.rd (TIM_QSGk_RX_NS.f (k / 4))

/-- A PTP message (R196). -/
def ptpMessage (m : PtpMsg) (s : State) : State :=
  let k := m.port
  let p := s.ptpPort k
  if k ≥ 48 || !bit (s.rd TIM_PTP_EN.f) k || m.domain != s.rd TIM_PTP_DOMAIN.f then s
  else
    let rxt := m.rxTime - s.qsgRx k
    match m.kind with
    | 4 =>
      let better := match p.best with | some o => o.sender == m.sender || annBetter m o | none => true
      let s1 := if better then s.setPtp k { p with best := some m } else s
      setPtpState k (ptpDecide k s1) s1
    | 0 =>
      if p.state != 4 then s
      else if m.oneStep then ptpSync k rxt m.time m.correction s
      else s.setPtp k { p with sync := some { m with rxTime := rxt } }
    | 1 => match p.state == 4, p.sync with
      | true, some y => if y.seq == m.seq then ptpSync k y.rxTime m.time (y.correction + m.correction) s else s
      | _, _ => s
    | 2 => if p.state == 2 then s.emit (.ptp k 3 m.seq (compact rxt) [m.requester]) else s
    | 3 => match p.state == 4 && m.seq == p.reqSeq && m.requester == s.rd HST_UID.f, p.reqTime with
      | true, some t3 =>
        let d := roundOpen ((p.t2 - p.t1) + ((m.time : Int) - m.correction - t3)) 2
        s.setPtp k { p with reqTime := none, delay := some d }
      | _, _ => s
    | _ => s

/-- No Announce within announceReceiptTimeout on a port (R196). -/
def ptpTimeout (k : Nat) (s : State) : State :=
  let s1 := s.setPtp k { s.ptpPort k with best := none }
  setPtpState k (ptpDecide k s1) s1

/-- A port's interval comes round: 0 Sync with its follow-up, 4 Announce, 2 Delay_Req. -/
def ptpInterval (k kind : Nat) (s : State) : State :=
  let p := s.ptpPort k
  if k ≥ 48 || !bit (s.rd TIM_PTP_EN.f) k then s
  else
    let seq := p.sendSeq
    let bump (t : State) : State := t.setPtp k { t.ptpPort k with sendSeq := (seq + 1) % 65536 }
    let out := compact (s.clk.now + s.rd (TIM_QSGk_TX_NS.f (k / 4)))
    if kind == 0 && p.state == 2 then bump ((s.emit (.ptp k 0 seq 0 [])).emit (.ptp k 1 seq out []))
    else if kind == 4 && p.state == 2 then bump (s.emit (.ptp k 4 seq 0 (s.ownKey ++ [0])))
    else if kind == 2 && p.state == 4 then
      bump ((s.setPtp k { p with reqSeq := seq, reqTime := some (s.clk.now + s.rd (TIM_QSGk_TX_NS.f (k / 4))) }).emit
        (.ptp k 2 seq 0 [s.rd HST_UID.f]))
    else s

/-- `PPS_OUT` may pulse (R211). -/
def State.ppsOutAllowed (s : State) : Bool :=
  s.on TIM_PPSO_EN.f && (s.timeQuality == 0 || (s.timeQuality == 1 && s.on TIM_PPSO_HOLDOVER.f))

end Sys2Proof.Machine
end

