-- ==== Sys2Proof/Machine/Position.lean ====
section
/-!
DEFINITION. Track position (spec/06): axles (R198 to R200), fusion (R201), reports and designation (R202 to R206), balise
corrections (R207); and line phase (R208, R209).
-/
namespace Sys2Proof.Machine
open Sys2Proof

/-! Axles. -/

/-- The pattern of π in binary64. -/
def f64Pi : Nat := 0x400921FB54442D18

/-- The distance of one step of axle n in 2^-32 µm (R198), computed in binary64 from the words in force. -/
def State.axleStep (s : State) (n : Nat) : Int :=
  let d := f64Mul f64Pi (f64OfInt (s.rd (POS_AXn_DIAM_UM.f n)))
  let k := if bit (s.rd POS_AX_PD.f) n then s.rd (POS_AXn_PPR.f n) else 4 * s.rd (POS_AXn_PPR.f n)
  let (num, den) := f64Rat (f64Div d (f64OfInt k))
  roundOpen (num * 2 ^ 32) den

/-- An axle at rest. -/
def axleNone : Axle :=
  { a := false, b := false, seen := false, te := 0, dir := 0, dt := 0, step := 0, fresh := false, pos := 0, fused := 0, agree := none }

/-- Axle n. -/
def State.axle (s : State) (n : Nat) : Axle := s.pos.axles.getD n axleNone

/-- Replace axle n. -/
def State.setAxle (s : State) (n : Nat) (a : Axle) : State := { s with pos := { s.pos with axles := putAt n a s.pos.axles } }

/-- An axle's next edge starts a new run with the step distance then in force (R199, R213). -/
def newRun (n : Nat) (s : State) : State := s.setAxle n { s.axle n with fresh := true }

/-- Nanoseconds from an axle's last edge to a local instant. -/
def State.axleAge (s : State) (n t : Nat) : Nat := (nsDiff t (s.axle n).te).toNat

/-- Velocity in 2^-32 µm/s at a local instant (R199): it falls as the next edge is overdue, and is 0 at standstill. -/
def State.axleVel (s : State) (n t : Nat) : Int :=
  let a := s.axle n
  let age := s.axleAge n t
  if a.dt = 0 || age > s.rd POS_STILL_MS.f * 1000000 then 0
  else roundOpen (a.dir * a.step * 1000000000) (Nat.max a.dt age)

/-- Position in 2^-32 µm at a local instant (R199): v(t) falls so that an overdue edge holds it at the next step, where it stays
at standstill (DEDUCED, log entry 94). -/
def State.axlePos (s : State) (n t : Nat) : Int :=
  let a := s.axle n
  if a.dt = 0 then a.pos else a.pos + roundOpen (a.dir * a.step * Nat.min (s.axleAge n t) a.dt) a.dt

/-- An enabled axle. -/
def State.axleOn (s : State) (n : Nat) : Bool := bit (s.rd POS_AX_EN.f) n

/-- The included axles. -/
def State.included (s : State) : List Nat := (List.range 4).filter (fun n => s.axleOn n && !s.on (POS_AXn_EXCL.f n))

/-- Millimetres per second of a velocity, for the words and events. -/
def mms (v : Int) : Int := roundNearest v (1000 * 2 ^ 32)

/-- Raise `AXLE_EXCLUDED` (R210). -/
def raiseAxle (n cause : Nat) (v vref : Int) (cleared : Bool) (s : State) : State :=
  s.raise 0x0304 (unitId 1 (0x7B + n)) (toBE 1 cause ++ toBE 4 (ofSigned 32 (mms v)) ++ toBE 4 (ofSigned 32 (mms vref))) cleared

/-- Exclude an axle (R200). -/
def excludeAxle (n cause : Nat) (v vref : Int) (s : State) : State :=
  let s1 := s.setAxle n { s.axle n with agree := none }
  if s.on (POS_AXn_EXCL.f n) then s1
  else raiseAxle n cause v vref false (((s1.wr (POS_AXn_EXCL.f n) 1).wr (POS_AXn_SUSPECT.f n) 0).inc (POS_AXn_EXCLS.f n))


/-- The sign of fused motion: an axle that runs forward moves toward E1; negated with `HST_ORIENT` 1 (R197). -/
def State.odoSign (s : State) : Int := if s.on HST_ORIENT.f then -1 else 1

/-- Twice the reference velocity of R200: the median of three or four included axles, else the fused velocity
turned to the sense in which axles count (R197). -/
def State.slipRef2 (s : State) (t : Nat) : Int :=
  let vs := (s.included.map (fun n => s.axleVel n t)).foldl
    (fun (l : List Int) v => (l.takeWhile (· < v)) ++ [v] ++ (l.dropWhile (· < v))) []
  match vs with
  | [_, b, _] => 2 * b
  | [_, b, c, _] => b + c
  | _ => 2 * (s.odoSign * s.pos.vel)

/-- A signal fault (R198): the edge is ignored, though the lines stand at their new levels; the axle is flagged, counted and
excluded. -/
def axleFault (e : AxleEdge) (s : State) : State :=
  let n := e.axle
  let s1 := s.setAxle n { s.axle n with a := e.a, b := e.b }
  excludeAxle n 1 (s.axleVel n e.time) (roundOpen (s.slipRef2 e.time) 2) ((s1.wr (POS_AXn_FAULT.f n) 1).inc (POS_AXn_FAULTS.f n))

/-- The phase of a quadrature pair in the forward order 00, 10, 11, 01 of A leading B. -/
def quadPhase (a b : Bool) : Nat := if !a then (if b then 3 else 0) else (if b then 2 else 1)

/-- A counted edge (R199): the axle moves by one step; a change of direction, or a changed step distance, makes the edge the
first of a new run. -/
def countEdge (e : AxleEdge) (forward : Bool) (s : State) : State :=
  let n := e.axle
  let x := s.axle n
  let d : Int := if forward != bit (s.rd POS_AX_INV.f) n then 1 else -1
  s.setAxle n { x with a := e.a, b := e.b, seen := true, fresh := false, te := e.time, dir := d, step := s.axleStep n,
                       pos := x.pos + d * s.axleStep n,
                       dt := if x.seen && x.dir == d && !x.fresh then s.axleAge n e.time else 0 }

/-- An edge on an axle input (R198, R199). -/
def axleEdge (e : AxleEdge) (s : State) : State :=
  let n := e.axle
  let x := s.axle n
  let close := x.seen && s.axleAge n e.time < 2500
  if n ≥ 4 || !s.axleOn n then s
  else if bit (s.rd POS_AX_PD.f) n then
    if !(e.a && !x.a) then s.setAxle n { x with a := e.a, b := e.b }
    else if close then axleFault e s
    else countEdge e (e.b == Config.highIsForward) s
  else if e.a == x.a && e.b == x.b then s
  else if close || (e.a != x.a && e.b != x.b) then axleFault e s
  else countEdge e (((quadPhase e.a e.b + 4 - quadPhase x.a x.b) % 4 == 1) == Config.aLeadsForward) s

/-- An axle disagrees with twice a reference velocity (R200). -/
def State.disagrees (s : State) (n t : Nat) (ref2 : Int) : Bool :=
  let d2 := absNat (2 * s.axleVel n t - ref2)
  d2 > 2 * s.rd POS_SLIP_ABS_MMS.f * 1000 * 2 ^ 32 && 100 * d2 > s.rd POS_SLIP_REL_PCT.f * absNat ref2

/-- One axle's slip check. -/
def slipAxle (n t : Nat) (ref2 : Int) (count : Nat) (s : State) : State :=
  let v := s.axleVel n t
  let vref := roundOpen ref2 2
  let s0 := s.wrS (POS_AXn_VEL_MMS.f n) (mms v)
  let bad := s.disagrees n t ref2
  if s.on (POS_AXn_EXCL.f n) then
    if bad then s0.setAxle n { s.axle n with agree := none }
    else match (s.axle n).agree with
      | none => s0.setAxle n { s.axle n with agree := some s.clk.up }
      | some from_ =>
        if s.clk.up - from_ ≥ s.rd POS_AGREE_MS.f * 1000000 then
          raiseAxle n 0 v vref true ((((s0.wr (POS_AXn_EXCL.f n) 0).wr (POS_AXn_FAULT.f n) 0)).setAxle n { s.axle n with agree := none })
        else s0
  else if count ≤ 1 then s0
  else if count = 2 then s0
  else if bad then excludeAxle n 0 v vref s0
  else s0

/-- One axle of a pair becomes suspect, or is so no more, with its event at velocity `v` against `ref` (R200). -/
def markSuspect (bad : Bool) (v ref : Int) (n : Nat) (s : State) : State :=
  if bad && !s.on (POS_AXn_SUSPECT.f n) then raiseAxle n 2 v ref false (s.wr (POS_AXn_SUSPECT.f n) 1)
  else if !bad && s.on (POS_AXn_SUSPECT.f n) then raiseAxle n 2 v ref true (s.wr (POS_AXn_SUSPECT.f n) 0)
  else s

/-- The slip check of R200 over every enabled axle; two included axles that disagree become a suspect pair. -/
def slipCheck (s : State) : State :=
  let t := s.clk.now
  let inc := s.included
  let ref2 := s.slipRef2 t
  let s1 := ((List.range 4).filter (fun n => s.axleOn n)).foldl (fun u n => slipAxle n t ref2 inc.length u) s
  if inc.length = 2 then
    let bad := inc.any (fun n => s.disagrees n t ref2)
    inc.foldl (fun u n => markSuspect bad (s.axleVel n t) (roundOpen ref2 2) n u) s1
  else (List.range 4).foldl (fun u n => u.wr (POS_AXn_SUSPECT.f n) 0) s1

/-! Fusion (R201, R206). -/

/-- Keep the history: every 100 µs, for the last second. -/
def keepHistory (p : PosUnit) (now : Nat) : PosUnit :=
  if p.ticks ≥ 9 then { p with ticks := 0, history := ((now, p.fused) :: p.history).take 10000 }
  else { p with ticks := p.ticks + 1 }

/-- Some axle is included and not suspect: fusion follows the axles. -/
def State.odoGood (s : State) : Bool := s.included.any (fun n => !s.on (POS_AXn_SUSPECT.f n))

/-- The mean of the included axles' increments from the last fusion step to a local instant, in the sense of the train. -/
def State.increment (s : State) (t : Nat) : Int :=
  s.odoSign * roundOpen ((s.included.map (fun n => s.axlePos n t - (s.axle n).fused)).foldl (· + ·) 0) s.included.length

/-- One fusion step of a capable node (R201). -/
def fusionUpdate (s : State) : State :=
  if !s.on POS_ODO_CAP.f then s
  else
    let t := s.clk.now
    let p := s.pos
    let marked := { p with axles := (List.range 4).map (fun n => { s.axle n with fused := s.axlePos n t }), fusedAt := t }
    let moved : PosUnit :=
      if s.odoGood then
        let vel := (s.included.map (fun n => s.axleVel n t)).foldl (· + ·) 0
        { marked with fused := p.fused + s.increment t, vel := s.odoSign * roundOpen vel s.included.length, extrapFrom := none }
      else
        let from_ := p.extrapFrom.getD s.clk.up
        { marked with fused := p.fused + roundOpen p.vel 100000, extrapFrom := some from_,
                      valid := p.valid && s.clk.up - from_ < s.rd POS_EXTRAP_MS.f * 1000000 }
    { s with pos := keepHistory moved t }

/-- `HANDOFF` in a cycle: the designation has changed, or the position has been negated, within 16 cycles (Table 06-7). -/
def State.handoff (s : State) (c : Nat) : Bool := match s.pos.handoffTo with | some h => cycleAhead h c || h == c | none => false

/-- Validity and quality of this node's own position (Table 06-7). -/
def State.ownPosFlags (s : State) : Nat :=
  let inc := s.included
  let faulty := (List.range 4).any (fun n => s.axleOn n && (s.on (POS_AXn_EXCL.f n) || s.on (POS_AXn_SUSPECT.f n)))
  let still := !inc.isEmpty && inc.all (fun n => s.axleVel n s.clk.now == 0)
  b2n s.pos.valid + 2 * b2n s.odoGood + 4 * b2n s.pos.extrapFrom.isSome + 8 * b2n faulty + 16 * b2n (inc.length == 1)
    + 32 * b2n (s.handoff s.cycle) + 64 * b2n still

/-! The train's position (R205). -/

/-- Whole micrometres of a fused value, as it leaves the node. -/
def wholeUm (p : Int) : Int := roundNearest p (2 ^ 32)

/-- Position in µm at a local instant, from the last Pennant accepted. -/
def State.positionAt (s : State) (t : Nat) : Int :=
  s.pos.pnPos + roundNearest (s.pos.pnVel * nsDiff t s.pos.pnStart) 1000000000

/-- Fused position at a past instant from the history, interpolated linearly (R207). -/
def historyAt (t : Nat) : List (Nat × Int) → Option Int
  | a :: b :: l =>
    if t ≤ a.1 && b.1 ≤ t then
      (if a.1 = b.1 then some a.2 else some (b.2 + roundOpen ((a.2 - b.2) * (t - b.1 : Nat)) (a.1 - b.1)))
    else historyAt t (b :: l)
  | [a] => if t = a.1 then some a.2 else none
  | [] => none

/-- Fused position at a local instant: from the history, interpolated; after the last fusion step the increments since are added,
and before the history the fused velocity carries it back. -/
def State.fusedAtTime (s : State) (t : Nat) : Int :=
  let p := s.pos
  let since := nsDiff t p.fusedAt
  if since ≥ 0 then p.fused + (if s.odoGood then s.increment t else roundOpen (p.vel * since) 1000000000)
  else match historyAt t ((p.fusedAt, p.fused) :: p.history) with
    | some f => f
    | none => p.fused + roundOpen (p.vel * since) 1000000000

/-- Shift the fused position and its whole history. -/
def shiftPosition (d : Int) (s : State) : State :=
  let old := s.pos.history.map (fun (h : Nat × Int) => (h.1, h.2 + d))
  { s with pos := { s.pos with fused := s.pos.fused + d, history := old, valid := true } }

/-- Take position from a Pennant: this node's view, and the anchor of a capable node that is not designated: its fused position
at the cycle start becomes the Pennant's, and its own increments since stay (R204). -/
def takePennantPos (p v : Int) (flags start : Nat) (s : State) : State :=
  let s1 := { s with pos := { s.pos with pnPos := p, pnVel := v, pnFlags := flags, pnStart := start } }
  let s2 := ((s1.wrB POS_VALID.f (bit flags 0)).wrB POS_VEL_VALID.f (bit flags 1)).wr POS_QUALITY.f (bits flags 2 6)
  if bit flags 0 && s.on POS_ODO_CAP.f && !s.on POS_ODO_DESIG.f then
    shiftPosition (p * 2 ^ 32 - s.fusedAtTime start) s2
  else s2

/-- Position report payload of this node (Table 06-6). -/
def positionReport (s : State) : List Byte :=
  let cap := s.on POS_ODO_CAP.f
  let flags := if cap then s.ownPosFlags else 0
  toBE 2 0x0301 ++ toBE 1 flags ++ toBE 1 (if cap then s.rd POS_ODO_PRIO.f else 0) ++ toBE 8 (s.rd HST_UID.f)
    ++ toBE 8 (if s.isLead then s.rd POS_ODO_UID.f else 0)
    ++ toBE 8 (if cap then ofSigned 64 (wholeUm s.pos.fused) else 0) ++ toBE 8 (if cap then ofSigned 64 (wholeUm s.pos.vel) else 0)
    ++ toBE 8 s.ts ++ toBE 4 s.cycle

/-- The report that a payload spells. -/
def reportOf (node : Nat) (b : List Byte) : PosReport :=
  { uid := beAt b 4 8, node := node, prio := byteAt b 3 % 16, flags := byteAt b 2, designated := beAt b 12 8,
    position := toSigned 64 (beAt b 20 8), velocity := toSigned 64 (beAt b 28 8), time := beAt b 36 8, cycle := beAt b 44 4 }

/-- `HANDOFF` stands for the 16 cycles after a change of designation or a reversal (R203, R206). -/
def startHandoff (s : State) : State := { s with pos := { s.pos with handoffTo := some ((s.cycle + 16) % 2 ^ 32) } }

/-- Read a position report (R203): it is kept, and the Lead's names the odometry node. -/
def takeReport (r : PosReport) (fromLead : Bool) (s : State) : State :=
  let s1 := { s with pos := { s.pos with reports := putKey (fun x => x.uid) r s.pos.reports } }
  if fromLead then
    let s2 := if r.designated != s.rd POS_ODO_UID.f then startHandoff s1 else s1
    (s2.wr POS_ODO_UID.f r.designated).wrB POS_ODO_DESIG.f (r.designated == s.rd HST_UID.f && r.designated != 0)
  else s1

/-- The capable node with valid position and the highest priority in a cycle, on a tie the lower node number (R203). -/
def bestOdo (c : Nat) (l : List PosReport) : Option PosReport :=
  (l.filter (fun r => r.cycle == c && bit r.flags 0)).foldl
    (fun best r => match best with
      | none => some r
      | some b => if r.prio > b.prio || (r.prio == b.prio && r.node < b.node) then some r else some b) none

/-- At the end of cycle c the Lead judges the designated node's report and designates anew after two bad cycles (R203). -/
def designate (c : Nat) (s : State) : State :=
  let uid := s.rd POS_ODO_UID.f
  let cur := s.pos.reports.find? (fun r => r.uid == uid && uid != 0)
  let here := match cur with | some r => r.cycle == c | none => false
  let good := match cur with | some r => r.cycle == c && bit r.flags 0 | none => false
  let s0 := if uid != 0 && !here then s.inc POS_REPORTS_MISSED.f else s
  if good then { s0 with pos := { s0.pos with badCycles := 0 } }
  else
    let n := s.pos.badCycles + 1
    if uid != 0 && n < 2 then { s0 with pos := { s0.pos with badCycles := n } }
    else
      let new := match bestOdo c s.pos.reports with | some r => r.uid | none => 0
      let s1 := { s0 with pos := { s0.pos with badCycles := 0 } }
      if new == uid then s1
      else
        let s2 := ((s1.wr POS_ODO_UID.f new).wrB POS_ODO_DESIG.f (new == s.rd HST_UID.f && new != 0)).inc POS_HANDOFFS.f
        { s2 with pos := { s2.pos with handoffTo := some ((c + 16) % 2 ^ 32) } }

/-- Position, velocity and validity byte of the Lead's Pennant of cycle `c`, whose start is at local ns `start` (R205). -/
def State.pennantPos (s : State) (c start : Nat) : Int × Int × Nat :=
  let uid := s.rd POS_ODO_UID.f
  match s.pos.reports.find? (fun r => r.uid == uid && uid != 0) with
  | none => (0, 0, 0)
  | some r =>
    let d := compactDiff (compact start) r.time
    let fresh := (r.cycle + 1) % 2 ^ 32 == c
    let flags := setBit (r.flags % 128) 5 (s.handoff c)
    let flags1 := if fresh then flags else setBit flags 2 true
    let flags2 := if d > (s.rd POS_EXTRAP_MS.f * 1000000 : Nat) then flags1 / 4 * 4 else flags1
    (r.position + roundNearest (r.velocity * d) 1000000000, r.velocity, flags2)

/-- A swap reverses the reference end (R197): position, velocity and history change sign, and so do the reports the Lead
holds, so that its first Pennant after the boundary carries the negated values, and the position that every node extrapolates
(R205, R234). -/
def negatePosition (s : State) : State :=
  let p := s.pos
  startHandoff { s with pos :=
    { p with fused := -p.fused, vel := -p.vel, history := p.history.map (fun h => (h.1, -h.2)), pnPos := -p.pnPos, pnVel := -p.pnVel,
             reports := p.reports.map (fun r => { r with position := -r.position, velocity := -r.velocity }) } }

/-- `BALISE_CORRECT` on the odometry node (R207): none when the timestamp lies outside the history, else the correction. -/
def State.baliseDelta (s : State) (position time : Nat) : Option Int :=
  let back := compactDiff s.ts time
  let t := s.clk.now - back.toNat
  if back < 0 || back > 1000000000 then none
  else if nsDiff t s.pos.fusedAt ≥ 0 then some (toSigned 64 position * 2 ^ 32 - s.fusedAtTime t)
  else (historyAt t ((s.pos.fusedAt, s.pos.fused) :: s.pos.history)).map (fun h => toSigned 64 position * 2 ^ 32 - h)

/-! Line phase (R208, R209). -/

/-- The band of a frequency in mHz: 1 16.7 Hz, 2 50 Hz, 3 60 Hz, 0 none. -/
def lineBand (f : Nat) : Nat :=
  if 16000 ≤ f && f ≤ 17400 then 1 else if 47000 ≤ f && f ≤ 52000 then 2 else if 57000 ≤ f && f ≤ 62000 then 3 else 0

/-- The angle now (R209): it runs on at the last frequency. -/
def State.lineAngle (s : State) : Nat :=
  let dt := s.clk.up - s.pos.angleAt
  (s.pos.angle + (roundOpen ((dt * s.rd POS_LP_FREQ_MHZ.f * 2 ^ 32 : Nat) : Int) 1000000000000).toNat) % 2 ^ 32

/-- Raise `REF_STATE` for `LINE_SENSE` (R210). -/
def raiseLine (s : State) : State :=
  s.raise 0x0303 0x5805 (toBE 1 (s.rd POS_LP_VALID.f) ++ toBE 1 (s.rd POS_LP_DETECTED.f) ++ toBE 4 (s.rd POS_LP_FREQ_MHZ.f))

/-- Change the validity of line phase, with its event. -/
def setLineValid (v : Bool) (s : State) : State :=
  if s.on POS_LP_VALID.f == v then s else raiseLine ((s.wrB POS_LP_VALID.f v).setOper 0x5805 (if v then 1 else 2))

/-- Detection restarts (R209, R213); `POS_LP_DETECTED` names the last selection until the next (DESIGN CHOICE, log entry 93). -/
def restartLine (s : State) : State :=
  { s with pos := { s.pos with intervals := [], crossings := 0, pll := false, angle := s.lineAngle, angleAt := s.clk.up,
                               goodPeriods := 0, lowAmpl := 0, highErr := 0 } }

/-- Lock is lost: counted, line phase invalid, the angle runs on and detection restarts (R209).  A PLL that drops before line
phase was ever valid counts too (DESIGN CHOICE, log entry 92). -/
def lineUnlock (s : State) : State := restartLine (setLineValid false (s.inc POS_LP_UNLOCKS.f))

/-- The bands a system setting admits. -/
def State.bandOk (s : State) (b : Nat) : Bool :=
  match s.rd POS_LP_SYS.f with
  | 0 => b != 0
  | 4 => false
  | n => b == n

/-- A positive-going zero crossing, `period` ns after the one before (R209). -/
def lineCrossing (period ampl : Nat) (s : State) : State :=
  if s.rd POS_LP_SYS.f == 4 then s
  else
    let p := s.pos
    let s0 := s.wr POS_LP_AMPL_MV.f ampl
    if p.pll then
      let f := if period = 0 then s.rd POS_LP_FREQ_MHZ.f else (roundOpen 1000000000000 period).toNat
      let s1 := s0.wr POS_LP_FREQ_MHZ.f f
      if s.bandOk (lineBand f) then s1 else lineUnlock s1
    else
      let n := p.crossings + 1
      let iv := if n = 1 then [] else (period :: p.intervals).take 3
      let s1 := { s0 with pos := { p with crossings := n, intervals := iv } }
      let sum := iv.foldl (· + ·) 0
      let start (f : Nat) (t : State) : State :=
        { (t.wr POS_LP_FREQ_MHZ.f f).wr POS_LP_DETECTED.f (lineBand f) with pos :=
          { t.pos with pll := true, angle := 0, angleAt := t.clk.up, goodPeriods := 0, lowAmpl := 0, highErr := 0 } }
      if s.rd POS_LP_SYS.f == 0 then
        if iv.length < 3 || sum = 0 then s1
        else
          let f := (roundOpen 3000000000000 sum).toNat
          if s.bandOk (lineBand f) then start f s1 else s1
      else if iv.isEmpty || period = 0 then s1
      else
        let f := (roundOpen 1000000000000 period).toNat
        if s.bandOk (lineBand f) then start f s1 else s1

/-- A supply period of the PLL ends with an amplitude and a phase error in angle units (R209). -/
def linePeriodEnd (ampl : Nat) (err : Int) (s : State) : State :=
  if !s.pos.pll then s
  else
    let low := if ampl < s.rd POS_LP_MIN_MV.f then s.pos.lowAmpl + 1 else 0
    let high := if absNat err > 119304647 then s.pos.highErr + 1 else 0
    let good := if absNat err < 23860929 then s.pos.goodPeriods + 1 else 0
    let s1 := { s.wr POS_LP_AMPL_MV.f ampl with pos :=
      { s.pos with lowAmpl := low, highErr := high, goodPeriods := good, angle := ofSigned 32 err, angleAt := s.clk.up } }
    if low ≥ 2 || high ≥ 2 then lineUnlock s1
    else if good ≥ 8 then setLineValid true s1
    else s1

end Sys2Proof.Machine
end

