-- ==== Sys2Proof/Machine/Signals.lean ====
section
/-!
DEFINITION. Commands and happenings of signal mapping (spec/08): `SIGNAL_READ`, `SIGNAL_WRITE` and the window, `SME_READ`,
`SME_WRITE`, `PROFILE_SWITCH`, `PROFILE_READ`, the staleness sweep and the field images.
-/
namespace Sys2Proof.Machine
open Sys2Proof

/-! The map and the store. -/

/-- The four words of an entry (Table 08-9a). -/
def entryWords (e : ValEntry) : List Nat := [e.value, e.time, e.status + e.epoch * 2 ^ 32 + e.origin * 2 ^ 48, e.arrival]

/-- Word w of the window's entry i (R256); an index that no descriptor covers reads zero. -/
def State.windowWord (s : State) (i w : Nat) : Nat :=
  if (s.binding.covering i).isSome then (entryWords (s.entry i)).getD w 0 else 0

/-- One value record as `SIGNAL_READ` returns it (R272). -/
def State.valueRecord (s : State) (i : Nat) : List Byte :=
  ((List.range 4).map (fun w => toBE 8 (s.windowWord i w))).foldr (· ++ ·) []

/-- `SIGNAL_READ` (R272). -/
def cmdSignalRead (h : CmdHdr) (index count : Nat) (s : State) : State :=
  command 0x0601 h (toBE 4 index ++ toBE 2 count) (fun s =>
    if index ≥ 2 ^ 18 then ansRange s 0
    else if count = 0 || count > 2047 then ansRange s 4
    else if index + count > 2 ^ 18 then ansRange s 0
    else ansOk s (((List.range count).map (fun k => s.valueRecord (index + k))).foldr (· ++ ·) [])) s

/-- The meaning of `SIGNAL_READ`. -/
def execSignalRead (h : CmdHdr) (index count : Nat) (s : State) : Outcome :=
  act (whenServing (cmdSignalRead h index count)) s

/-- `SIGNAL_WRITE` (R271). -/
def cmdSignalWrite (h : CmdHdr) (index value : Nat) (s : State) : State :=
  command 0x0602 h (toBE 4 index ++ toBE 8 value) (fun s =>
    match s.hostRefusal index value with
    | some (st, pos) => if st = stRange then ansRange s pos else ansConflict s
    | none => ansOk (doHostWrite index (value % 2 ^ 64) s)) s

/-- The meaning of `SIGNAL_WRITE`. -/
def execSignalWrite (h : CmdHdr) (index value : Nat) (s : State) : Outcome :=
  act (whenServing (cmdSignalWrite h index value)) s

/-- A class may write the signal-value window (Table 02-9). -/
def windowClass (c : PrivClass) : Bool := c == .safety || c == .host || c == .train

/-- A write of word +0x00 of a window entry (R271, R256): as `SIGNAL_WRITE`, and nothing where that is refused. -/
def windowWrite (c : PrivClass) (index value : Nat) (s : State) : State :=
  if windowClass c && (s.hostRefusal index value).isNone then doHostWrite index (value % 2 ^ 64) s else s

/-- The meaning of `SIGNAL_WINDOW_WRITE`. -/
def execSignalWindowWrite (c : PrivClass) (index value : Nat) (s : State) : Outcome :=
  act (whenUp (windowWrite c index value)) s

/-- `SME_READ` (R269). -/
def cmdSmeRead (h : CmdHdr) (index profile : Nat) (s : State) : State :=
  command 0x0603 h (toBE 4 index ++ toBE 1 profile) (fun s =>
    if index ≥ 2 ^ 18 then ansRange s 0
    else if profile > 7 then ansRange s 4
    else ansOk s (s.record (s.recordIndex index profile))) s

/-- The meaning of `SME_READ`. -/
def execSmeRead (h : CmdHdr) (index profile : Nat) (s : State) : Outcome :=
  act (whenServing (cmdSmeRead h index profile)) s

/-- Some descriptor's fan-out would rise above 32 layouts (R291). -/
def fanoutRaised (old new : State) : Bool :=
  new.binding.descs.any (fun d =>
    32 < (new.fanoutOf d).length && (old.fanoutOf d).length < (new.fanoutOf d).length)

/-- Write a record; one found unreadable before is readable again (R270). -/
def writeSme (i : Nat) (entry : List Byte) (s : State) : State :=
  let s1 := s.setRecord i entry
  { s1 with sig := { s1.sig with mapFaults := s1.sig.mapFaults.filter (· != i) } }

/-- The checks of R269 in their order, then the write. -/
def smeWrite (index profile : Nat) (entry : List Byte) (s : State) : Ans :=
  if index ≥ 2 ^ 18 then ansRange s 0
  else if profile > 7 then ansRange s 4
  else
    let d := s.binding.covering index
    let i := s.recordIndex index profile
    let new := writeSme i entry s
    if profile = 0 && d.isNone then ansOk new
    else match s.smeFault entry (profile != 0) with
      | some o => ansRange s (5 + o)
      | none =>
        if fanoutRaised s new then ansRange s (5 + 19)
        else match d with
          | none => ansConflict s
          | some d =>
            if (smeOf entry).srcMsg != d.msg then ansConflict s
            else if profile != 0 && !bit (smeOf (s.record index)).altMask profile then ansConflict s
            else ansOk new

/-- `SME_WRITE` (R269). -/
def cmdSmeWrite (h : CmdHdr) (index profile : Nat) (entry : List Byte) (s : State) : State :=
  command 0x0604 h (toBE 4 index ++ toBE 1 profile ++ entry) (fun s =>
    if entry.length != 64 then ⟨s, stBadLength, []⟩ else smeWrite index profile entry s) s

/-- The meaning of `SME_WRITE`. -/
def execSmeWrite (h : CmdHdr) (index profile : Nat) (entry : List Byte) (s : State) : Outcome :=
  act (whenServing (cmdSmeWrite h index profile entry)) s

/-! Profiles (R267, R268). -/

/-- Arm a profile switch: source 0 command, 1 event, 2 image. -/
def armProfile (profile cycle source event : Nat) (s : State) : State :=
  let s1 := ((s.wr SIG_PROFILE_ARMED.f 1).wr SIG_PROFILE_NEXT.f profile).wr SIG_PROFILE_CYCLE.f cycle
  { s1 with sig := { s1.sig with profSource := source, profEvent := event } }

/-- Disarm it. -/
def disarmProfile (s : State) : State :=
  ((s.wr SIG_PROFILE_ARMED.f 0).wr SIG_PROFILE_NEXT.f 0).wr SIG_PROFILE_CYCLE.f 0

/-- The node is in SYNC, LEAD, SILENT or REFUSING. -/
def State.switchable (s : State) : Bool := 5 ≤ s.rd TCY_STATE.f

/-- The flip of the selector at its boundary (R268). -/
def flipProfile (s : State) : State :=
  let old := s.rd SIG_PROFILE.f
  let new := s.rd SIG_PROFILE_NEXT.f
  let src := s.sig.profSource
  let s1 := disarmProfile ((s.wr SIG_PROFILE.f new).wr SIG_PROFILE_BANK.f (1 - s.rd SIG_PROFILE_BANK.f))
  let s2 := (s1.inc SIG_PROFILE_SWITCHES.f).raise 0x0601 0
    (toBE 1 new ++ toBE 1 old ++ toBE 4 s.cycle ++ toBE 1 src ++ toBE 2 (if src = 1 then s.sig.profEvent else 0))
  if src = 0 then cmdDoneAll 0x0605 (fun _ => true) stOk (fun _ => []) s2 else s2

/-- An armed switch is cancelled when the node leaves those states before its boundary (R267). -/
def cancelProfile (s : State) : State :=
  if s.on SIG_PROFILE_ARMED.f && !s.switchable then
    cmdDoneAll 0x0605 (fun _ => true) stConflict (fun _ => toBE 2 0) (disarmProfile s)
  else s

/-- `PROFILE_SWITCH` (R267). -/
def cmdProfileSwitch (h : CmdHdr) (profile cycle : Nat) (s : State) : State :=
  command 0x0605 h (toBE 1 profile ++ toBE 4 cycle) (fun s =>
    if profile > 7 then ansRange s 0
    else if s.on SIG_PROFILE_ARMED.f || !s.switchable || !cycleAhead cycle s.cycle then ansConflict s
    else acceptLong h 0x0605 cycle profile (armProfile profile cycle 0 0) s) s

/-- The meaning of `PROFILE_SWITCH`. -/
def execProfileSwitch (h : CmdHdr) (profile cycle : Nat) (s : State) : Outcome :=
  act (whenServing (cmdProfileSwitch h profile cycle)) s

/-- `PROFILE_READ` (Table 02-6). -/
def cmdProfileRead (h : CmdHdr) (s : State) : State :=
  command 0x0606 h [] (fun s => ansOk s
    (toBE 1 (s.rd SIG_PROFILE.f) ++ toBE 1 (s.rd SIG_PROFILE_ARMED.f) ++ toBE 4 (s.rd SIG_PROFILE_CYCLE.f))) s

/-- The meaning of `PROFILE_READ`. -/
def execProfileRead (h : CmdHdr) (s : State) : Outcome := act (whenServing (cmdProfileRead h)) s

/-! Sweeps and images. -/

/-- A sweep visits a range of the store (R257). -/
def sweep (first count : Nat) (s : State) : State :=
  let n := Nat.min count (2 ^ 18 - first)
  pushSweep (n / 64 + 1) first n s

/-- The meaning of `STALENESS_SWEEP`. -/
def execStalenessSweep (first count : Nat) (s : State) : Outcome :=
  act (whenRunning (sweep first count)) s

/-- The meaning of `FIELD_IMAGE_PRESENT` (R258): a node without a cycle presents both images every `SIG_FIELD_MS`; with a
cycle it presents them at cycle starts and on a change of input. -/
def execFieldImagePresent (s : State) : Outcome :=
  act (whenRunning presentImages) s

end Sys2Proof.Machine
end

