-- ==== Sys2Proof/Machine/Sched.lean ====
section
/-!
DEFINITION. The event scheduler (spec/07): entries (R214 to R219), their actions (R220 to R226), the frames bound to them
(R231), the host frame rings (R227 to R229), and the expected-disturbance windows that events and commands open (R99).
-/
namespace Sys2Proof.Machine
open Sys2Proof

/-! Expected-disturbance windows (R99). -/

/-- Window n, as start (compact), duration and mask; none while its entry is free. -/
def State.window (s : State) (n : Nat) : Option (Nat × Nat × Nat) :=
  if s.on (BKB_DW_n_VALID.f n) then some (s.rd (BKB_DW_n_START.f n), s.rd (BKB_DW_n_DUR.f n), s.rd (BKB_DW_n_MASK.f n))
  else none

/-- The windows held, and those whose entries have just been freed: a frame is judged only when it has been received whole,
and its first symbol may lie in a window that has ended since. -/
def State.windows (s : State) : List (Nat × Nat × Nat) := (List.range 16).filterMap s.window ++ s.bkb.closed

/-- A local instant lies in a window over a plane-end. -/
def State.inWindow (s : State) (p t : Nat) : Bool :=
  s.windows.any (fun w =>
    let d := compactDiff (compact t) w.1
    bit w.2.2 p && 0 ≤ d && d < w.2.1)

/-- The lowest free window entry. -/
def State.freeWindow (s : State) : Option Nat := (List.range 16).find? (fun n => !s.on (BKB_DW_n_VALID.f n))

/-- The end of a window is already past. -/
def State.windowPast (s : State) (start dur : Nat) : Bool := compactDiff s.ts start ≥ dur

/-- Hold a window in entry n: one whose start is past opens at once. -/
def holdWindow (n mask start dur src event : Nat) (s : State) : State :=
  ((((((s.wr (BKB_DW_n_START.f n) start).wr (BKB_DW_n_DUR.f n) dur).wr (BKB_DW_n_MASK.f n) mask).wrB
    (BKB_DW_n_ACTIVE.f n) (compactDiff s.ts start ≥ 0)).wr (BKB_DW_n_VALID.f n) 1).wr (BKB_DW_n_SRC.f n) src).wr
    (BKB_DW_n_EVENT.f n) event

/-- `DISTURB_WINDOW` (R99). -/
def cmdDisturbWindow (h : CmdHdr) (mask start duration : Nat) (s : State) : State :=
  command 0x0404 h (toBE 1 mask ++ toBE 8 start ++ toBE 4 duration) (fun s =>
    if mask > 15 then ansRange s 0
    else if start % 2 ^ 30 ≥ 1000000000 then ansRange s 1
    else if duration < 1000 || duration > 2000000000 then ansRange s 9
    else if s.windowPast start duration then ansRange s 1
    else match s.freeWindow with
      | none => ansBusy s
      | some n => ansOk (holdWindow n mask start duration 0 0 s) (toBE 2 n)) s

/-- The meaning of `DISTURB_WINDOW`. -/
def execDisturbWindow (h : CmdHdr) (mask start duration : Nat) (s : State) : Outcome :=
  act (whenServing (cmdDisturbWindow h mask start duration)) s

/-- The meaning of `DISTURB_WINDOW_OPEN`: the start of a held window comes. -/
def execDisturbWindowOpen (window : Nat) (s : State) : Outcome :=
  act (whenRunning (fun s => if window < 16 && s.on (BKB_DW_n_VALID.f window) then s.wr (BKB_DW_n_ACTIVE.f window) 1 else s)) s

/-- A window ends and its entry is freed.  It is kept for 1 ms, longer than the longest frame lasts (341 µs at 100 Mb/s), for
the frames of which it saw the first symbol. -/
def endWindow (n : Nat) (s : State) : State :=
  match s.window n with
  | none => s
  | some w =>
    let recent := s.bkb.closed.filter (fun x => compactDiff s.ts x.1 < x.2.1 + 1000000)
    let s1 := ((holdWindow n 0 0 0 0 0 s).wr (BKB_DW_n_ACTIVE.f n) 0).wr (BKB_DW_n_VALID.f n) 0
    { s1 with bkb := { s1.bkb with closed := w :: recent } }

/-- The meaning of `DISTURB_WINDOW_END`: the entry is freed. -/
def execDisturbWindowEnd (window : Nat) (s : State) : Outcome :=
  act (whenRunning (fun s => if window < 16 then endWindow window s else s)) s

/-! Event entries (Table 07-1). -/

/-- Fields of an entry. -/
def evBase (b : List Byte) : Nat := byteAt b 0 % 16
def evAction (b : List Byte) : Nat := byteAt b 0 / 16
def evRepeat (b : List Byte) : Bool := bit (byteAt b 1) 0
def evUp (b : List Byte) : Bool := bit (byteAt b 1) 1 || byteAt b 1 / 2 % 4 = 0
def evDown (b : List Byte) : Bool := bit (byteAt b 1) 2 || byteAt b 1 / 2 % 4 = 0
def evCount (b : List Byte) : Nat := beAt b 2 2
def evA (b : List Byte) : Int := toSigned 64 (beAt b 8 8)
def evB (b : List Byte) : Int := toSigned 64 (beAt b 16 8)
def evAngle (b : List Byte) : Nat := beAt b 24 2

/-- The bytes of a range are all zero. -/
def zeroIn (b : List Byte) (o n : Nat) : Bool := (slice b o n).all (· == 0#8)

/-- The checks of R215 in the order of the entry's bytes, each with the byte offset of its field. -/
def evChecks (b : List Byte) : List (Nat × Bool) :=
  let base := evBase b
  let a := evAction b
  let rep := evRepeat b
  let aNs := beAt b 8 8 % 2 ^ 30
  let period := beAt b 16 8
  let head : List (Nat × Bool) :=
    [(0, base ≤ 3 && 1 ≤ a && a ≤ 5 && !(2 ≤ base && a == 3)),
     (1, byteAt b 1 < 8 && (!rep || base == 0 || base == 2) && (base == 1 || byteAt b 1 / 2 == 0)),
     (2, rep || evCount b == 0),
     (4, zeroIn b 4 4),
     (8, (base != 0 || (aNs < 1000000000 && aNs % 10 == 0)) && (base != 2 || zeroIn b 8 8)),
     (16, if base == 0 && rep then 1000 ≤ period && period ≤ 86400000000000 && period % 10 == 0
          else if base == 3 then evA b < evB b else zeroIn b 16 8),
     (24, 2 ≤ base || evAngle b == 0),
     (26, zeroIn b 26 6)]
  let op : List (Nat × Bool) := match a with
    | 1 => [(32, byteAt b 32 ≤ 7), (33, zeroIn b 33 3), (44, zeroIn b 44 20)]
    | 2 => [(32, 1000 ≤ beAt b 32 4 && beAt b 32 4 ≤ 100000000), (36, zeroIn b 36 28)]
    | 3 => [(32, byteAt b 32 ≤ 7), (33, zeroIn b 33 31)]
    | 4 => [(32, byteAt b 32 ≤ 15), (33, zeroIn b 33 3), (36, 1000 ≤ beAt b 36 4 && beAt b 36 4 ≤ 2000000000),
            (40, zeroIn b 40 24)]
    | _ => [(40, zeroIn b 40 24)]
  head ++ op

/-- The byte offset of the first field that breaks R215. -/
def evBad (b : List Byte) : Option Nat := ((evChecks b).find? (fun p => !p.2)).map Prod.fst

/-- The channels of a field action's mask with their levels. -/
def evField (b : List Byte) : List (Nat × Bool) :=
  let bank := byteAt b 32 % 8
  (bitsOf 32 (beAt b 36 4)).map (fun i => (32 * bank + i, bit (beAt b 40 4) i))

/-- Entry i; none when it is FREE. -/
def State.event (s : State) (i : Nat) : Option EvEntry := getKey EvEntry.index i s.sch.entries

/-- Replace an entry. -/
def State.setEvent (s : State) (e : EvEntry) : State :=
  { s with sch := { s.sch with entries := putKey EvEntry.index e s.sch.entries } }

/-- An entry's state (Table 07-5). -/
def State.evState (s : State) (i : Nat) : Nat := s.rd (SCH_EVi_STATE.f i)

/-- The entry waits for or is open to its condition. -/
def State.evOpen (s : State) (i : Nat) : Bool := s.evState i == 1 || s.evState i == 2

/-- Bring the counts of bound frames to what is bound. -/
def syncBound (i : Nat) (s : State) : State :=
  (s.wr (SCH_EVi_BOUND.f i) (s.sch.bound.filter (fun b => b.event == i)).length).wr SCH_LAUNCH_USED.f s.sch.bound.length

/-- Drop the frames bound to an entry, removed or past their window (R218). -/
def dropBound (i : Nat) (removed : Bool) (s : State) : State :=
  let mine := s.sch.bound.filter (fun b => b.event == i)
  let s1 := { s with sch := { s.sch with bound := s.sch.bound.filter (fun b => b.event != i) } }
  let drop (t : State) (b : Bound) : State :=
    let mark (d : TxDesc) : TxDesc :=
      if removed then { d with removed := true } else { d with lateWindow := true }
    b.copies.foldl (fun u _ => unref b.buf u) (t.setHeld b.buf (fun h => { h with desc := h.desc.map mark }))
  syncBound i (mine.foldl drop s1)

/-- Raise `EVENT_LATE` (R235). -/
def eventLate (i cause lateness : Nat) (s : State) : State :=
  s.raise 0x0403 0 (toBE 2 i ++ toBE 1 cause ++ toBE 8 lateness)

/-! Actions (R221 to R226). -/

/-- A field action: channels that are no longer host-owned digital outputs are skipped. -/
def fieldAction (i : Nat) (b : List Byte) (s : State) : State :=
  let one (p : State × Nat) (c : Nat × Bool) : State × Nat :=
    if p.1.hostOwned 3 c.1 then (ownerWrite c.1 (b2n c.2) true p.1, p.2) else (p.1.inc SCH_FIELD_SKIP.f, p.2 + 1)
  let r := (evField b).foldl one (s, 0)
  if r.2 != 0 then eventLate i 4 0 r.1 else r.1

/-- A launch copy. -/
def launchCopy (b : Bound) (mac launch window defers since : Nat) : Copy :=
  { plainCopy b.buf mac 8 since with event := b.event, launch := launch, window := window, defer := b.defer,
                                     defers := defers }

/-- The backbone frame of a held payload as it is sent now: under the epoch and number of this moment, and with the `RH_SEQ` it
has had before if it was released before (R75, R228). -/
def State.boundFrame (s : State) (x : Bound) : BbFrame :=
  let f := ringFrame s 2 (x.seq.getD s.bkb.seq) []
  match s.heldOf x.buf with
  | some { wire := .bb g, .. } => { f with single := g.single, body := g.body }
  | _ => f

/-- Release one copy of a bound frame (R231): to the launch queue of its port, or on a plane of the backbone to that of the
lane its origin has there now (R77, R89).  A node under R123 or R186 originates nothing (R233). -/
def releaseCopy (x : Bound) (f : BbFrame) (launch window : Nat) (s : State) (c : Egress × Nat) : State :=
  match c.1 with
  | .port m => enqueue (launchCopy x m launch window c.2 s.clk.up) s
  | .plane y => match s.originOut y with
    | none => unref x.buf (if s.originSilent then s else s.inc BKB_RETURNED.f)
    | some p => match s.egressMac p f.origin with
      | none => unref x.buf (s.inc (BKB_PEp_LANEDROP.f p))
      | some m =>
        if s.originSilent then unref x.buf (stat m 57 1 s)
        else enqueue { launchCopy x m launch window c.2 s.clk.up with over_ := some (.bb f) } s

/-- Release a bound frame: a backbone frame that leaves uses its `RH_SEQ`. -/
def releaseFrame (launch window : Nat) (s : State) (x : Bound) : State :=
  let f := s.boundFrame x
  let onPlane := x.copies.any (fun c => match c.1 with | .plane _ => true | .port _ => false)
  let s1 := if onPlane && x.seq.isNone && !s.originSilent then useSeq s else s
  x.copies.foldl (releaseCopy x f launch window) s1

/-- A launch action: every frame bound at that moment enters the launch queues of its ports, in the order of binding (R231). -/
def launchAction (i launch : Nat) (b : List Byte) (s : State) : State :=
  let mine := s.sch.bound.filter (fun x => x.event == i)
  let s1 := { s with sch := { s.sch with bound := s.sch.bound.filter (fun x => x.event != i) } }
  syncBound i (mine.foldl (releaseFrame launch (beAt b 32 4)) s1)

/-- An action has failed. -/
def actionFail (i cause : Nat) (s : State) : State := eventLate i cause 0 (s.inc SCH_ACTION_FAIL.f)

/-- A disturbance window action; it fails when no entry is free, or the window is already past. -/
def windowAction (i start : Nat) (b : List Byte) (s : State) : State :=
  match s.freeWindow with
  | some n =>
    if s.windowPast start (beAt b 36 4) then actionFail i 2 s
    else holdWindow n (byteAt b 32 % 16) start (beAt b 36 4) 1 i s
  | none => actionFail i 2 s

/-- Raise `HOST_EVENT` (R223). -/
def hostAction (i : Nat) (late : Bool) (b : List Byte) (s : State) : State :=
  s.raise 0x0402 0 (toBE 2 i ++ toBE 1 (b2n late) ++ zeros 1 ++ slice b 32 8)

/-- Carry out an entry's action: `at_` is the target of a time entry and the firing instant of every other, in local ns. -/
def action (i at_ : Nat) (late : Bool) (b : List Byte) (s : State) : State :=
  match evAction b with
  | 1 => fieldAction i b s
  | 2 => launchAction i at_ b s
  | 4 => windowAction i (compact at_) b s
  | 5 => hostAction i late b s
  | _ => s

/-! Firing (R216 to R218). -/

/-- Nanoseconds of local time at which a compact target falls. -/
def State.localOf (s : State) (c : Nat) : Nat := ((s.clk.now : Int) + compactDiff c s.ts).toNat

/-- The first target of a repeating time entry that lies ahead (R217). -/
def nextTarget (e : EvEntry) (now : Nat) : Nat :=
  let period := beAt e.bytes 16 8
  let d := compactDiff (compact now) e.target
  let k := if d < 0 then 1 else d.toNat / Nat.max period 1 + 1
  compact ((compactNs e.target + k * period) % compactSpan)

/-- An entry has fired: counts, its next target, and DONE after its last firing. -/
def afterFiring (e : EvEntry) (s : State) : State :=
  let i := e.index
  let n := Nat.min (s.rd (SCH_EVi_FIRINGS.f i) + 1) 65535
  let s1 := (s.wr (SCH_EVi_FIRINGS.f i) n).inc SCH_FIRED.f
  let ends := !evRepeat e.bytes || (evCount e.bytes != 0 && n ≥ evCount e.bytes)
  let e1 := if evRepeat e.bytes && evBase e.bytes = 0 then { e with target := nextTarget e s.clk.now } else e
  (s1.setEvent e1).wr (SCH_EVi_STATE.f i) (if ends then 3 else 1)

/-- An entry fires: a late firing is marked, counted and reported with its lateness. -/
def fire (e : EvEntry) (at_ : Nat) (late : Bool) (lateness : Nat) (s : State) : State :=
  let i := e.index
  let s1 := (afterFiring e s).wrB (SCH_EVi_LATE.f i) late
  let s2 := if late then eventLate i 0 lateness (s1.inc SCH_LATE.f) else s1
  action i at_ late e.bytes s2

/-- The base of an entry is invalid (R218). -/
def State.baseInvalid (s : State) (base : Nat) : Bool :=
  ((base == 1 || base == 3) && !s.on POS_VALID.f) || (2 ≤ base && !s.on POS_LP_VALID.f)

/-- A position crossing between two evaluations, in a direction the entry allows. -/
def crosses (b : List Byte) (prev p : Int) : Bool :=
  (evUp b && prev < evA b && evA b ≤ p) || (evDown b && prev > evA b && evA b ≥ p)

/-- Bits [31:16] of the angle pass the target going forward between two evaluations. -/
def passes (angle prev now : Nat) : Bool :=
  let step := (now + 65536 - prev % 65536) % 65536
  let ahead := (angle + 65536 - prev % 65536) % 65536
  0 < ahead && ahead ≤ step

/-- Evaluate an armed entry whose base is valid.  `jump` says that the position has just moved by a discontinuity. -/
def evaluateArmed (e : EvEntry) (jump : Bool) (s : State) : State :=
  let b := e.bytes
  let p := s.positionAt s.clk.now
  let a := s.lineAngle / 65536
  let inside := evA b ≤ p && p < evB b
  match evBase b with
  | 0 =>
    let d := compactDiff s.ts e.target
    if d ≥ 0 then fire e (s.localOf e.target) (d > 10) d.toNat s else s
  | 1 =>
    let e1 := { e with prevPos := p, havePos := true }
    if e.havePos && crosses b e.prevPos p then
      (if jump then
        let (l, s1) := takeFree 64 s
        fire e1 s.clk.now true l s1
      else fire e1 s.clk.now false 0 s)
    else s.setEvent e1
  | 2 =>
    let e1 := { e with prevAngle := a, haveAngle := true }
    if e.haveAngle && passes (evAngle b) e.prevAngle a then fire e1 s.clk.now false 0 s else s.setEvent e1
  | _ =>
    let e1 := { e with prevPos := p, havePos := true, prevAngle := a, haveAngle := true, entered := e.entered || inside }
    if inside && e.haveAngle && passes (evAngle b) e.prevAngle a then fire e1 s.clk.now false 0 s
    else if e.entered && !inside then
      dropBound e.index false (eventLate e.index 1 0 (((s.setEvent e1).wr (SCH_EVi_STATE.f e.index) 4).inc SCH_MISSED.f))
    else s.setEvent e1

/-- Evaluate entry i: its base may have become invalid or valid again (Table 07-5).  A profile switch entry fires through
the Pennant only (R224). -/
def evaluate (jump : Bool) (i : Nat) (s : State) : State :=
  match s.event i with
  | none => s
  | some e =>
    let st := s.evState i
    let bad := s.baseInvalid (evBase e.bytes)
    if !(st = 1 || st = 2) then s
    else if bad then (s.setEvent { e with haveAngle := false }).wr (SCH_EVi_STATE.f i) 2
    else
      let s1 := s.wr (SCH_EVi_STATE.f i) 1
      if evAction e.bytes = 3 then s1 else evaluateArmed e (jump || st = 2) s1

/-- Evaluate every entry in ascending index (R219). -/
def evaluateAll (jump : Bool) (s : State) : State :=
  (s.sch.entries.map EvEntry.index).foldl (fun t i => evaluate jump i t) s

/-- The comparators evaluate: every entry whose condition is met fires, in ascending index (R219), whichever of them the
instant is named for. -/
def fireEvents (index : Nat) (s : State) : State := if index < 4096 then evaluateAll false s else s

/-- The meaning of `EVENT_FIRE`. -/
def execEventFire (index : Nat) (s : State) : Outcome := act (whenRunning (fireEvents index)) s

/-! Profile switch entries (R224 to R226). -/

/-- A profile switch entry is evaluated on the accepted Pennant of cycle c: `time` is the Pennant's time plus a cycle
(compact), `q` the predicted position and `q0` that of the cycle before, which is the Pennant's own.  A firing that an
evaluation missed in the cycle before would have given is late (R225).  A position entry that waits is evaluated as soon as
a Pennant's position is valid, so that every node decides by the same Pennant. -/
def evaluateProfile (c time : Nat) (q q0 : Int) (valid : Bool) (i : Nat) (s : State) : State :=
  match s.event i with
  | none => s
  | some e =>
    let b := e.bytes
    let isTime := evBase b = 0
    if evAction b != 3 || !s.evOpen i then s
    else if !isTime && !valid then s.setEvent { e with lastEval := some c }
    else
      let cyc := s.rd TCY_CYCLE_NS.f
      let skipped := match e.lastEval with
        | some l => (l + 1) % 2 ^ 32 != c
        | none => false
      let d := compactDiff time e.target
      let e1 := if isTime then { e with lastEval := some c }
        else { e with lastEval := some c, prevPos := q, havePos := true }
      let fires := if isTime then decide (d ≥ 0) else e.havePos && crosses b e.prevPos q
      let late := skipped && (if isTime then decide (d ≥ cyc) else crosses b e.prevPos q0)
      if !fires then (s.setEvent e1).wr (SCH_EVi_STATE.f i) 1
      else
        let s1 := (afterFiring e1 s).wr (SCH_EVi_LATE.f i) 0
        let s2 := if late then s1.inc SCH_PROFILE_LATE.f else s1
        if s2.on SIG_PROFILE_ARMED.f then actionFail i 3 s2
        else armProfile (byteAt b 32 % 8) ((c + 1) % 2 ^ 32) 1 i s2

/-- Every profile switch entry is evaluated on an accepted Pennant. -/
def evaluateProfiles (c time : Nat) (pos vel : Int) (valid : Bool) (s : State) : State :=
  let cyc := s.rd TCY_CYCLE_NS.f
  let q := pos + roundNearest (vel * cyc) 1000000000
  let t := compact ((compactNs time + cyc) % compactSpan)
  (s.sch.entries.map EvEntry.index).foldl (fun u i => evaluateProfile c t q pos valid i u) s

/-! Writing and removing entries (R214). -/

/-- Copies of an entry that is removed will not see it fire again: they are sent or dropped under R233, and not deferred to an
entry that takes its index. -/
def forgetEvent (i : Nat) (s : State) : State :=
  let last (c : Copy) : Copy := if c.queue == 8 && c.event == i then { c with defer := false } else c
  { s with net := { s.net with queue := s.net.queue.map last, sending := s.net.sending.map last } }

/-- Free an entry (R218). -/
def removeEvent (i : Nat) (s : State) : State :=
  match s.event i with
  | none => s
  | some _ =>
    let s1 := forgetEvent i (dropBound i true s)
    let s2 := { s1 with sch := { s1.sch with entries := dropKey EvEntry.index i s1.sch.entries } }
    ((((s2.wr (SCH_EVi_STATE.f i) 0).wr (SCH_EVi_LATE.f i) 0).wr (SCH_EVi_REVERSED.f i) 0).wr (SCH_EVi_FIRINGS.f i) 0).wr
      SCH_EVENTS_USED.f (s2.rd SCH_EVENTS_USED.f - 1)

/-- The cycle in which a profile switch entry written now counts as evaluated: the current one when its Pennant has been
accepted, else the one before (R225). -/
def State.evaluatedCycle (s : State) : Option Nat :=
  if !s.keepsCycle then none
  else if s.tcy.acceptedNow then some s.cycle else some ((s.cycle + 2 ^ 32 - 1) % 2 ^ 32)

/-- Write an entry at a free or named index, where it replaces what stands there: it is armed and takes its first target; a time
entry already past fires at once.  A position entry takes the position at the instant of writing as its first previous value
(DESIGN CHOICE, log entry 89). -/
def writeEvent (i : Nat) (b : List Byte) (s0 : State) : State :=
  let s := removeEvent i s0
  let s1 := s.wr SCH_EVENTS_USED.f (s.rd SCH_EVENTS_USED.f + 1)
  let p := s.positionAt s.clk.now
  let e : EvEntry :=
    { index := i, bytes := fitBytes 64 b, target := beAt b 8 8, prevPos := p, havePos := s.on POS_VALID.f,
      prevAngle := s.lineAngle / 65536, haveAngle := s.on POS_LP_VALID.f,
      entered := s.on POS_VALID.f && evA b ≤ p && p < evB b, lastEval := s.evaluatedCycle }
  let s2 := ((((s1.setEvent e).wr (SCH_EVi_STATE.f i) 1).wr (SCH_EVi_LATE.f i) 0).wr (SCH_EVi_REVERSED.f i) 0).wr
    (SCH_EVi_FIRINGS.f i) 0
  evaluate false i s2

/-- An uncorrectable error in an entry (R14, R218). -/
def faultEvent (i : Nat) (s : State) : State :=
  match s.event i with
  | none => s
  | some _ => (dropBound i true (s.wr (SCH_EVi_STATE.f i) 5)).raise 0x0401 0 (toBE 2 i)

/-- The lowest free index. -/
def State.freeEvent (s : State) : Option Nat :=
  let rec go : Nat → List EvEntry → Nat
    | n, [] => n
    | n, e :: es => if e.index = n then go (n + 1) es else n
  let n := go 0 s.sch.entries
  if n < 4096 then some n else none

/-- `EVENT_ADD` (R214, R215, R221): entries due at this instant fire before the write takes effect (R219), as for
`EVENT_REMOVE`. -/
def cmdEventAdd (h : CmdHdr) (entry : List Byte) (s : State) : State :=
  command 0x0401 h entry (fun s =>
    match evBad entry with
    | some o => ansRange s o
    | none =>
      match (if evAction entry = 1 then (evField entry).find? (fun c => !s.hostOwned 3 c.1) else none) with
      | some c => ansConflict s (unitId 7 c.1)
      | none =>
        match s.freeEvent with
        | none => ansBusy s
        | some i => ansOk (writeEvent i entry (evaluateAll false s)) (toBE 2 i)) s

/-- The meaning of `EVENT_ADD`. -/
def execEventAdd (h : CmdHdr) (entry : List Byte) (s : State) : Outcome := act (whenServing (cmdEventAdd h entry)) s

/-- `EVENT_REMOVE` (R214). -/
def cmdEventRemove (h : CmdHdr) (index : Nat) (s : State) : State :=
  command 0x0402 h (toBE 2 index) (fun s => if index > 4095 then ansRange s 0 else ansOk (removeEvent index (evaluateAll false s))) s

/-- The meaning of `EVENT_REMOVE`. -/
def execEventRemove (h : CmdHdr) (index : Nat) (s : State) : Outcome := act (whenServing (cmdEventRemove h index)) s

/-- `EVENT_READ` (R214): a FREE entry holds nothing and reads as zeros. -/
def cmdEventRead (h : CmdHdr) (index : Nat) (s : State) : State :=
  command 0x0403 h (toBE 2 index) (fun s =>
    if index > 4095 then ansRange s 0
    else ansOk s (match s.event index with | some e => e.bytes | none => zeros 64)) s

/-- The meaning of `EVENT_READ`. -/
def execEventRead (h : CmdHdr) (index : Nat) (s : State) : Outcome := act (whenServing (cmdEventRead h index)) s

/-- A swap that reverses the reference end rewrites the position fields of every position and conjunction entry (R234). -/
def negateEvents (s : State) : State :=
  let neg (o : Nat) (b : List Byte) : List Byte := toBE 8 (ofSigned 64 (-toSigned 64 (beAt b o 8)))
  let one (t : State) (e : EvEntry) : State :=
    let b := e.bytes
    let base := evBase b
    if base != 1 && base != 3 then t
    else
      let fl := byteAt b 1
      let fl2 := setBits fl 1 2 (bits fl 2 1 + 2 * bits fl 1 1)
      let ab := if base = 3 then neg 16 b ++ neg 8 b else neg 8 b ++ slice b 16 8
      let b2 := slice b 0 1 ++ toBE 1 fl2 ++ slice b 2 6 ++ ab ++ b.drop 24
      (t.setEvent { e with bytes := b2, prevPos := -e.prevPos }).wr (SCH_EVi_REVERSED.f e.index)
        (1 - t.rd (SCH_EVi_REVERSED.f e.index))
  s.sch.entries.foldl one s

/-! Host frame rings (R227 to R231). -/

/-- A poll of the tail word: `rxSizes` are the buffer sizes of the receive descriptors it publishes, 0 for one whose buffer
host memory will not take.  A tail outside its ring stops fetching until a later one lies inside it (DESIGN CHOICE, log
entry 22). -/
def pollTail (hb : Bool) (word : Nat) (rxSizes : List Nat) (s : State) : State :=
  let x := hx hb
  let tx := bits word 0 16
  let rx := bits word 32 16
  let r := s.rings hb
  let txBad := tx ≥ 2 ^ s.rd (SCH_Hx_TX_LOG2.f x)
  let rxN := 2 ^ s.rd (SCH_Hx_RX_LOG2.f x)
  let rxBad := rx ≥ rxN
  let s1 := if !s.on (SCH_Hx_TX_EN.f x) then s
    else
      let t := s.setRings hb { r with txTail := if txBad then r.txTail else tx, txStopped := txBad }
      if txBad && !r.txStopped then t.inc (SCH_Hx_TX_BAD.f x) else t
  if !s1.on (SCH_Hx_RX_EN.f x) then s1
  else
    let q := s1.rings hb
    if rxBad then
      let t := s1.setRings hb { q with rxStopped := true }
      if q.rxStopped then t else t.inc (SCH_Hx_TX_BAD.f x)
    else
      let new := rxSizes.take ((rx + rxN - q.rxTail % rxN) % rxN)
      s1.setRings hb { q with rxStopped := false, rxTail := (q.rxTail + new.length) % rxN, rxBufs := q.rxBufs ++ new }

/-- The meaning of `TAIL_WORD_POLL`: while the endpoint's link is up. -/
def execTailWordPoll (hb : Bool) (word : Nat) (rxSizes : List Nat) (s : State) : Outcome :=
  act (whenRunning (pollTail hb word rxSizes)) s

/-- A descriptor's fields keep to Table 07-6; its reserved bits are zero (R9). -/
def State.descOk (s : State) (b : List Byte) : Bool :=
  let len := leAt b 8 2
  let ports := leAt b 10 10
  let bb := bit (byteAt b 23) 2
  if byteAt b 22 ≥ 8 || byteAt b 23 ≥ 32 || !zeroIn b 24 8 then false
  else if bb then ports = 0 && len ≤ 4166
  else ports != 0 && ports % 65536 = 0
    && (bitsOf 80 ports).all (fun n => len + 4 ≤ s.rd (MAC_n_MAXLEN.f n))

/-- A fresh write-back record of a descriptor. -/
def newDesc (hb : Bool) (index event copies : Nat) : TxDesc :=
  { hb := hb, index := index, event := event, sent := 0, time := 0, startedAt := 0, defers := 0, launchLate := false, copies := copies,
    lateWindow := false, removed := false, abandoned := false }

/-- Bind a frame to its entry (R231): the held frame waits for the firing. -/
def bindFrame (w : Wire) (outs : List Egress) (event : Nat) (defer : Bool) (d : TxDesc) (s : State) : State :=
  match enterBuffer w chainLaunch 255 outs.length (some d) s with
  | none => txWriteBack d 0x0014 s
  | some (id, s1) =>
    let b : Bound := { buf := id, event := event, copies := outs.map (fun o => (o, 0)), defer := defer, seq := none }
    syncBound event { s1 with sch := { s1.sch with bound := s1.sch.bound ++ [b] } }

/-- Queue a host frame on its ports. -/
def queueHost (hb : Bool) (bytes : List Byte) (macs : List Nat) (q : Nat) (d : TxDesc) (s : State) : State :=
  match enterBuffer (.eth bytes) (chainHost hb q) 255 macs.length (some d) s with
  | none => txWriteBack d 0x0014 s
  | some (id, s1) => macs.foldl (fun t m => enqueue (plainCopy id m q t.clk.up) t) s1

/-- The planes a `BACKBONE` descriptor names. -/
def descPlanes (flags : Nat) : List Bool := if bit flags 3 then [bit flags 4] else [false, true]

/-- A transmit descriptor is fetched, with its frame where host memory gives it (R228, R231).  A backbone frame that is bound
takes its number, epoch, sequence and lanes when it is released. -/
def fetchTx (hb : Bool) (b : List Byte) (frame : Option (List Byte)) (s : State) : State :=
  let x := hx hb
  let r := s.rings hb
  let i := s.rd (SCH_Hx_TX_HEAD.f x)
  if !s.on (SCH_Hx_TX_EN.f x) || r.txStopped || i = r.txTail || s.sch.bound.length ≥ 1024 then s
  else
    let s1 := s.wr (SCH_Hx_TX_HEAD.f x) ((i + 1) % 2 ^ s.rd (SCH_Hx_TX_LOG2.f x))
    let flags := byteAt b 23
    let q := byteAt b 22 % 8
    let event := leAt b 20 2
    let len := leAt b 8 2
    let ports := bitsOf 80 (leAt b 10 10)
    let back := bit flags 2
    let launch := bit flags 0
    let planes := descPlanes flags
    let d := newDesc hb i event (if back then planes.length else ports.length)
    if b.length != 32 then txWriteBack d 0x0013 (s1.inc (SCH_Hx_DMA_ERR.f x))
    else if !s1.descOk b then txWriteBack d 0x0012 (s1.inc (SCH_Hx_TX_BAD.f x))
    else if launch && !(event < 4096 && s1.evOpen event && (match s1.event event with
        | some e => evAction e.bytes == 2
        | none => false)) then txWriteBack d 0x0015 s1
    else match frame with
      | none => txWriteBack d 0x0013 (s1.inc (SCH_Hx_DMA_ERR.f x))
      | some got =>
        let bytes := fitBytes len got
        if !back then
          let f := bytes ++ zeros (60 - bytes.length)
          if launch then bindFrame (.eth f) (ports.map Egress.port) event (bit flags 1) d s1 else queueHost hb f ports q d s1
        else if launch then
          bindFrame (.bb { ringFrame s1 2 0 bytes with single := bit flags 3 }) (planes.map Egress.plane) event (bit flags 1) d s1
        else originate 2 bytes q (chainHost hb q) planes (bit flags 3) (some d) s1

/-- The meaning of `TRANSMIT_DESCRIPTOR_FETCH`. -/
def execTransmitDescriptorFetch (hb : Bool) (desc : List Byte) (frame : Option (List Byte)) (s : State) : Outcome :=
  act (whenRunning (fetchTx hb desc frame)) s

/-- A write of `SCH_Hx_TX_EN` and `SCH_Hx_RX_EN` (R227, R237). -/
def writeRingEn (hb : Bool) (tx rx : Nat) (s : State) : State :=
  (s.wr (SCH_Hx_TX_EN.f (hx hb)) tx).wr (SCH_Hx_RX_EN.f (hx hb)) rx

/-- The meaning of `SCH_HX_TX_EN`. -/
def execSchHxTxEn (hb : Bool) (tx rx : Nat) (s : State) : Outcome :=
  act (whenUp (fun s => if tx > 1 || rx > 1 then s else writeRingEn hb tx rx s)) s

/-- A reset of the endpoint: the rings stop, their heads return to 0, and write-backs still owed are discarded (R227). -/
def resetRings (hb : Bool) (s : State) : State :=
  let x := hx hb
  let s1 := (((s.wr (SCH_Hx_TX_EN.f x) 0).wr (SCH_Hx_RX_EN.f x) 0).wr (SCH_Hx_TX_HEAD.f x) 0).wr (SCH_Hx_RX_HEAD.f x) 0
  let mark (h : Held) : Held :=
    { h with desc := h.desc.map (fun d => if d.hb == hb then { d with abandoned := true } else d) }
  { s1 with net := { s1.net with held := s1.net.held.map mark } }.setRings hb FrameRings.reset

end Sys2Proof.Machine
end

