-- ==== Sys2Proof/Machine/Group.lean ====
section
/-!
DEFINITION. Bonded groups, lane tables and ring healing (spec/03, R79, R80, R90 to R103).
-/
namespace Sys2Proof.Machine
open Sys2Proof

/-! Lane tables (R88, R91). -/

/-- The lane table of a group of three or four lanes. -/
def tableOf (g : Nat) : Nat := if g = 15 then 0 else if g = 14 then 1 else if g = 13 then 2 else if g = 11 then 3 else 4

/-- The lanes a table uses. -/
def tableLanes (t : Nat) : Nat :=
  match t with | 0 => 15 | 1 => 14 | 2 => 13 | 3 => 11 | 4 => 7 | _ => 0

/-- Flips armed at a plane-end. -/
def State.flips (s : State) (p : Nat) : List (Nat × Nat) := s.bkb.armed.getD p []

/-- Replace them, with their word. -/
def State.setFlips (s : State) (p : Nat) (l : List (Nat × Nat)) : State :=
  { s.wrB (BKB_PEp_ARMED.f p) (!l.isEmpty) with bkb := { s.bkb with armed := putAt p l s.bkb.armed } }

/-- Arm the table of the present group for the first boundary at least 4 µs away (R91). -/
def armFlip (p : Nat) (s : State) : State := s.setFlips p (s.flips p ++ [(tableOf (s.group p), s.clk.up + 4000)])

/-- The last of the flips whose time a boundary at uptime `t` has reached, else the one given. -/
def lastFlip (t : Nat) : List (Nat × Nat) → Option Nat → Option Nat
  | [], r => r
  | (k, at_) :: l, r => lastFlip t l (if at_ ≤ t then some k else r)

/-! What waits at an end whose state changes (R78, R92, R97). -/

/-- The frame of the origin this node is: its own number and epoch (R77). -/
def State.ownFrame (s : State) (f : BbFrame) : Bool :=
  f.origin != 0 && f.origin == s.rd HST_NODE_NUM.f && f.epoch == s.rd HST_EPOCH.f

/-- Where a frame that waits at a LOOPED plane-end turns to, and whether it is removed at the node's insertion point, which
lies on the way from E1 to E2: an own frame that turns at E2 comes there only when E1 is LOOPED too. -/
def State.turn (s : State) (p : Nat) (own : Bool) : Option Nat × Bool :=
  let other := if p < 2 then p + 2 else p - 2
  if p < 2 && own then (none, true)
  else if s.through other then (some other, false)
  else (none, own)

/-- Turn the slot frames and Pennants that wait for their egress at a LOOPED plane-end. -/
def turnWaiting (p : Nat) (s : State) : State :=
  (s.tcy.waiting.filter (fun w => w.pe == p)).foldl (fun t w =>
    let t1 := { t with tcy := { t.tcy with waiting := t.tcy.waiting.filter (fun x => x != w) } }
    match t1.turn p (t1.ownFrame w.frame) with
    | (some q, _) => { t1 with tcy := { t1.tcy with waiting := t1.tcy.waiting ++ [{ w with pe := q }] } }
    | (none, true) => unref w.buf (t1.inc BKB_RETURNED.f)
    | (none, false) => unref w.buf (t1.inc BKB_LOOPED_DISC.f)) s

/-- The ring frame a queued copy carries, none for a link-local or Ethernet frame. -/
def State.ringOf (s : State) (c : Copy) : Option BbFrame :=
  match c.over_, s.heldOf c.buf with
  | some (.bb f), _ => if f.linkLocal then none else some f
  | some (.eth _), _ => none
  | none, some h => (match h.wire with | .bb f => if f.linkLocal then none else some f | .eth _ => none)
  | none, none => none

/-- Move a queued copy to another MAC. -/
def moveCopy (c : Copy) (mac : Nat) (s : State) : State := enqueue { c with mac := mac } (s.dequeue c)

/-- Bring the message-phase frames queued at a plane-end, each to the lane that its origin has among the lanes now in use
(R85, R89), or turn them when it is LOOPED. -/
def rehome (p : Nat) (s : State) : State :=
  (s.net.queue.filter (fun c => c.mac / 4 == p && c.mac < 16)).foldl (fun t c =>
    match t.ringOf c with
    | none => t
    | some f =>
      if t.through p then
        (match t.egressMac p f.origin with
          | some m => if m == c.mac then t else moveCopy c m t
          | none => dropCopy c 60 ((t.dequeue c).inc (BKB_PEp_LANEDROP.f p)))
      else match t.turn p (t.ownFrame f) with
        | (some q, _) => (match t.egressMac q f.origin with
          | some m => moveCopy c m t
          | none => dropCopy c 60 ((t.dequeue c).inc (BKB_PEp_LANEDROP.f q)))
        | (none, true) => unref c.buf ((t.dequeue c).inc BKB_RETURNED.f)
        | (none, false) => dropCopy c 50 ((t.dequeue c).inc BKB_LOOPED_DISC.f)) s

/-- Raise `RING_STATE` (R104). -/
def raiseRing (p cause : Nat) (s : State) : State :=
  s.raise 0x0505 (unitId 3 p) (toBE 1 (s.rd (BKB_PEp_END.f p)) ++ toBE 1 cause ++ toBE 1 (s.rd (BKB_PEp_IN_USE.f p)))

/-- An end goes LOOPED: its paths are joined (Table 03-3). -/
def goLooped (p cause : Nat) (s : State) : State :=
  raiseRing p cause (rehome p (turnWaiting p (s.wr (BKB_PEp_END.f p) 0)))

/-- An end goes THROUGH at a swap: its paths are separated. -/
def goThrough (p : Nat) (s : State) : State := raiseRing p 3 (s.wr (BKB_PEp_END.f p) 1)

/-! The group (R79, R91, R102). -/

/-- OPER of a plane-end (R102): `DISABLED` while none of its lane ports is enabled. -/
def State.peOper (s : State) (p : Nat) : Nat :=
  if s.cfgOf (unitId 3 p) = 0 then 0
  else match popcount 4 (s.group p) with | 4 => 1 | 3 => 3 | _ => 2

/-- Lanes that have left the group, whatever made them leave, wait out the clean time of R93 before they rejoin. -/
def markLeft (p g0 : Nat) (s : State) : State :=
  let g := s.group p
  (List.range 4).foldl (fun t l =>
    if bit g0 l && !bit g l then t.setLane (4 * p + l) (fun x => { x with recovering := true }) else t) s

/-- What follows from a change at a plane-end whose group was `g0`: words, OPER, the armed flip, the end state and the Hoist
trigger.  `cause` is that of `RING_STATE`. -/
def settleGroup (p cause g0 : Nat) (s0 : State) : State :=
  let s := markLeft p g0 s0
  let s1 := syncBbPath ((s.wrB (BKB_PEp_PRESENT.f p) (s.present p)).wr (BKB_PEp_RX_GOOD.f p) (laneMask (s.rxGood p)))
  let s2 := s1.setOper (unitId 3 p) (s1.peOper p)
  let was := 3 ≤ popcount 4 g0
  if s2.group p = g0 then s2
  else if s2.present p then
    let s3 := rehome p (armFlip p s2)
    if was then s3 else detect 3 p 0 s3
  else if was then
    let s3 := s2.setFlips p []
    detect 3 p 0 (if s3.through p then goLooped p cause s3 else s3)
  else s2

/-- Make a change at a plane-end, and what follows from it. -/
def withGroup (p cause : Nat) (f : State → State) (s : State) : State := settleGroup p cause (s.group p) (f s)

/-- A lane table comes into force in the bank of a plane-end: an entry whose `LT_SLOT` is not its own place makes the bank
faulty (R88, R14). -/
def useTable (p k : Nat) (s : State) : State :=
  let s1 := ((s.wr (BKB_PEp_TABLE.f p) k).wr (BKB_PEp_IN_USE.f p) (tableLanes k)).inc (BKB_PEp_FLIPS.f p)
  let bank := s1.rd (BKB_PEp_BANK.f p)
  let bad := (s1.bkb.tables.getD (5 * p + k) []).any (fun e => e.slot != e.index)
  let s2 := if bad && !s1.bkb.faulty.contains (p, bank) then
      tableFault (unitId 3 p) 2 bank 0 0 { s1 with bkb := { s1.bkb with faulty := (p, bank) :: s1.bkb.faulty } }
    else s1
  rehome p s2

/-- The Hoist swap of the cycle that starts will flip every selector, the lane banks among them (R98, R160). -/
def State.swapsNow (s : State) : Bool :=
  s.rd HST_STATE.f == 4 && s.hst.proposal.isSome && (match s.hst.swapAt with | some x => x.1 == s.cycle | none => false)

/-- A boundary at uptime `t` flips the lane tables whose time has come (R15, R91); a swap at the same boundary makes its own
flip of the bank, from the same group, and that is the one flip (R98). -/
def flipLanes (t p : Nat) (s : State) : State :=
  let l := s.flips p
  match lastFlip t l none with
  | none => s
  | some k =>
    if s.swapsNow then s
    else
      let s1 := s.setFlips p (l.filter (fun x => t < x.2))
      useTable p k (s1.wr (BKB_PEp_BANK.f p) (1 - s1.rd (BKB_PEp_BANK.f p)))

/-! Lanes (R70, R93 to R95, R101). -/

/-- A lane that a MAC below 16 with CFG `ENABLED` serves. -/
def State.laneOn (s : State) (mac : Nat) : Bool := mac < 16 && s.on (MAC_n_CFG_EN.f mac)

/-- A lane's PHY completes training at a speed (R70, R72).  A lane already trained has trained anew after a loss. -/
def trainLane (mac speed : Nat) (s : State) : State :=
  let p := mac / 4
  let n := s.lane mac
  if !s.laneOn mac || speed > 2 || (n.trained && !n.qualified) then s
  else
    let good := speed == s.rd (BKB_PEp_CTL_SPEED.f p)
    withGroup p 0 (fun t =>
      setLink mac good (t.groupCode p)
        ((clearDelay mac t).setLane mac (fun x =>
          { x with trained := true, speed := speed, inLoss := false, qualified := false }))) s

/-- A lane's PHY reports a loss (R94). -/
def reportLoss (mac : Nat) (s : State) : State :=
  let n := s.lane mac
  if !s.laneOn mac || !n.trained || n.inLoss then s
  else
    let w := s.inWindow (mac / 4) s.clk.now
    s.setLane mac (fun x => { x with inLoss := true, lossStart := s.clk.now, lossInWindow := w })

/-- A lane degrades (R95). -/
def degrade (mac : Nat) (s : State) : State :=
  let p := mac / 4
  let l := mac % 4
  withGroup p 1 (fun t =>
    ((t.wr (BKB_PEp_Ll_DEGRADED.f p l) 1).setLane mac (fun x => { x with recovering := true, errors := [] })).raise 0x0506
      (unitId 3 p) (toBE 1 l ++ toBE 1 1)) s

/-- An errored frame or burst that counts toward degradation, at an uptime: more than `BKB_PEp_DEG_COUNT` within
`BKB_PEp_DEG_WIN_MS` degrade the lane (R95). -/
def countError (mac t : Nat) (s : State) : State :=
  let p := mac / 4
  let l := t :: (s.lane mac).errors.filter (fun x => t < x + s.rd (BKB_PEp_DEG_WIN_MS.f p) * 1000000)
  let s1 := s.setLane mac (fun x => { x with errors := l })
  if s1.on (BKB_PEp_Ll_DEGRADED.f p (mac % 4)) || l.length ≤ s1.rd (BKB_PEp_DEG_COUNT.f p) then s1 else degrade mac s1

/-- An errored frame whose first symbol passed at a local instant: inside a window it counts there only (R99). -/
def erroredFrame (mac t : Nat) (s : State) : State :=
  if s.inWindow (mac / 4) t then s.inc (BKB_PEp_Ll_DWERR.f (mac / 4) (mac % 4)) else countError mac (s.upAt t) s

/-- A loss ends (R94): a short one was a burst. -/
def endLoss (mac : Nat) (s : State) : State :=
  let n := s.lane mac
  let p := mac / 4
  let l := mac % 4
  if !s.laneOn mac || !n.inLoss then s
  else if n.qualified then
    withGroup p 0 (fun t =>
      setLink mac (n.trained && n.speed == t.rd (BKB_PEp_CTL_SPEED.f p)) (t.groupCode p)
        (t.setLane mac (fun x => { x with inLoss := false, qualified := false }))) s
  else
    let s1 := s.setLane mac (fun x => { x with inLoss := false })
    if n.lossInWindow then s1.inc (BKB_PEp_Ll_DWERR.f p l)
    else countError mac s1.clk.up (s1.inc (BKB_PEp_Ll_BURST.f p l))

/-- A loss reaches the qualification time (R94): the lane leaves the group at once, and its delay state is cleared as at a loss
of training (R177; DEDUCED, log entry 90). -/
def qualifyLoss (mac : Nat) (s : State) : State :=
  let n := s.lane mac
  let p := mac / 4
  if !s.laneOn mac || !n.inLoss || n.qualified then s
  else
    withGroup p 0 (fun t =>
      setLink mac false 0 (clearDelay mac ((t.inc (BKB_PEp_Ll_QLOSS.f p (mac % 4))).setLane mac (fun x =>
        { x with qualified := true, recovering := true })))) s

/-- A lane loses its training: its PHY is powered down or retrains, which is a qualified loss (R101, R308). -/
def untrain (mac : Nat) (s : State) : State :=
  let p := mac / 4
  withGroup p 0 (fun t =>
    setLink mac false 0 (clearDelay mac ((t.inc (BKB_PEp_Ll_QLOSS.f p (mac % 4))).setLane mac (fun x =>
      { laneDown with recovering := true, errors := x.errors })))) s

/-- A lane has stayed clean for `BKB_PEp_RECOVER_MS` (R93). -/
def recoverLane (mac : Nat) (s : State) : State :=
  let n := s.lane mac
  let p := mac / 4
  let l := mac % 4
  if !s.laneOn mac || !n.recovering || !n.trained || n.inLoss || n.speed != s.rd (BKB_PEp_CTL_SPEED.f p) then s
  else
    withGroup p 0 (fun t =>
      let t1 := t.setLane mac (fun x => { x with recovering := false })
      if t1.on (BKB_PEp_Ll_DEGRADED.f p l) then
        (t1.wr (BKB_PEp_Ll_DEGRADED.f p l) 0).raise 0x0506 (unitId 3 p) (toBE 1 l ++ toBE 1 0)
      else t1) s

/-- A write of the group speed and extended reach retrains all four lanes (R101). -/
def writeSpeed (p speed ext : Nat) (s : State) : State :=
  (List.range 4).foldl (fun t l => untrain (4 * p + l) t)
    ((s.wr (BKB_PEp_CTL_SPEED.f p) speed).wr (BKB_PEp_CTL_EXT.f p) ext)

/-- The combination that R70 and R71 allow: extended reach at 2.5 Gb/s only. -/
def speedOk (speed ext : Nat) : Bool := speed ≤ 2 && ext ≤ 1 && (ext == 0 || speed == 0)

/-- The meaning of `LANE_TRAINED`. -/
def execLaneTrained (mac speed : Nat) (s : State) : Outcome := act (whenRunning (trainLane mac speed)) s

/-- The meaning of `LANE_LOSS_REPORT`. -/
def execLaneLossReport (mac : Nat) (s : State) : Outcome := act (whenRunning (reportLoss mac)) s

/-- The meaning of `LANE_LOSS_END`. -/
def execLaneLossEnd (mac : Nat) (s : State) : Outcome := act (whenRunning (endLoss mac)) s

/-- The meaning of `LOSS_QUALIFIED`. -/
def execLossQualified (mac : Nat) (s : State) : Outcome := act (whenRunning (qualifyLoss mac)) s

/-- The meaning of `LANE_RECOVER`. -/
def execLaneRecover (mac : Nat) (s : State) : Outcome := act (whenRunning (recoverLane mac)) s

/-- The meaning of `BKB_PEP_CTL_SPEED`: a write that is answered `RANGE` changes neither field (R71). -/
def execBkbPepCtlSpeed (pe speed ext : Nat) (s : State) : Outcome :=
  act (whenRunning (fun s => if pe < 4 && speedOk speed ext then writeSpeed pe speed ext s else s)) s

/-- `LANE_FORCE` (R103). -/
def cmdLaneForce (h : CmdHdr) (pe mask : Nat) (s : State) : State :=
  command 0x0505 h (toBE 1 pe ++ toBE 1 mask) (fun s =>
    if pe > 3 then ansRange s 0
    else if mask > 15 then ansRange s 1
    else ansOk (withGroup pe 2 (fun t => t.wr (BKB_PEp_FORCED.f pe) mask) s)) s

/-- The meaning of `LANE_FORCE`. -/
def execLaneForce (h : CmdHdr) (pe mask : Nat) (s : State) : Outcome := act (whenServing (cmdLaneForce h pe mask)) s

/-! Lane state frames (R90, R91). -/

/-- A lane state frame goes out on a trained lane, or waits for the next gap. -/
def sendLsf (mac : Nat) (s : State) : State :=
  let p := mac / 4
  if !s.laneOn mac || !(s.lane mac).trained then s
  else if !s.laneGap mac then holdGap mac .laneState s
  else
    sendLane mac (localFrame s 8 (toBE 1 (laneMask (s.rxGood p)) ++ toBE 1 (s.rd (BKB_PEp_TABLE.f p)) ++ zeros 28)) s

/-- The meaning of `LANE_STATE_FRAME_SEND`. -/
def execLaneStateFrameSend (mac : Nat) (s : State) : Outcome := act (whenRunning (sendLsf mac)) s

/-- A neighbour's lane state frame (R91).  When it is what takes the plane-end below three lanes, the frame does not say which
of the causes of `RING_STATE` struck the neighbour: the cause is a free value. -/
def takeLsf (mac : Nat) (f : BbFrame) (s : State) : State :=
  let p := mac / 4
  let (v, s1) := takeFree 8 s
  withGroup p (v % 3) (fun t => t.wr (BKB_PEp_NB_GOOD.f p) (byteAt f.body 0 % 16)) s1

end Sys2Proof.Machine
end

