-- ==== Sys2Proof/Machine/Bridge.lean ====
section
/-!
DEFINITION. The remote access bridge (spec/12): sending in the message phase, reassembly and order at the target,
completions at the origin, semaphores and port resets.
-/
namespace Sys2Proof.Machine
open Sys2Proof

/-! What travels. -/

/-- A bridge frame's bytes after the ring header (Table 12-1). -/
def bridgeBody (typ : Nat) (posted : Bool) (port tag seg segs target oseq xid reason len : Nat) (data : List Byte) : List Byte :=
  toBE 1 (typ + 16 * b2n posted) ++ toBE 1 port ++ toBE 1 tag ++ toBE 1 (16 * seg + (segs - 1)) ++ toBE 2 target
    ++ toBE 2 oseq ++ toBE 2 xid ++ toBE 2 reason ++ toBE 4 len ++ data

/-- Cut bytes into segments of up to 4,150 bytes, with fuel; no bytes make one empty segment. -/
def cutSegments : Nat → List Byte → List (List Byte)
  | 0, b => [b]
  | n + 1, b => if b.length ≤ 4150 then [b] else b.take 4150 :: cutSegments n (b.drop 4150)

/-- Queue one forwarded frame of kind 0x6 on both planes in queue 7 (R370); none when no lane or no cell takes it. -/
def tryBridgeFrame (body : List Byte) (s : State) : Option State :=
  let outs := s.messageOuts [false, true]
  let macs := outs.filterMap Prod.snd
  if macs.isEmpty then none
  else match enterBuffer (.bb (ringFrame s 6 s.bkb.seq body)) chainControl 255 macs.length none s with
    | none => none
    | some (id, s1) =>
      some (macs.foldl (fun t m => enqueue (plainCopy id m 7 t.clk.up) t) (countUnsent [false, true] outs (useSeq s1)))

/-- Send a packet in its segments, all of them or nothing (R374). -/
def trySegments (bodies : List (List Byte)) (s : State) : Option State :=
  bodies.foldl (fun t b => match t with | some u => tryBridgeFrame b u | none => none) (some s)

/-- The frames' bodies of one packet. -/
def packetBodies (typ : Nat) (posted : Bool) (port tag target oseq xid reason : Nat) (bytes : List Byte) : List (List Byte) :=
  let segs := cutSegments 15 bytes
  segs.mapIdx (fun i b => bridgeBody typ posted port tag i segs.length target oseq xid reason bytes.length b)

/-- The next order number of a destination under an epoch (R371). -/
def State.oseq (s : State) (uid epoch : Nat) : Nat :=
  ((s.rab.oseqs.find? (fun x => x.1 == uid && x.2.1 == epoch)).map (fun x => x.2.2)).getD 0

/-- The packet of a request as it leaves: own node number and issuing port written, trailer recomputed (R366). -/
def BrReq.packet (r : BrReq) (s : State) : List Byte :=
  packetBytes { r.hdr with originNode := s.rd HST_NODE_NUM.f, originPort := cmdPortNum r.via.port } r.opcode
    (slice r.bytes 24 (r.bytes.length - 28))

/-- A request has left: an order number is used, a posted one is gone, a non-posted one waits for its completion. -/
def requestSent (r : BrReq) (s : State) : State :=
  let epoch := s.rd HST_EPOCH.f
  let o := s.oseq r.destUid epoch
  let rest := s.rab.oseqs.filter (fun x => !(x.1 == r.destUid && x.2.1 == epoch))
  let opens := s.rab.open_.map (fun x => if x.ord == r.ord then { x with sent := true } else x)
  let s1 := { s with rab := { s.rab with oseqs := (r.destUid, epoch, (o + 1) % 65536) :: rest, open_ := opens,
                                         posted := s.rab.posted.filter (fun x => x.ord != r.ord) } }
  (s1.inc RAB_REQ_TX.f).syncBridge

/-- Try to send one waiting request: a posted one whose destination has left the train is lost, a non-posted one runs into
its timeout; without a cell it waits for the next message phase (R374). -/
def sendRequest (s : State) (r : BrReq) : State :=
  let target := s.nodeOfUid r.destUid
  if target == 0 then
    if r.posted then
      let s1 := { s with rab := { s.rab with posted := s.rab.posted.filter (fun x => x.ord != r.ord) } }
      (s1.inc RAB_POSTED_ERR.f).syncBridge
    else s
  else
    let o := s.oseq r.destUid (s.rd HST_EPOCH.f)
    let bodies := packetBodies (if r.posted then 2 else 1) false (cmdPortNum r.via.port) r.tag target o r.xid 0 (r.packet s)
    match trySegments bodies s with
    | some t => requestSent r t
    | none => s

/-- Requests in the order of their acceptance. -/
def insertOrd (r : BrReq) : List BrReq → List BrReq
  | [] => [r]
  | x :: xs => if r.ord < x.ord then r :: x :: xs else x :: insertOrd r xs

/-- The requests that wait to be sent. -/
def State.unsentRequests (s : State) : List BrReq :=
  (s.rab.posted ++ s.rab.open_.filter (fun r => !r.sent)).foldl (fun l r => insertOrd r l) []

/-- Try to send what the bridge has to send back: it stays when no cell is free, and falls away when its receiver has no
node number. -/
def sendOut (s : State) (o : BrOut) : State :=
  let target := if o.typ == 6 then 0xFFFF else s.nodeOfUid o.destUid
  let keep := { s with rab := { s.rab with outs := s.rab.outs ++ [o] } }
  if target == 0 then s
  else match trySegments (packetBodies o.typ o.posted o.port o.tag target 0 o.xid o.reason o.bytes) s with
    | some t => t
    | none => keep

/-! The target's side. -/

/-- Send a bridge completion (Table 12-3). -/
def bridgeCompletion (destUid port tag xid reason : Nat) (posted : Bool) (s : State) : State :=
  keepOut { typ := 4, posted := posted, destUid := destUid, port := port, tag := tag, xid := xid, reason := reason, bytes := [] } s

/-- The order number that is the next of an origin under an epoch. -/
def State.nextOrder (s : State) (uid epoch : Nat) : Nat :=
  ((s.rab.orders.find? (fun x => x.originUid == uid && x.epoch == epoch)).map (fun x => x.next)).getD 0

/-- Set it. -/
def setOrder (uid epoch next : Nat) (s : State) : State :=
  let rest := s.rab.orders.filter (fun x => !(x.originUid == uid && x.epoch == epoch))
  { s with rab := { s.rab with orders := { originUid := uid, epoch := epoch, next := next } :: rest } }

/-- Completion space that executing non-posted requests and unsent completions hold (R373). -/
def State.completionUse (s : State) : Nat :=
  let replies := (s.rab.outs.filter (fun o => o.typ == 3)).map (fun o => o.bytes.length)
  let asks (p : List Byte) : Bool := !(bit (byteAt p 3) 1 && kindP (beAt p 4 2))
  let running := (s.cmd.waitTrain.filter (fun p => asks p.bytes)).map (fun p => longestReply (beAt p.bytes 4 2) (slice p.bytes 24 (p.bytes.length - 28)))
  (replies ++ running).foldl (· + ·) 0

/-- A waiting request may be executed: its turn has come (R371), no request of its origin under the replaced epoch is
outstanding (R372), and a non-posted one finds its completion space (R373). -/
def State.mayExecute (s : State) (w : BrWait) : Bool :=
  let older := s.rab.waits.any (fun x => x.originUid == w.originUid && x.epoch != w.epoch)
    || s.rab.parts.any (fun x => (x.typ == 1 || x.typ == 2) && x.epoch != w.epoch && s.uidOfNode x.origin x.epoch == w.originUid)
  let need := longestReply (beAt w.bytes 4 2) (slice w.bytes 24 (w.bytes.length - 28))
  w.oseq == s.nextOrder w.originUid w.epoch
    && (w.epoch != s.rd HST_EPOCH.f || !older)
    && (w.posted || s.completionUse + need ≤ 1048576 - 8192)

/-- Hand a request to the command processor as a TRAIN packet, or turn it away while `RAB_TARGET_EN` is clear (R375). -/
def executeRequest (w : BrWait) (s : State) : State :=
  let s1 := setOrder w.originUid w.epoch ((w.oseq + 1) % 65536)
    { s with rab := { s.rab with waits := s.rab.waits.filter (fun x => x != w) } }
  if !s.on RAB_TARGET_EN.f then bridgeCompletion w.originUid w.port w.tag w.xid 0x0005 w.posted s1
  else
    let via : Via := { port := .train, slot := 0, room := 0, addr := 0, node := w.originUid, epoch := w.epoch,
                       rport := w.port, tag := w.tag, xid := w.xid }
    let s2 := s1.inc RAB_REQ_RX.f
    { s2 with cmd := { s2.cmd with waitTrain := s2.cmd.waitTrain ++ [{ via := via, bytes := w.bytes }] } }

/-- Execute waiting requests while one may be executed, with fuel. -/
def drainWaits : Nat → State → State
  | 0, s => s
  | n + 1, s => match s.rab.waits.find? (fun w => s.mayExecute w) with
    | some w => drainWaits n (executeRequest w s)
    | none => s

/-- Execute what may be executed. -/
def drainRequests (s : State) : State := drainWaits s.rab.waits.length s

/-- A whole request has arrived at its target: it waits for its turn, or it is turned away.  A number already skipped does
not come again (R371). -/
def takeRequest (w : BrWait) (s : State) : State :=
  let used := ((s.rab.waits.filter (fun x => x.posted == w.posted)).map (fun x => x.bytes.length)).foldl (· + ·) 0
  let ahead := (w.oseq + 65536 - s.nextOrder w.originUid w.epoch) % 65536
  if !s.on RAB_TARGET_EN.f then bridgeCompletion w.originUid w.port w.tag w.xid 0x0005 w.posted s
  else if used + w.bytes.length > 131072 then
    bridgeCompletion w.originUid w.port w.tag w.xid 0x0002 w.posted (s.inc RAB_TGT_FULL.f)
  else if ahead ≥ 32768 then s
  else drainRequests { s with rab := { s.rab with waits := s.rab.waits ++ [w] } }

/-! Semaphores (R376). -/

/-- Bring `RAB_SEM_HELD` to the number held. -/
def State.syncSems (s : State) : State :=
  s.wr RAB_SEM_HELD.f ((List.range 64).filter (fun i => s.on (RAB_SEMi_HELD.f i))).length

/-- Free a semaphore. -/
def freeSem (i : Nat) (s : State) : State :=
  let s1 := ((s.wr (RAB_SEMi_OWNER_UID.f i) 0).wr (RAB_SEMi_PORT.f i) 0).wr (RAB_SEMi_HELD.f i) 0
  { s1 with rab := { s1.rab with expiries := dropKey Prod.fst i s1.rab.expiries } }.syncSems

/-- Release a semaphore without command: `SEM_EXPIRED` with its cause, counted, and relayed to the port of an owner
elsewhere when it expired (R376, R380). -/
def expireSem (cause i : Nat) (s : State) : State :=
  let uid := s.rd (RAB_SEMi_OWNER_UID.f i)
  let port := s.rd (RAB_SEMi_PORT.f i)
  let data := toBE 1 i ++ toBE 1 cause ++ toBE 8 uid ++ toBE 1 port
  let s1 := (freeSem i s).raise 0x0A01 0 data
  if cause != 0 then s1.inc RAB_SEM_PORTREL.f
  else
    let s2 := s1.inc RAB_SEM_EXPIRED.f
    let e : EvtRec :=
      { code := 0x0A01, unit := 0, seq := 0, cleared := false, lostBefore := false, phase := false, port := port,
        time := s.ts, status := 0, epoch := s.rd HST_EPOCH.f, data := fitBytes 12 data }
    if uid == s.rd HST_UID.f then s2
    else keepOut { typ := 5, posted := false, destUid := uid, port := port, tag := 0, xid := 0, reason := 0, bytes := eventBytes e } s2

/-- Release every held semaphore whose owner meets a condition. -/
def releaseSems (cause : Nat) (c : Nat → Nat → Bool) (s : State) : State :=
  ((List.range 64).filter (fun i =>
    s.on (RAB_SEMi_HELD.f i) && c (s.rd (RAB_SEMi_OWNER_UID.f i)) (s.rd (RAB_SEMi_PORT.f i)))).foldl
    (fun t i => expireSem cause i t) s

/-- At a swap, owners without a node number in the new directory lose their semaphores (R376). -/
def releaseDeparted (s : State) : State :=
  releaseSems 2 (fun uid _ => uid != s.rd HST_UID.f && s.nodeOfUid uid == 0) s

/-- The owner a command names: its issuing node's unique ID and its issuing port. -/
def State.semOwner (s : State) (h : CmdHdr) : Nat × Nat :=
  if h.via.port == .train then (h.via.node, h.via.rport) else (s.rd HST_UID.f, cmdPortNum h.via.port)

/-- `SEM_ACQUIRE` (R376). -/
def cmdSemAcquire (h : CmdHdr) (index hold : Nat) (s : State) : State :=
  command 0x0A01 h (toBE 1 index ++ toBE 2 hold) (fun s =>
    let o := s.semOwner h
    if index > 63 then ansRange s 0
    else if hold < 1 || hold > 60000 then ansRange s 1
    else if s.on (RAB_SEMi_HELD.f index)
        && !(s.rd (RAB_SEMi_OWNER_UID.f index) == o.1 && s.rd (RAB_SEMi_PORT.f index) == o.2) then ansBusy s
    else
      let s1 := ((s.wr (RAB_SEMi_OWNER_UID.f index) o.1).wr (RAB_SEMi_PORT.f index) o.2).wr (RAB_SEMi_HELD.f index) 1
      let e := putKey Prod.fst (index, s1.clk.up + hold * 1000000) s1.rab.expiries
      ansOk ({ s1 with rab := { s1.rab with expiries := e } }.syncSems)) s

/-- The meaning of `SEM_ACQUIRE`. -/
def execSemAcquire (h : CmdHdr) (index hold : Nat) (s : State) : Outcome := act (whenServing (cmdSemAcquire h index hold)) s

/-- `SEM_RELEASE` (R376). -/
def cmdSemRelease (h : CmdHdr) (index : Nat) (s : State) : State :=
  command 0x0A02 h (toBE 1 index) (fun s =>
    let o := s.semOwner h
    if index > 63 then ansRange s 0
    else if s.on (RAB_SEMi_HELD.f index) && s.rd (RAB_SEMi_OWNER_UID.f index) == o.1 && s.rd (RAB_SEMi_PORT.f index) == o.2 then
      ansOk (freeSem index s)
    else ansConflict s) s

/-- The meaning of `SEM_RELEASE`. -/
def execSemRelease (h : CmdHdr) (index : Nat) (s : State) : Outcome := act (whenServing (cmdSemRelease h index)) s

/-- `BRIDGE_STATUS` (R380): open transactions of the issuing port, posted requests queued, completions discarded. -/
def cmdBridgeStatus (h : CmdHdr) (s : State) : State :=
  command 0x0A03 h [] (fun s =>
    let open_ := if h.via.port == .train then 0 else s.openCount h.via.port
    ansOk s (toBE 2 open_ ++ toBE 2 (s.rd RAB_POSTED_Q.f) ++ toBE 4 (s.rd RAB_LATE.f))) s

/-- The meaning of `BRIDGE_STATUS`. -/
def execBridgeStatus (h : CmdHdr) (s : State) : Outcome := act (whenServing (cmdBridgeStatus h)) s

/-- A held semaphore's time passes. -/
def semExpiry (i : Nat) (s : State) : State :=
  if i ≤ 63 && s.on (RAB_SEMi_HELD.f i) then expireSem 0 i s else s

/-- The meaning of `SEM_EXPIRY`. -/
def execSemExpiry (index : Nat) (s : State) : Outcome := act (whenRunning (semExpiry index)) s

/-! Port resets (R377). -/

/-- A command port of this node resets: its semaphores here are released, its open transactions close without an answer,
and a notice is due.  Posted requests already accepted are still sent. -/
def portReset (p : CmdPort) (s : State) : State :=
  let num := cmdPortNum p
  let s1 := releaseSems 1 (fun uid port => uid == s.rd HST_UID.f && port == num) s
  let i := portIdx p
  let resets := putAt i (some (s1.rab.xids.getD i 0)) s1.rab.resetXids
  { s1 with rab := { s1.rab with open_ := s1.rab.open_.filter (fun r => r.via.port != p), resetXids := resets,
                                 notices := s1.rab.notices ++ [num] } }.syncBridge

/-- OPER of MAC 80 leaving `UP` resets the port `MT` (R377). -/
def withMt (f : State → State) (s : State) : State :=
  let t := f s
  if s.macUp 80 && !t.macUp 80 then portReset .mt t else t

/-! The message phase (R370, R375). -/

/-- Send the notices that are due: that of a node reset waits for SYNC (R377). -/
def sendNotices (s : State) : State :=
  let ready (n : Nat) : Bool := n != 0xFF || s.rd TCY_STATE.f == 5 || s.isLead
  let due := s.rab.notices.filter ready
  let rest := s.rab.notices.filter (fun n => !ready n)
  due.foldl (fun t n =>
    match trySegments (packetBodies 6 false n 0 0xFFFF 0 0 0 []) t with
    | some u => u
    | none => { t with rab := { t.rab with notices := t.rab.notices ++ [n] } })
    { s with rab := { s.rab with notices := rest } }

/-- The bridge at the start of a message phase: it sends its requests, what it owes other nodes, and its notices; freed
completion space lets waiting requests run. -/
def bridgePhase (s : State) : State :=
  if s.originSilent then s
  else
    let s1 := s.unsentRequests.foldl sendRequest s
    let outs := s1.rab.outs
    let s2 := outs.foldl sendOut { s1 with rab := { s1.rab with outs := [] } }
    drainRequests (sendNotices s2)

/-- The overlap cycle is over: the order state of the replaced epoch is cleared (R372), with what still waited under it. -/
def bridgeOverlapEnd (s : State) : State :=
  let e := s.rd HST_EPOCH.f
  drainRequests { s with rab := { s.rab with orders := s.rab.orders.filter (fun x => x.epoch == e),
                                             waits := s.rab.waits.filter (fun x => x.epoch == e),
                                             oseqs := s.rab.oseqs.filter (fun x => x.2.1 == e) } }

/-! The origin's side. -/

/-- The reply that bytes spell (R37). -/
def replyOf (b : List Byte) : Reply :=
  let flags := byteAt b 3
  { posted := bit flags 1, epochCheck := bit flags 2, opcode := beAt b 4 2, seq := beAt b 6 2, target := beAt b 8 2,
    epoch := beAt b 10 2, originNode := beAt b 14 2, originPort := byteAt b 16, status := beAt b 24 2,
    data := slice b 28 (b.length - 32) }

/-- The event record that 32 bytes spell (R52). -/
def eventOf (b : List Byte) : EvtRec :=
  let flags := byteAt b 6
  { code := beAt b 0 2, unit := beAt b 2 2, seq := beAt b 4 2, cleared := bit flags 0, lostBefore := bit flags 1, phase := false,
    port := byteAt b 7, time := beAt b 8 8, status := beAt b 16 2, epoch := beAt b 18 2, data := slice b 20 12 }

/-- The command path of a global port number. -/
def cmdPortOf (n : Nat) : Option CmdPort :=
  if n = 116 then some .ha else if n = 117 then some .hb else if n = 118 then some .ss else if n = 119 then some .mt else none

/-- Close an open transaction, freeing its tag and reservation. -/
def closeOpen (r : BrReq) (s : State) : State :=
  { s with rab := { s.rab with open_ := s.rab.open_.filter (fun x => x.ord != r.ord) } }.syncBridge

/-- The open transaction a completion names. -/
def State.openOf (s : State) (port tag xid : Nat) : Option BrReq :=
  s.rab.open_.find? (fun r => cmdPortNum r.via.port == port && r.tag == tag && r.xid == xid && r.sent)

/-- Note a posted request that failed (R369). -/
def postedFailed (node opcode status seq reason : Nat) (s : State) : State :=
  (((((s.inc RAB_POSTED_ERR.f).wr RAB_PERR_NODE.f node).wr RAB_PERR_OPCODE.f opcode).wr RAB_PERR_STATUS.f status).wr
    RAB_PERR_SEQ.f seq).wr RAB_PERR_REASON.f reason

/-- A completion is whole (R367, R369). -/
def takeCompletion (x : BrPart) (bytes : List Byte) (s : State) : State :=
  let r := replyOf bytes
  if bit x.flags 4 then postedFailed x.origin r.opcode r.status r.seq 0 s
  else match s.openOf x.port x.tag x.xid with
    | some q => deliverRemote q r (closeOpen q s)
    | none => s.inc RAB_LATE.f

/-- A bridge completion arrives (R367, R369).  That of a posted request names neither its opcode nor its `SEQ`: free. -/
def takeBridgeCompletion (x : BrPart) (s : State) : State :=
  if bit x.flags 4 then
    let (op, s1) := takeFree 16 s
    let (seq, s2) := takeFree 16 s1
    postedFailed x.origin op stRemoteError seq x.reason s2
  else match s.openOf x.port x.tag x.xid with
    | some q => deliverRemote q (mkReply q.hdr q.opcode stRemoteError (toBE 2 x.reason)) (closeOpen q s)
    | none => s.inc RAB_LATE.f

/-- Deliver a relayed event on a command path (R368). -/
def eventToPort (p : CmdPort) (e : EvtRec) (s : State) : State :=
  let ring (hb : Bool) : State :=
    if s.ringOpen hb then ringDeliver hb e s
    else (s.inc (CMD_Hx_LOST.f (hx hb))).setEp hb { s.ep hb with lost := true }
  match p with
  | .ha => ring false
  | .hb => ring true
  | .ss => ssDeliver e s
  | .mt => mtDeliver e s
  | .train => s

/-- An event relay arrives: the `CMD_DONE` of a command issued before the port's last reset is discarded (R368), and counted on
a ring port (R54). -/
def takeEventRelay (x : BrPart) (bytes : List Byte) (s : State) : State :=
  let e := eventOf bytes
  match cmdPortOf x.port with
  | none => s.inc RAB_REASM_FAIL.f
  | some p =>
    let before := match s.rab.resetXids.getD (portIdx p) none with
      | some n => e.code == 0x0100 && 1 ≤ (n + 65536 - x.xid) % 65536 && (n + 65536 - x.xid) % 65536 ≤ 32768
      | none => false
    if before then (match p with
      | .ha => s.inc (CMD_Hx_LOST.f 0)
      | .hb => s.inc (CMD_Hx_LOST.f 1)
      | _ => s)
    else eventToPort p e s

/-! Receiving (R370). -/

/-- Every segment of a packet is present. -/
def BrPart.whole (x : BrPart) : Bool := (List.range x.total).all (fun i => x.segs.any (fun y => y.1 == i))

/-- The packet's bytes. -/
def BrPart.bytes (x : BrPart) : List Byte :=
  ((List.range x.total).map (fun i => ((x.segs.find? (fun y => y.1 == i)).map (fun y => y.2)).getD [])).flatten

/-- Two segments belong to one packet. -/
def BrPart.same (x y : BrPart) : Bool :=
  x.origin == y.origin && x.epoch == y.epoch && x.typ == y.typ && x.port == y.port
    && (if x.typ == 2 then x.oseq == y.oseq else x.xid == y.xid)

/-- A packet cannot be put together: counted, and a request is answered (R370). -/
def reassemblyFailed (x : BrPart) (s : State) : State :=
  let s1 := s.inc RAB_REASM_FAIL.f
  let uid := s.uidOfNode x.origin x.epoch
  if (x.typ == 1 || x.typ == 2) && uid != 0 then bridgeCompletion uid x.port x.tag x.xid 0x0003 (x.typ == 2) s1
  else s1

/-- A request of an origin that the directory does not know, or that names no command port, is a command frame of no bridge relay:
discarded, counted and not answered (R42).  That this is what such a frame looks like is DEDUCED (log 16). -/
def BrPart.noRelay (x : BrPart) (uid : Nat) : Bool := uid == 0 || (cmdPortOf x.port).isNone

/-- A whole packet is handled by its type. -/
def takePacket (x : BrPart) (s : State) : State :=
  let uid := s.uidOfNode x.origin x.epoch
  let bytes := x.bytes
  if x.typ ≤ 3 && bytes.length != x.len then reassemblyFailed x s
  else if x.typ == 1 || x.typ == 2 then
    if x.noRelay uid then s.inc CMD_DISCARD_TRAIN.f
    else takeRequest
      { origin := x.origin, originUid := uid, epoch := x.epoch, oseq := x.oseq, posted := x.typ == 2, port := x.port,
        tag := x.tag, xid := x.xid, bytes := bytes } s
  else if x.typ == 3 then takeCompletion x bytes s
  else if x.typ == 4 then takeBridgeCompletion x s
  else if x.typ == 5 then takeEventRelay x bytes s
  else if uid == 0 then s.inc RAB_REASM_FAIL.f
  else releaseSems 1 (fun u port => u == uid && (x.port == 0xFF || port == x.port)) s

/-- A kind 0x6 frame that passed R82 is for this node (R370). -/
def State.bridgeForMe (s : State) (f : BbFrame) : Bool :=
  let target := beAt f.body 4 2
  target == 0xFFFF || (target != 0 && target == s.ownNumber f.epoch)

/-- A bridge frame is delivered to the bridge. -/
def takeBridge (f : BbFrame) (s : State) : State :=
  let b := f.body
  let typ := byteAt b 0 % 16
  let seg := byteAt b 3 / 16
  let x : BrPart :=
    { origin := f.origin, epoch := f.epoch, typ := typ, port := byteAt b 1, xid := beAt b 8 2, tag := byteAt b 2,
      oseq := beAt b 6 2, total := byteAt b 3 % 16 + 1, segs := [(seg, b.drop 16)], len := beAt b 12 4, flags := byteAt b 0,
      reason := beAt b 10 2 }
  if !s.bridgeForMe f then s
  else if typ < 1 || typ > 6 || seg ≥ x.total then s.inc RAB_REASM_FAIL.f
  else
    let (y, others) := match s.rab.parts.find? (fun y => y.same x) with
      | some y => ({ y with segs := putKey Prod.fst (seg, b.drop 16) y.segs }, s.rab.parts.filter (fun (z : BrPart) => !z.same x))
      | none => (x, s.rab.parts)
    let s1 := { s with rab := { s.rab with parts := others } }
    if y.whole then takePacket y s1
    else { s1 with rab := { s1.rab with parts := others ++ [y] } }

/-- Packets of an origin whose segments did not all come within `RAB_GAP_US`; `xid` is the transaction number, and the
order number of a posted request. -/
def reassemblyTimeout (origin xid : Nat) (s : State) : State :=
  let due (x : BrPart) : Bool := x.origin == origin && (if x.typ == 2 then x.oseq else x.xid) == xid
  let gone := s.rab.parts.filter due
  let s1 := { s with rab := { s.rab with parts := s.rab.parts.filter (fun x => !due x) } }
  drainRequests (gone.foldl (fun t x => reassemblyFailed x t) s1)

/-- The meaning of `REASSEMBLY_TIMEOUT`. -/
def execReassemblyTimeout (origin xid : Nat) (s : State) : Outcome := act (whenRunning (reassemblyTimeout origin xid)) s

/-- The waiting request of an origin that comes first in order under an epoch, and how many numbers are missing before it. -/
def State.firstWaiting (s : State) (uid epoch : Nat) : Option (BrWait × Nat) :=
  let ws := s.rab.waits.filter (fun w => w.originUid == uid && w.epoch == epoch)
  let gap (w : BrWait) : Nat := (w.oseq + 65536 - s.nextOrder uid epoch) % 65536
  ws.foldl (fun b w => match b with
    | some (x, n) => if gap w < n then some (w, gap w) else some (x, n)
    | none => some (w, gap w)) none

/-- Missing order numbers before a waiting request are skipped (R371), under the replaced epoch first. -/
def orderGap (uid : Nat) (s : State) : State :=
  let current := s.rd HST_EPOCH.f
  let old := (s.rab.waits.find? (fun w => w.originUid == uid && w.epoch != current)).map (fun w => w.epoch)
  match s.firstWaiting uid (old.getD current) with
  | none => s
  | some (w, n) =>
    if n = 0 then s
    else drainRequests ((setOrder uid w.epoch w.oseq s).incBy RAB_GAP_SKIPS.f n)

/-- The meaning of `ORDER_GAP_TIMEOUT`. -/
def execOrderGapTimeout (originUid : Nat) (s : State) : Outcome := act (whenRunning (orderGap originUid)) s

/-- A non-posted transaction reaches its timeout (R367). -/
def transactionTimeout (port tag : Nat) (s : State) : State :=
  match s.rab.open_.find? (fun r => cmdPortNum r.via.port == port && r.tag == tag) with
  | none => s
  | some r => deliverRemote r (mkReply r.hdr r.opcode stTimeout []) ((closeOpen r s).inc RAB_TIMEOUTS.f)

/-- The meaning of `TRANSACTION_TIMEOUT`. -/
def execTransactionTimeout (port tag : Nat) (s : State) : Outcome := act (whenRunning (transactionTimeout port tag)) s

end Sys2Proof.Machine
end

