-- ==== Sys2Proof/Machine/Power.lean ====
section
/-!
DEFINITION. The power die (spec/14, R418 to R422; R462, R463): feeds and their arbiter, the core–power link, journal records
(R13, R468), resets of the core and field dies, and the entry to Bog (R450).
-/
namespace Sys2Proof.Machine
open Sys2Proof

/-! The journal (R13, R468). -/

/-- A record is committed; the journal holds 32,768 blocks in ring order. -/
def commitFlight (s : State) : State :=
  match s.sto.inFlight with
  | none => s
  | some r =>
    let j := s.sto.journal ++ [r]
    { s with sto := { s.sto with journal := if j.length > 32768 then j.drop 1 else j, inFlight := none } }

/-- Start a journal record, after the one in flight; none while the core starts no MRAM write. -/
def startRecord (typ : Nat) (body : List Byte) (s : State) : State :=
  if s.pair.noMram then s
  else
    let s1 := commitFlight s
    let r : JRecord := { typ := typ, seq := s1.sto.nextJournal, time := s1.ts, body := body }
    { s1 with sto := { s1.sto with inFlight := some r, nextJournal := (s1.sto.nextJournal + 1) % 2 ^ 32 } }

/-- A fault log record: cause 0 image fault, 1 identity fault, 2 thermal shutdown, 3 power-loss shutdown. -/
def faultLog (cause slot reason : Nat) (s : State) : State :=
  startRecord 3 (toBE 1 cause ++ toBE 1 slot ++ toBE 1 reason ++ toBE 8 s.ts) s

/-- The meaning of `JOURNAL_RECORD_COMMITTED`: the record in flight completes, also after `HOLDUP_WARN` (R13). -/
def execJournalRecordCommitted (s : State) : Outcome := act commitFlight s

/-! Resets (Table 16-1). -/

/-- Fields whose content the power die keeps across a reset of the core (R462); strap levels hold until the next internal
release (R465). -/
def keptFields : List Fld :=
  [PWR_ARB_STATE.f, PWR_FEEDA_STATE.f, PWR_FEEDB_STATE.f, PWR_HOLDUP_WARN.f, PWR_LINK_UP.f, PWR_FEEDA_MV.f, PWR_FEEDB_MV.f,
   PWR_INPUT_DW.f, PWR_SWITCHES.f, PWR_RIDES.f, PWR_FEEDA_LOSSES.f, PWR_FEEDB_LOSSES.f, PWR_LAST_SWITCH_NS.f,
   LAD_WAKE_CAUSE.f, LAD_WAKE_PE.f, LAD_THERM_STATE.f, LAD_TJ_MAX.f, LAD_TJ_HOT.f, LAD_TJ_i_LO.f 0, LAD_TJ_i_LO.f 1,
   LAD_TJ_i_LO.f 2, LAD_TJ_i_LO.f 3, LAD_TJ_i_HI.f 0, LAD_TJ_i_HI.f 1, LAD_THERM_SHUTDOWNS.f, LAD_BOG_ENTRIES.f,
   LAD_LAST_BOG_S.f, GLB_STRAP_BOOT.f, GLB_STRAP_COLD.f, GLB_STRAP_PAIR.f, GLB_STRAP_MAINT.f, GLB_STRAP_JTAG.f]

/-- A slot whose commit is under way is left invalid, whatever has been written of it (R472). -/
def State.cutCommits (s : State) : StoreUnit :=
  let cut (slot : Nat) : Bool := s.cmd.longs.any (fun l => l.opcode == 0x0203 && l.arg == slot)
  { s.sto with slotA := if cut 0 && !s.sto.validA then [] else s.sto.slotA,
               slotB := if cut 1 && !s.sto.validB then [] else s.sto.slotB }

/-- The terminals of a reset node: every channel that carried a level or a current falls off (Table 13-5). -/
def dropTerminals (s : State) : List Output :=
  ((s.fld.chans.filter (fun p => p.2.level != 0)).map (fun p => Output.pin (.channel p.1) 0))
    ++ (if s.on RED_ARB_REQ.f then [Output.pin .arbReq 0] else [])

/-- The core and field dies are reset: MRAM contents and the power die's state are kept, a record in flight completes first
(R478), a slot whose commit is interrupted stays invalid (R472).  `power` is 2 with the rails up, 1 in Bog, 0 without rails;
`cause` that of the start that follows. -/
def coreReset (power cause : Nat) (s0 : State) : State :=
  let s := commitFlight s0
  let r := State.reset
  { r with
    regs := keptFields.foldl (fun l f => regPut f.key (regGet f.key s.regs) l) [],
    sys := { r.sys with power := power, resetCause := cause, refLostA := s.sys.refLostA, refLostB := s.sys.refLostB },
    pair := { r.pair with lastFeed := s.pair.lastFeed, leftA := s.pair.leftA, leftB := s.pair.leftB, arb := s.pair.arb,
                          stA := s.pair.stA, stB := s.pair.stB, mvA := s.pair.mvA, mvB := s.pair.mvB,
                          prefer := s.pair.prefer, warn := s.pair.warn, noMram := s.pair.warn },
    lad := { r.lad with restartDue := s.lad.restartDue, shut := s.lad.shut, wakeMask := s.lad.wakeMask, tj := s.lad.tj, owed := s.lad.owed },
    sto := { s.cutCommits with vehDue := false, staging := none, written := [], imageFaults := [], idFaults := [], checking := none, applyAt := [],
                               signals := [], queue := [], ring := [] },
    out := s.out ++ dropTerminals s, free := s.free, pending := s.pending }

/-- The meaning of `RESET_N_PULSE`: below 1 µs ignored, from 10 µs a reset, in between one or the other (R463). -/
def resetPulse (ns : Nat) (s : State) : State :=
  if s.sys.power = 0 || ns < 1000 then s
  else if 10000 ≤ ns then coreReset 2 1 s
  else
    let (b, s1) := takeFree 1 s
    if b = 1 then coreReset 2 1 s1 else s1

/-- The meaning of `RESET_N_PULSE`. -/
def execResetNPulse (ns : Nat) (s : State) : Outcome := act (resetPulse ns) s

/-- A rail supervisor of a die finds a fault: `RAIL_FAIL`, and the core and field dies are reset (Table 16-1, Table 14-5). -/
def railFault (s : State) : State := if s.sys.power < 2 then s else coreReset 2 4 (s.emit (.pin .railFail 1))

/-- The meaning of `RAIL_SUPERVISOR_FAULT`. -/
def execRailSupervisorFault (_die : Nat) (s : State) : Outcome := act railFault s

/-! Feeds (R418 to R422).  Feed 1 is `FEED_A`, 2 `FEED_B`. -/

/-- State of a feed (Table 14-1). -/
def State.feed (s : State) (f : Nat) : Nat := if f = 1 then s.pair.stA else s.pair.stB

/-- Set it. -/
def State.setFeed (s : State) (f st : Nat) : State :=
  if f = 1 then { s with pair := { s.pair with stA := st } } else { s with pair := { s.pair with stB := st } }

/-- The other feed. -/
def otherFeed (f : Nat) : Nat := if f = 1 then 2 else 1

/-- Bring the words of block `PWR` to the power die's state, while the core–power link carries them (R422). -/
def syncPwr (s : State) : State :=
  if !s.on PWR_LINK_UP.f then s
  else
    let c (i : Nat) : Nat := s.lad.owed.getD i 0
    let s1 := (((((s.wr PWR_ARB_STATE.f s.pair.arb).wr PWR_FEEDA_STATE.f s.pair.stA).wr PWR_FEEDB_STATE.f s.pair.stB).wrB
      PWR_HOLDUP_WARN.f s.pair.warn).wr PWR_FEEDA_MV.f s.pair.mvA).wr PWR_FEEDB_MV.f s.pair.mvB
    let s2 := (((s1.incBy PWR_SWITCHES.f (c 0)).incBy PWR_RIDES.f (c 1)).incBy PWR_FEEDA_LOSSES.f (c 2)).incBy
      PWR_FEEDB_LOSSES.f (c 3)
    { s2 with lad := { s2.lad with owed := [0, 0, 0, 0] } }

/-- The power die counts: 0 switchovers, 1 ride-throughs, 2 and 3 losses of A and B. -/
def countPwr (i : Nat) (s : State) : State := { s with lad := { s.lad with owed := modifyAt i (· + 1) s.lad.owed } }

/-- Write the vehicle ID of `GLB_VEH_ID_SET` to the installation record (R479), once the core may start an MRAM write (R13). -/
def recordVehId (s : State) : State :=
  if s.pair.noMram then { s with sto := { s.sto with vehDue := true } }
  else { s with sto := { s.sto with vehId := s.rd GLB_VEH_ID_SET.f, installOk := true, vehDue := false } }

/-- Connect a feed, for a cause of `FEED_SWITCH` (0 loss, 1 preference, 3 ride-through).  The duration of a switchover is at
most 5 µs and otherwise open. -/
def connectFeed (f cause : Nat) (s : State) : State :=
  let prev := s.pair.lastFeed
  let (d, s1) := takeFree 16 s
  let ns := d % 5001
  let s2 := { s1 with pair := { s1.pair with arb := f, lastFeed := f, warn := false, noMram := false, leftA := false,
                                             leftB := false } }
  let s3 := (syncPwr (countPwr (if cause = 3 then 1 else 0) s2)).when s.sto.vehDue recordVehId
  if s3.sys.power = 3 && s3.on PWR_LINK_UP.f then
    (s3.wr PWR_LAST_SWITCH_NS.f ns).raise 0x0802 0 (toBE 1 f ++ toBE 1 prev ++ toBE 1 cause ++ toBE 2 s3.pair.mvA
      ++ toBE 2 s3.pair.mvB ++ toBE 2 ns)
  else s3

/-- A feed is connected from OFF: the power-up sequence begins. -/
def powerUp (f : Nat) (s : State) : State :=
  let s1 := { s with pair := { s.pair with arb := f, lastFeed := f, warn := false, noMram := false, leftA := false,
                                           leftB := false },
                     sys := { s.sys with power := if s.sys.power = 0 then 2 else s.sys.power } }
  syncPwr (s1.emit (.power 1 f))

/-- The feed the arbiter takes from OFF: the preferred one of two `VALID` feeds, or A. -/
def State.startFeed (s : State) : Nat :=
  if s.pair.stA = 2 && s.pair.stB = 2 then (if s.pair.prefer = 2 then 2 else 1) else if s.pair.stB = 2 then 2 else 1

/-- A feed has become `VALID` (Table 14-2). -/
def feedValid (f : Nat) (s : State) : State :=
  if s.pair.arb = 0 && !s.lad.shut then powerUp s.startFeed s
  else if s.pair.arb = otherFeed f && s.pair.prefer = f && s.feed (otherFeed f) = 2 then connectFeed f 1 s
  else syncPwr s

/-- The connected feed has left `VALID`: to the other feed, or to HOLDUP with `HOLDUP_WARN` in the same clock. -/
def feedGone (f : Nat) (s : State) : State :=
  let left := { s with pair := { s.pair with leftA := if f = 1 then true else s.pair.leftA,
                                             leftB := if f = 2 then true else s.pair.leftB } }
  if s.pair.arb = f then
    if s.feed (otherFeed f) = 2 then connectFeed (otherFeed f) 0 s
    else syncPwr { left with pair := { left.pair with arb := 3, warn := true, noMram := true } }
  else if s.pair.arb = 3 then syncPwr left
  else syncPwr s

/-- A feed that left `VALID` in this HOLDUP. -/
def State.feedLeft (s : State) (f : Nat) : Bool := if f = 1 then s.pair.leftA else s.pair.leftB

/-- A feed's state changes at a measured voltage (R418, R420). -/
def feedChange (f st mv : Nat) (s : State) : State :=
  let old := s.feed f
  let s1 := if f = 1 then { s with pair := { s.pair with mvA := mv } } else { s with pair := { s.pair with mvB := mv } }
  if s.pair.arb = 3 && s.feedLeft f && st != 0 then connectFeed f 3 (s1.setFeed f 2)
  else
    let s2 := s1.setFeed f st
    if old = 2 && st != 2 then feedGone f (countPwr (1 + f) s2)
    else if old != 2 && st = 2 then feedValid f s2
    else syncPwr s2

/-- The meaning of `FEED_STATE_CHANGE`. -/
def execFeedStateChange (feed state mv : Nat) (s : State) : Outcome :=
  act (fun s => if (feed = 1 ∨ feed = 2) ∧ state ≤ 2 then feedChange feed state mv s else s) s

/-- The meaning of `FEED_QUALIFIED`: a feed completes its qualification. -/
def execFeedQualified (feed : Nat) (s : State) : Outcome :=
  act (fun s => if (feed = 1 ∨ feed = 2) ∧ s.feed feed = 1 then feedValid feed (s.setFeed feed 2) else s) s

/-- Rails off: the pair sees a health trip, `RAIL_FAIL` is asserted and every die but the power die is reset (R420, R457). -/
def railsOff (s : State) : State :=
  let s1 := rehealth { s with pair := { s.pair with shutdown := true, noMram := true } }
  let s2 := s1.emit (.pin .railFail 1)
  let s3 := coreReset 0 0 { s2 with pair := { s2.pair with arb := 0, warn := false } }
  syncPwr s3

/-- The ride-through time ends without a feed (R420). -/
def rideExpiry (s : State) : State := if s.pair.arb = 3 then railsOff s else s

/-- The meaning of `RIDE_THROUGH_EXPIRY`. -/
def execRideThroughExpiry (s : State) : Outcome := act rideExpiry s

/-- A write of `PWR_PREFER` (R421). -/
def writePrefer (f : Nat) (s : State) : State :=
  let s1 := s.wr PWR_PREFER.f f
  if !s.on PWR_LINK_UP.f then s1
  else
    let s2 := { s1 with pair := { s1.pair with prefer := f } }
    if (f = 1 || f = 2) && s2.pair.arb = otherFeed f && s2.pair.stA = 2 && s2.pair.stB = 2 then connectFeed f 1 s2 else s2

/-- `FEED_PREFER` (R421). -/
def cmdFeedPrefer (h : CmdHdr) (feed : Nat) (s : State) : State :=
  command 0x0803 h (toBE 1 feed) (fun s => if feed > 2 then ansRange s 0 else ansOk (writePrefer feed s)) s

/-- The meaning of `FEED_PREFER`. -/
def execFeedPrefer (h : CmdHdr) (feed : Nat) (s : State) : Outcome := act (whenServing (cmdFeedPrefer h feed)) s

/-- The meaning of `PWR_PREFER`: a parameter write, from SAFETY only (Table 17-2). -/
def execPwrPrefer (c : PrivClass) (feed : Nat) (s : State) : Outcome :=
  act (whenUp (fun s => if c == .safety && feed ≤ 2 then writePrefer feed s else s)) s

/-- The core–power link is lost (Table 01-2). -/
def powerLinkLost (s : State) : State :=
  if !s.on PWR_LINK_UP.f then s
  else ((((s.wr PWR_LINK_UP.f 0).wr (GLB_LINKl_UP.f 2) 0).inc (GLB_LINKl_LOSS.f 2)).setOper (unitId 0x0A 2) 2).raise 0x0801
    (unitId 0x0A 2) []

/-- The meaning of `PWR_LINK_LOST`. -/
def execPwrLinkLost (s : State) : Outcome := act (whenReleased powerLinkLost) s

/-- The link returns: words and preference cross it again. -/
def powerLinkReturn (s : State) : State :=
  if s.on PWR_LINK_UP.f then s
  else
    let s1 := ((s.wr PWR_LINK_UP.f 1).wr (GLB_LINKl_UP.f 2) 1).setOper (unitId 0x0A 2) 1
    writePrefer (s1.rd PWR_PREFER.f) ((syncPwr s1).raise 0x0801 (unitId 0x0A 2) [] true)

/-- The meaning of `POWER_LINK_RETURN`. -/
def execPowerLinkReturn (s : State) : Outcome := act (whenReleased powerLinkReturn) s

/-! Entry to Bog (R450). -/

/-- The body of a resume record (Table 16-5). -/
def State.resumeBody (s : State) : List Byte :=
  let slot := s.rd GLB_RUN_SLOT.f
  let img := if slot = 0 then s.sto.slotA else s.sto.slotB
  let over_ := s.sto.written.length > 37
  toBE 10 s.clk.now ++ toBE 1 slot ++ toBE 32 (Config.imageDigest img % 2 ^ 256) ++ toBE 1 (b2n over_)
    ++ ((s.sto.written.take 37).map (fun p => toBE 4 p.1 ++ toBE 8 p.2)).foldr (· ++ ·) []

/-- The node enters Bog: a health trip, the recorder's end record and the resume record, then every rail but those of Bog
goes off. -/
def enterBog (s : State) : State :=
  let s1 := rehealth { s with pair := { s.pair with shutdown := true } }
  let last := match s1.sto.ring.getLast? with | some r => (r.seq, r.time) | none => (s1.rd GLB_REC_SEQ.f - 1, 0)
  let s2 := startRecord 2 s1.resumeBody (startRecord 4 (toBE 8 last.1 ++ toBE 8 last.2) s1)
  let s3 := { s2 with lad := { s2.lad with wakeMask := s2.rd LAD_WAKE_MASK.f } }
  coreReset 1 0 ((s3.inc LAD_BOG_ENTRIES.f).emit (.power 2 0))

/-- A node in LISTEN without a present plane-end for `LAD_ORPHAN_S` seconds (R451); 0 disables it. -/
def orphan (s : State) : State :=
  if s.rd TCY_STATE.f == 1 && s.rd LAD_ORPHAN_S.f != 0 && (List.range 4).all (fun p => !s.on (BKB_PEp_PRESENT.f p)) then
    enterBog s
  else s

/-- The meaning of `ORPHAN_TIMEOUT`. -/
def execOrphanTimeout (s : State) : Outcome := act (whenRunning orphan) s

end Sys2Proof.Machine
end

