-- ==== Sys2Proof/Machine/Ladder.lean ====
section
/-!
DEFINITION. The power ladder and the thermal loop (spec/15): domains (R441 to R447), thermal states (R454), throttling and
shedding (R455), the voltage loop (R456), and shutdown and restart (R457).
-/
namespace Sys2Proof.Machine
open Sys2Proof

/-! Domains. -/

/-- What stands behind a bank logic domain follows its rung; on a return to Run every input filter starts from zero
(R383). -/
def settleBank (b : Nat) (woke : Bool) (s : State) : State :=
  let s1 := if woke then (bankChans b).foldl
      (fun t c => (t.wr (FC_FILT_CNT.f c) 0).setChan c { t.chan c with brk := 0 }) s
    else s
  syncBank b ((bankChans b).foldl (fun t c => syncChan c t) s1)

/-- Put a domain in a rung, with everything that follows it. -/
def moveDomain (d r : Nat) (s : State) : State :=
  let s1 := withMt (setRung d r) s
  if 160 ≤ d ∧ d < 168 then settleBank (d - 160) (r = 0) s1 else s1

/-- A wake request of any domain (R445). -/
def wake (d : Nat) (s : State) : State :=
  if s.rd (LAD_Dd_RUNG.f d) = 0 then s else moveDomain d 0 (s.inc (LAD_Dd_WAKES.f d))

/-- Bring one domain to its limits: a rise of its kind limit or floor above its rung wakes it (R445), and its OPER follows
CFG and use (R447). -/
def settleDomain (d : Nat) (s : State) : State :=
  let s1 := if s.rd (LAD_Dd_RUNG.f d) > s.deepest d then wake d s else s
  s1.setOper (unitId 9 d) (s1.domainOper d)

/-- Bring every domain to its limits. -/
def settleDomains (s : State) : State := (List.range 184).foldl (fun t d => settleDomain d t) s

/-- The meaning of `DOMAIN_WAKE`: a wake request; one of a domain in Run finds nothing to raise. -/
def execDomainWake (domain : Nat) (s : State) : Outcome :=
  act (whenRunning (fun s => if domain > 183 then s else wake domain s)) s

/-- `LADDER_STATUS` (R446): one byte per domain, the rung, and bit 7 while OPER is `HELD`. -/
def cmdLadderStatus (h : CmdHdr) (s : State) : State :=
  command 0x0801 h [] (fun s => ansOk s ((List.range 184).map (fun d =>
    BitVec.ofNat 8 (s.rd (LAD_Dd_RUNG.f d) + 128 * b2n (s.rd (LAD_Dd_OPER.f d) == 6))))) s

/-- The meaning of `LADDER_STATUS`. -/
def execLadderStatus (h : CmdHdr) (s : State) : Outcome := act (whenServing (cmdLadderStatus h)) s

/-- A floor is written: it bounds the next descent, and raises a domain that stands below it at once (R446). -/
def writeFloor (d r : Nat) (s : State) : State := settleDomain d (s.wr (LAD_Dd_FLOOR.f d) r)

/-- `LADDER_FLOOR` (R446). -/
def cmdLadderFloor (h : CmdHdr) (domain rung : Nat) (s : State) : State :=
  command 0x0802 h (toBE 2 domain ++ toBE 1 rung) (fun s =>
    if domain > 183 then ansRange s 0
    else if rung > 4 then ansRange s 2
    else ansOk (writeFloor domain rung s)) s

/-- The meaning of `LADDER_FLOOR`. -/
def execLadderFloor (h : CmdHdr) (domain rung : Nat) (s : State) : Outcome :=
  act (whenServing (cmdLadderFloor h domain rung)) s

/-- A write of `LAD_Dd_CFG` (R447): a domain enabled again stands no deeper than its floor, and a mismatch that ends is
reported. -/
def writeDomainCfg (d cfg : Nat) (s : State) : State :=
  settleMismatch (unitId 9 d) (settleDomain d (s.wr (LAD_Dd_CFG.f d) cfg))

/-- The meaning of `LAD_DD_CFG`. -/
def execLadDdCfg (domain cfg : Nat) (s : State) : Outcome :=
  act (whenUp (fun s => if domain > 183 || cfg > 1 then s else writeDomainCfg domain cfg s)) s

/-! The thermal loop. -/

/-- Raise `THERMAL` (R459). -/
def raiseThermal (prev : Nat) (restart : Bool) (s : State) : State :=
  if s.sys.power != 3 then s
  else s.raise 0x0803 0 (toBE 1 (s.rd LAD_THERM_STATE.f) ++ toBE 1 prev ++ toBE 2 (s.rd LAD_TJ_MAX.f)
    ++ toBE 1 (s.rd LAD_TJ_HOT.f) ++ toBE 1 (s.rd LAD_FSTEP.f) ++ toBE 1 (s.rd LAD_SHED_STAGE.f) ++ toBE 1 (b2n restart))

/-- Raise `SCHEDULE_AT_RISK` (R459). -/
def raiseAtRisk (cleared : Bool) (s : State) : State :=
  s.raise 0x0804 0 (toBE 1 (s.rd LAD_SHED_STAGE.f) ++ toBE 2 (s.rd LAD_TJ_MAX.f) ++ toBE 1 (s.rd LAD_FSTEP.f)
    ++ toBE 1 (s.rd LAD_FSCHED.f)) cleared

/-- The highest junction temperature in 0.1 °C. -/
def State.tjMax (s : State) : Int := s.rdS LAD_TJ_MAX.f

/-- The words of the sensors: each die, the highest reading and the first die that has it. -/
def setTj (tj : List Int) (s : State) : State :=
  let t (i : Nat) : Int := tj.getD i 0
  let hot := (List.range 6).foldl (fun h i => if t i > t h then i else h) 0
  let s1 := { s with lad := { s.lad with tj := (List.range 6).map t } }
  let s2 := (List.range 4).foldl (fun u i => u.wrS (LAD_TJ_i_LO.f i) (t i)) s1
  let s3 := (List.range 2).foldl (fun u i => u.wrS (LAD_TJ_i_HI.f i) (t (i + 4))) s2
  (s3.wrS LAD_TJ_MAX.f (t hot)).wr LAD_TJ_HOT.f hot

/-- Enter a thermal state of Table 15-4. -/
def toThermal (new : Nat) (s : State) : State :=
  rehealth (raiseThermal (s.rd LAD_THERM_STATE.f) false (s.wr LAD_THERM_STATE.f new))

/-- Thermal shutdown (R457): a fault log record would be a new MRAM write, so none is started; one in flight completes. -/
def thermalShutdown (s : State) : State :=
  let s1 := railsOff (s.inc LAD_THERM_SHUTDOWNS.f)
  { s1 with lad := { s1.lad with shut := true } }

/-- One sample of the junction sensors (R454). -/
def thermalSample (tj : List Int) (s0 : State) : State :=
  let s := setTj tj s0
  let t := s.tjMax
  let st := s.rd LAD_THERM_STATE.f
  if t ≥ 1350 && s.sys.power ≥ 2 then thermalShutdown s
  else if s.sys.power != 3 then s
  else if st = 0 && t ≥ 1150 then toThermal 1 (s.inc LAD_THERM_WARN.f)
  else if st = 1 && t < 1130 then toThermal 0 s
  else if st = 1 && t ≥ 1200 then toThermal 2 (s.inc LAD_THROTTLES.f)
  else if st = 2 && t < 1170 && s.rd LAD_SHED_STAGE.f = 0 && s.rd LAD_FSTEP.f = 0 then toThermal 1 s
  else s

/-- The meaning of `THERMAL_SAMPLE`: the power die's sensors run whenever it has its supply. -/
def execThermalSample (tj : List Int) (s : State) : Outcome := act (thermalSample tj) s

/-- The 1 ms interval of throttling, and the 10 ms interval of its recovery (R455). -/
def throttleStep (s : State) : State :=
  let t := s.tjMax
  let q := s.rd LAD_FSTEP.f
  if s.rd LAD_THERM_STATE.f != 2 then s
  else if t ≥ 1200 && q < s.rd LAD_FSCHED.f then s.wr LAD_FSTEP.f (q + 1)
  else if t < 1170 && s.rd LAD_SHED_STAGE.f = 0 && q > 0 then s.wr LAD_FSTEP.f (q - 1)
  else s

/-- The meaning of `THROTTLE_STEP_TIMER`. -/
def execThrottleStepTimer (s : State) : Outcome := act (whenRunning throttleStep) s

/-- Set the shed stage. -/
def setShed (n : Nat) (s : State) : State := (s.wr LAD_SHED_STAGE.f n).wr STL_SHED_STATE.f n

/-- The 10 ms interval of the shed stage (R455). -/
def shedStep (s : State) : State :=
  let t := s.tjMax
  let n := s.rd LAD_SHED_STAGE.f
  if s.rd LAD_THERM_STATE.f != 2 then s
  else if t ≥ 1200 && s.rd LAD_FSTEP.f ≥ s.rd LAD_FSCHED.f && n < 2 then
    let s1 := setShed (n + 1) s
    if n = 1 then raiseAtRisk false ((s1.inc LAD_SHED_ENTRIES.f).inc LAD_AT_RISK.f) else s1
  else if t < 1170 && n > 0 then
    let s1 := setShed (n - 1) s
    if n = 2 then raiseAtRisk true s1 else s1
  else s

/-- The meaning of `SHED_STAGE_TIMER`. -/
def execShedStageTimer (s : State) : Outcome := act (whenRunning shedStep) s

/-- The deepest step of the voltage loop (R456). -/
def State.ecoFloor (s : State) : Nat := Nat.min (s.rd LAD_FSCHED.f) (s.rd LAD_PERF_FLOOR.f)

/-- The voltage loop lowers the step by load, or raises it (R456); in THROTTLE only the thermal loop raises it. -/
def ecoStep (down : Bool) (s : State) : State :=
  let q := s.rd LAD_FSTEP.f
  if down then
    (if s.on LAD_ECO_EN.f && s.tjMax < 1200 && q < s.ecoFloor then s.wr LAD_FSTEP.f (q + 1) else s)
  else if s.rd LAD_THERM_STATE.f != 2 && q > 0 then s.wr LAD_FSTEP.f (q - 1)
  else s

/-- The meaning of `ECO_STEP`. -/
def execEcoStep (down : Bool) (s : State) : Outcome := act (whenRunning (ecoStep down)) s

/-- `THERMAL_READ` (R454). -/
def cmdThermalRead (h : CmdHdr) (s : State) : State :=
  command 0x0804 h [] (fun s => ansOk s
    (((List.range 4).map (fun i => toBE 2 (s.rd (LAD_TJ_i_LO.f i)))).flatten
      ++ ((List.range 2).map (fun i => toBE 2 (s.rd (LAD_TJ_i_HI.f i)))).flatten ++ toBE 1 (s.rd LAD_THERM_STATE.f))) s

/-- The meaning of `THERMAL_READ`. -/
def execThermalRead (h : CmdHdr) (s : State) : Outcome := act (whenServing (cmdThermalRead h)) s

/-- A write of `LAD_PERF_FLOOR`: out of THROTTLE the voltage loop rises to a shallower floor (R456). -/
def writePerfFloor (f : Nat) (s : State) : State :=
  let s1 := s.wr LAD_PERF_FLOOR.f f
  if s1.rd LAD_THERM_STATE.f != 2 && s1.rd LAD_FSTEP.f > s1.ecoFloor then s1.wr LAD_FSTEP.f s1.ecoFloor else s1

/-- `PERF_FLOOR` (R456). -/
def cmdPerfFloor (h : CmdHdr) (floor : Nat) (s : State) : State :=
  command 0x0805 h (toBE 1 floor) (fun s => if floor > 5 then ansRange s 0 else ansOk (writePerfFloor floor s)) s

/-- The meaning of `PERF_FLOOR`. -/
def execPerfFloor (h : CmdHdr) (floor : Nat) (s : State) : Outcome := act (whenServing (cmdPerfFloor h floor)) s

/-- Every die has stood below 110.0 °C for 1 s: the power die reconnects a `VALID` feed, if it has one (R457). -/
def thermalRestart (s : State) : State :=
  if s.lad.shut && s.lad.tj.all (fun t => t < 1100) then
    let s1 := { s with lad := { s.lad with shut := false, restartDue := true } }.wr LAD_WAKE_CAUSE.f 7
    let s2 := s1.wr LAD_THERM_STATE.f 0
    if s2.pair.stA = 2 || s2.pair.stB = 2 then powerUp s2.startFeed s2 else s2
  else s

/-- The meaning of `THERMAL_RESTART`. -/
def execThermalRestart (s : State) : Outcome := act thermalRestart s

end Sys2Proof.Machine
end

