-- ==== Sys2Proof/Machine/EthPorts.lean ====
section
/-!
DEFINITION. Ethernet ports (spec/10): reception and routing (R304 to R316), transmission (R318 to R322), wake patterns
(R323) and statistics (R324).
-/
namespace Sys2Proof.Machine
open Sys2Proof

/-! Reception checks (R305). -/

/-- The longest frame of a MAC (Table 10-1). -/
def State.maxLen (s : State) (n : Nat) : Nat := if n < 16 then 4200 else if n < 64 then s.rd (MAC_n_MAXLEN.f n) else 1522

/-- PAUSE is honoured on a MAC (Table 10-1). -/
def State.pauseOn (s : State) (n : Nat) : Bool := ((16 ≤ n && n < 64) || n == 80) && s.on (MAC_n_PAUSE_EN.f n)

/-- The error counter of a received frame (Table 10-6); none when it passes. -/
def rxError (len longest : Nat) (fcsOk symOk : Bool) : Option Nat :=
  if !symOk then some 17
  else if len < 64 then some (if fcsOk then 18 else 19)
  else if len > longest then some (if fcsOk then 20 else 21)
  else if !fcsOk then some 16
  else none

/-! Classification (R311). -/

/-- A frame is tagged. -/
def ethTagged (b : List Byte) : Bool := beAt b 12 2 == 0x8100
/-- Its VLAN ID, 0 when untagged. -/
def ethVid (b : List Byte) : Nat := if ethTagged b then beAt b 14 2 % 4096 else 0
/-- The offset of its EtherType. -/
def ethTypeAt (b : List Byte) : Nat := if ethTagged b then 16 else 12
/-- Its EtherType. -/
def ethType (b : List Byte) : Nat := beAt b (ethTypeAt b) 2
/-- The bytes after it. -/
def ethPayload (b : List Byte) : List Byte := b.drop (ethTypeAt b + 2)
/-- Its tag removed. -/
def stripTag (b : List Byte) : List Byte := if ethTagged b then b.take 12 ++ b.drop 16 else b

/-- Priority of a frame with a default for untagged ones. -/
def ethPrio (b : List Byte) (dflt : Nat) : Nat := if ethTagged b then byteAt b 14 / 32 else dflt

/-- A frame carries PTP (Table 06-5): EtherType 0x88F7, or UDP over IPv4 to ports 319 and 320 when that transport is on. -/
def State.carriesPtp (s : State) (b : List Byte) : Bool :=
  let ip := ethPayload b
  let udp := ip.drop (4 * (byteAt ip 0 % 16))
  ethType b == 0x88F7 || (s.on TIM_PTP_UDP.f && ethType b == 0x0800 && byteAt ip 9 == 17
    && (beAt udp 2 2 == 319 || beAt udp 2 2 == 320))

/-- A bank of the routing table. -/
def State.routes (s : State) (bank : Bool) : List Route := if bank then s.net.routesB else s.net.routesA

/-- The entry that matches a frame: by its own VID first, then one for any VID (R311). -/
def State.lookup (s : State) (bank : Bool) (b : List Byte) : Option Route :=
  let da := beAt b 0 6
  if s.net.faulty.contains (b2n bank) then none
  else match (s.routes bank).find? (fun r => r.valid && r.da == da && !r.anyVid && r.vid == ethVid b) with
  | some r => some r
  | none => (s.routes bank).find? (fun r => r.valid && r.da == da && r.anyVid)

/-- A reserved bridge address, 01-80-C2-00-00-00 to 0F (R312). -/
def reservedDa (b : List Byte) : Bool := beAt b 0 6 / 16 == 0x0180C200000

/-! Copies (R312, R314). -/

/-- Add one reference to a held frame. -/
def addRef (id : Nat) (s : State) : State := s.setHeld id (fun h => { h with refs := h.refs + 1 })

/-- Offer one more copy of a held frame to a queue. -/
def offer (c : Copy) (s : State) : State := enqueue c (addRef c.buf s)

/-- The body of a carried frame (R314). -/
def carriedBody (target port : Nat) (b : List Byte) : List Byte :=
  toBE 2 0x0201 ++ toBE 2 target ++ toBE 1 port ++ zeros 1 ++ toBE 2 b.length ++ b

/-- Carry a held frame across the train, on both planes (R312, R314): a node under R123 or R186 originates nothing. -/
def carry (id target port q : Nat) (b : List Byte) (s : State) : State :=
  let f := ringFrame s 2 s.bkb.seq (carriedBody target port b)
  let outs := s.messageOuts [false, true]
  let macs := outs.filterMap Prod.snd
  if s.originSilent then macs.foldl (fun t m => stat m 57 1 t) s
  else macs.foldl (fun t m => offer { plainCopy id m q t.clk.up with over_ := some (.bb f) } t)
    (countUnsent [false, true] outs (if macs.isEmpty && outs.length == 2 then s else useSeq s))

/-- Act on an entry for a held frame: `ingress` is the port it must not go back to, `port` the one a host sees, `msgPort` the
one its message ID names, `ref_` the reference instant of Table 09-1, `over` says that the copies differ from what is held. -/
def routeFrame (r : Route) (id ingress port msgPort q : Nat) (b : List Byte) (time ref_ : Nat) (over_ mayCarry : Bool) (tag : Tag)
    (s : State) : State :=
  let q1 := if r.override then r.queue else q
  let w : Option Wire := if over_ then some (.eth b) else none
  let ports := if reservedDa b then [] else (bitsOf 64 r.ports).filter (fun k => 16 + k != ingress)
  let s1 := ports.foldl (fun t k => offer { plainCopy id (16 + k) q1 t.clk.up r.strip with over_ := w } t) s
  let s2 := if bit r.local_ 0 then deliverHost false b time port s1 else s1
  let s3 := if bit r.local_ 1 then deliverHost true b time port s2 else s2
  if reservedDa b then s3
  else
    let s4 := if bit r.local_ 2 then
        deliverMsg (0x01000000 + msgPort * 65536 + r.msgNum) (ethPayload b) (compact time) 0 [] (some id) tag ref_ (addRef id s3)
      else s3
    if !mayCarry || !bit r.local_ 3 then s4
    else if bit r.local_ 4 then carry id 0xFFFF ingress q1 b s4
    else if r.node != 0 then carry id r.node ingress q1 b s4
    else s4.inc MAC_UNBOUND.f

/-- The instant at which the last byte of a frame passes the ingress timestamp point (Table 09-1). -/
def State.lastByte (s : State) (n len time : Nat) : Nat := time + psPerByte (s.rd (MAC_n_SPEED.f n)) * len / 1000

/-! PAUSE (R320). -/

/-- Duration in ns of a number of quanta at a speed code. -/
def quantaNs (code q : Nat) : Nat := q * 64 * psPerByte code / 1000

/-- A PAUSE frame: honoured, or counted as ignored; one that neither stops nor resumes the transmitter is not counted as honoured
(Table 10-6). -/
def pauseFrame (n quanta : Nat) (s : State) : State :=
  let s1 := stat n 6 1 s
  if !s1.pauseOn n then stat n 7 1 s1
  else
    let rest := s1.net.pauses.filter (fun p => p.1 != n)
    let ends := if quanta = 0 then [] else [(n, s1.clk.up + quantaNs (s1.rd (MAC_n_SPEED.f n)) quanta)]
    let s2 := ({ s1 with net := { s1.net with pauses := ends ++ rest } }.wrB (MAC_n_PAUSED.f n) (quanta != 0)).wr
      (MAC_n_PAUSE_LEFT.f n) quanta
    if quanta != 0 || s1.on (MAC_n_PAUSED.f n) then stat n 45 1 s2 else s2

/-- The pause ends. -/
def pauseEnd (n : Nat) (s : State) : State :=
  if n ≤ 80 && s.on (MAC_n_PAUSED.f n) then
    (({ s with net := { s.net with pauses := s.net.pauses.filter (fun p => p.1 != n) } }.wr (MAC_n_PAUSED.f n) 0).wr
      (MAC_n_PAUSE_LEFT.f n) 0)
  else s

/-- The meaning of `PAUSE_EXPIRY`. -/
def execPauseExpiry (mac : Nat) (s : State) : Outcome := act (whenRunning (pauseEnd mac)) s

/-! Wake patterns (R323). -/

/-- A frame matches pattern i of a MAC. -/
def State.wakeMatch (s : State) (n i : Nat) (b : List Byte) : Bool :=
  let mask := s.rd (MAC_n_WPi_MASK_LO.f n i) + s.rd (MAC_n_WPi_MASK_HI.f n i) * 2 ^ 64
  let sel := bitsOf 128 mask
  s.on (MAC_n_WPi_EN.f n i) && sel.all (fun j => j < b.length) && crc32 (sel.map (fun j => b.getD j 0#8)) == s.rd (MAC_n_WPi_CRC.f n i)

/-- A frame reaches a port in Peat: a match wakes the domain; the frame itself is lost. -/
def peatFrame (rx : RxEth) (s : State) : State :=
  let n := rx.mac
  if (rxError rx.len (s.maxLen n) rx.fcsOk rx.symOk).isNone && (List.range 16).any (fun i => s.wakeMatch n i rx.bytes) then
    wake (portOfMac n) (stat n 30 1 (s.inc (MAC_n_WAKES.f n)))
  else s

/-- `WAKE_PATTERN_SET` (R323): bit j of the mask, read as one number, selects byte j. -/
def cmdWakePatternSet (h : CmdHdr) (mac pattern : Nat) (mask : List Byte) (crc : Nat) (s : State) : State :=
  command 0x0C03 h (toBE 1 mac ++ toBE 1 pattern ++ fitBytes 16 mask ++ toBE 4 crc) (fun s =>
    if mac < 16 || mac > 79 then ansRange s 0
    else if pattern > 15 then ansRange s 1
    else
      let m := fromBE (fitBytes 16 mask)
      ansOk ((((s.wr (MAC_n_WPi_MASK_LO.f mac pattern) m).wr (MAC_n_WPi_MASK_HI.f mac pattern) (m / 2 ^ 64)).wr
        (MAC_n_WPi_CRC.f mac pattern) crc).wrB (MAC_n_WPi_EN.f mac pattern) (m != 0))) s

/-- The meaning of `WAKE_PATTERN_SET`. -/
def execWakePatternSet (h : CmdHdr) (mac pattern : Nat) (mask : List Byte) (crc : Nat) (s : State) : Outcome :=
  act (whenServing (cmdWakePatternSet h mac pattern mask crc)) s

/-! Receiving. -/

/-- A good frame that is neither MAC control nor PTP is held, looked up and copied. -/
def routeRx (rx : RxEth) (s : State) : State :=
  let n := rx.mac
  let b := rx.bytes
  let tag := s.tagNow
  let q := ethPrio b (s.rd (MAC_n_DEF_PCP.f n))
  match enterBuffer (.eth b) (chainBestEffort n q) n 1 none s with
  | none => stat n 25 1 s
  | some (id, s1) =>
    match s1.lookup tag.routing b with
    | none => unref id (stat n 24 1 s1)
    | some r =>
      unref id (routeFrame r id n n n q b rx.time (s.lastByte n rx.len rx.time) false true tag
        (countRx n rx.len (addrKind (.eth b)) (ethTagged b) s1))

/-- A MAC control frame passed its checks (R320): PAUSE counts as a good frame, any other is discarded and counted. -/
def macControl (rx : RxEth) (s : State) : State :=
  let n := rx.mac
  let b := rx.bytes
  if beAt b 0 6 = 0x0180C2000001 && beAt (ethPayload b) 0 2 = 1 then
    pauseFrame n (beAt (ethPayload b) 2 2) (countRx n rx.len (addrKind (.eth b)) (ethTagged b) s)
  else stat n 8 1 s

/-- MAC 80 receives a whole frame: it is counted here, and what it carries is `MT_DATAGRAM_RECEIVE` (R58). -/
def receiveMt (rx : RxEth) (s0 : State) : State :=
  if !s0.maintEn || !s0.on (MAC_n_CFG_EN.f 80) || !s0.on (MAC_n_LINK.f 80) then s0
  else
    let s := wake 119 s0
    let b := rx.bytes
    match rxError rx.len (s.maxLen 80) rx.fcsOk rx.symOk with
    | some k => stat 80 k 1 s
    | none =>
      if ethType b = 0x8808 then macControl rx s else countRx 80 rx.len (addrKind (.eth b)) (ethTagged b) s

/-- A backbone lane receives a frame that is no ring frame: MAC control is ignored and counted (R320), any other EtherType breaks
R73. -/
def receiveLane (rx : RxEth) (s0 : State) : State :=
  let n := rx.mac
  if !s0.laneOn n || !(s0.lane n).trained then s0
  else
    let s := wake n s0
    match rxError rx.len 4200 rx.fcsOk rx.symOk with
    | some k => stat n k 1 (if k = 18 || k = 20 then s else erroredFrame n rx.time s)
    | none => if ethType rx.bytes = 0x8808 then macControl rx s else stat n 22 1 (s.inc BKB_HDR_DISC.f)

/-- A MAC receives a whole frame (R305, R311). -/
def receiveEth (rx : RxEth) (s0 : State) : State :=
  let n := rx.mac
  if n = 80 then receiveMt rx s0
  else if n < 16 then receiveLane rx s0
  else if n > 80 || !s0.on (MAC_n_CFG_EN.f n) || !s0.on (MAC_n_LINK.f n) then s0
  else if s0.rd (LAD_Dd_RUNG.f n) = 4 then peatFrame rx s0
  else
    let s := wake n s0
    let b := rx.bytes
    match rxError rx.len (s.maxLen n) rx.fcsOk rx.symOk with
    | some k => stat n k 1 s
    | none =>
      if ethType b = 0x8808 then macControl rx s
      else if n < 64 && bit (s.rd TIM_PTP_EN.f) (n - 16) && s.carriesPtp b then
        stat n 23 1 (countRx n rx.len (addrKind (.eth b)) (ethTagged b) s)
      else routeRx rx s

/-- The meaning of `MAC_FRAME_RECEIVE`; the PTP message of a frame that the timebase takes is `PTP_MESSAGE_RECEIVE`. -/
def execMacFrameReceive (rx : RxEth) (s : State) : Outcome := act (whenRunning (receiveEth rx)) s

/-! Carried frames at their target (R315). -/

/-- A carried frame is delivered here: its target is every node, or this node under the frame's epoch. -/
def State.carriedHere (s : State) (target epoch : Nat) : Bool :=
  target == 0xFFFF || (target != 0 &&
    ((epoch == s.rd HST_EPOCH.f && target == s.rd HST_NODE_NUM.f)
      || (epoch == s.rd HST_PREV_EPOCH.f && s.tcy.overlap == some s.cycle && target == s.prevNode)))

/-- A message of unknown type. -/
def unknownMessage (n : Nat) (s : State) : State := stat n 31 1 (s.inc MAC_MSG_UNKNOWN.f)

/-- Deliver a kind 0x2 frame other than a position report, from the held frame `id`, accepted on lane MAC n at a local
time; `ref_` is the instant of its last byte. -/
def deliverCarried (n id epoch time ref_ : Nat) (p : List Byte) (s : State) : State :=
  let typ := beAt p 0 2
  if p.length < 2 then unknownMessage n s
  else if typ = 0x0201 then
    if !s.carriedHere (beAt p 2 2) epoch then s
    else
      let inner := slice p 8 (beAt p 6 2)
      let tag := s.tagNow
      match s.lookup tag.routing inner with
      | none => stat n 24 1 s
      | some r => routeFrame r id 255 n (byteAt p 4) (ethPrio inner 0) inner time ref_ true false tag s
  else if 0x8000 ≤ typ then
    let ring := s.rd MAC_HOSTMSG_RING.f
    let s1 := if bit ring 0 then deliverHost false p time n s else s
    if bit ring 1 then deliverHost true p time n s1 else s1
  else unknownMessage n s

/-! Transmission (R318 to R321). -/

/-- What a copy puts on the wire. -/
def State.wireOf (s : State) (c : Copy) : Option Wire :=
  match s.heldOf c.buf with
  | none => none
  | some h =>
    let w := c.over_.getD h.wire
    some (match w with
      | .eth b => if c.strip then .eth (let x := stripTag b; x ++ zeros (60 - x.length)) else .eth b
      | .bb f => .bb f)

/-- Duration of a copy on its port. -/
def State.copyNs (s : State) (c : Copy) : Nat :=
  match s.wireOf c with
  | some w => durationNs (s.rd (MAC_n_SPEED.f c.mac)) (wireLen w)
  | none => 0

/-- The time in ns until the position comes to a target at the present velocity, none when it moves away or stands. -/
def State.reachIn (s : State) (target : Int) : Option Nat :=
  let d := target - s.positionAt s.clk.now
  let v := s.pos.pnVel
  if d = 0 then some 0
  else if (v > 0 && d > 0) || (v < 0 && d < 0) then some (d * 1000000000 / v).toNat else none

/-- The time in ns until the line phase next passes an angle at the present frequency, and its period. -/
def State.phaseIn (s : State) (angle : Nat) : Option (Nat × Nat) :=
  let f := s.rd POS_LP_FREQ_MHZ.f
  if s.on POS_LP_VALID.f && f != 0 then
    some ((angle + 65536 - s.lineAngle / 65536) % 65536 * 1000000000000 / (65536 * f), 1000000000000 / f)
  else none

/-- The time in ns until a conjunction is predicted to fire: the first pass of the angle that falls within its window (R232),
none when the position does not come to the window, or leaves it before a pass. -/
def State.conjunctionIn (s : State) (b : List Byte) : Option Nat :=
  let p := s.positionAt s.clk.now
  let v := s.pos.pnVel
  let inside := evA b ≤ p && p < evB b
  let entry := if inside then some 0 else s.reachIn (if v > 0 then evA b else evB b - 1)
  match (if s.on POS_VALID.f then entry else none), s.phaseIn (evAngle b) with
  | some t, some (next, period) =>
    let at_ := if next ≥ t then next else next + (t - next + period - 1) / Nat.max period 1 * period
    let q := p + v * at_ / 1000000000
    if evA b ≤ q && q < evB b then some at_ else none
  | _, _ => none

/-- The launch instant of an entry as far as a port knows it (R232), in local ns: the target of a time entry, else the
crossing predicted from the current velocity or line frequency. -/
def State.knownLaunch (s : State) (i : Nat) : Option Nat :=
  match s.event i with
  | none => none
  | some e =>
    let b := e.bytes
    let now := s.clk.now
    if s.evState i != 1 then none
    else match evBase b with
      | 0 => some (s.localOf e.target)
      | 1 =>
        let v := s.pos.pnVel
        if s.on POS_VALID.f && ((v > 0 && evUp b) || (v < 0 && evDown b)) then (s.reachIn (evA b)).map (now + ·) else none
      | 2 => (s.phaseIn (evAngle b)).map (fun x => now + x.1)
      | _ => (s.conjunctionIn b).map (now + ·)

/-- A bound frame has a copy that will leave by a MAC: its port, or the lane its origin has now on the copy's plane. -/
def State.boundFor (s : State) (n : Nat) (b : Bound) : Bool :=
  b.copies.any (fun c => match c.1 with
    | .port m => m == n
    | .plane y => (s.originOut y).bind (fun p => s.egressMac p (s.rd HST_NODE_NUM.f)) == some n)

/-- The launch instants known to a port that lie ahead. -/
def State.launchesAhead (s : State) (n : Nat) : List Nat :=
  (s.sch.bound.filter (s.boundFor n)).filterMap (fun b => match s.knownLaunch b.event with
    | some l => if l > s.clk.now then some l else none
    | none => none)

/-- Start a copy on its port. -/
def startCopy (c : Copy) (s : State) : State :=
  match s.wireOf c with
  | none => s.dequeue c
  | some w =>
    let s1 := s.dequeue c
    let s2 := { s1 with net := { s1.net with sending := s1.net.sending ++ [{ c with started := s1.clk.now }] } }
    match w with
    | .bb f => s2.emit (.lane c.mac { f with planeY := c.mac / 4 % 2 == 1 })
    | .eth b => s2.emit (.port c.mac b)

/-- Note on a copy's host frame what has become of it. -/
def noteDesc (buf : Nat) (g : TxDesc → TxDesc) (s : State) : State :=
  s.setHeld buf (fun h => { h with desc := h.desc.map g })

/-- Bind a deferred copy again (R233): copies of one frame stay one bound frame (R231). -/
def bindAgain (c : Copy) (s : State) : State :=
  let out := if c.mac < 16 then Egress.plane (c.mac / 4 % 2 == 1) else Egress.port c.mac
  let seq := match c.over_ with | some (.bb f) => some f.seq | _ => none
  let same (b : Bound) : Bool := b.buf == c.buf && b.event == c.event
  let bound := if s.sch.bound.any same then
      s.sch.bound.map (fun b => if same b then { b with copies := b.copies ++ [(out, c.defers + 1)], seq := seq } else b)
    else s.sch.bound ++ [{ buf := c.buf, event := c.event, copies := [(out, c.defers + 1)], defer := true, seq := seq }]
  syncBound c.event { s with sch := { s.sch with bound := bound } }

/-- A launch copy that cannot meet its window is deferred to the entry's next firing, or dropped (R233). -/
def missWindow (c : Copy) (s : State) : State :=
  let s1 := s.dequeue c
  if c.defer && s1.evOpen c.event && c.defers < s1.rd SCH_DEFER_MAX.f then
    bindAgain c (noteDesc c.buf (fun d => { d with defers := Nat.max d.defers (c.defers + 1) }) (s1.inc SCH_DEFERRED.f))
  else dropCopy c 54 (noteDesc c.buf (fun d => { d with lateWindow := true }) (s1.inc SCH_LATE_WINDOW.f))

/-- The launch queue's head: started, dropped, deferred, or not yet due.  `none` says that the queues below may go on, the
state that something was decided; the flag that a copy has started. -/
def launchHead (n : Nat) (s : State) : Option (State × Bool) :=
  match s.queueOf n 8 with
  | [] => none
  | c :: _ =>
    let now := s.clk.now
    let tf := s.copyNs c
    let ends := c.launch + c.window
    if n < 16 && s.originSilent then some (dropCopy c 57 (s.dequeue c), false)
    else if n ≥ 16 then
      (if now < c.launch then none
      else if now + tf ≤ ends then some (startCopy c s, true)
      else some (missWindow c s, false))
    else
      let last := Nat.min ends s.msgEnd
      if !s.keepsCycle then some (missWindow c s, false)
      else if now + tf > last || s.msgStart + tf > last then some (missWindow c s, false)
      else if now < c.launch || now < s.msgStart then none
      else some (startCopy c s, true)

/-- A copy at the head of a strict-priority queue may start now (R232, R124). -/
def State.mayStart (s : State) (c : Copy) : Bool :=
  let tf := s.copyNs c
  (s.launchesAhead c.mac).all (fun l => s.clk.now + tf ≤ l) && (c.mac ≥ 16 || s.fitsPhase tf)

/-- A message-phase frame that never fits, on a node that keeps a cycle (R124). -/
def State.neverFits (s : State) (c : Copy) : Bool :=
  c.mac < 16 && s.keepsCycle && s.msgStart + s.copyNs c > s.msgEnd

/-- Count a message-phase frame deferred to the next phase, once. -/
def countDefer (c : Copy) (s : State) : State :=
  if c.mac ≥ 16 || c.counted || !s.inMsgPhase || s.fitsPhase (s.copyNs c) then s
  else
    let s1 := stat c.mac 49 1 (s.inc TCY_MSG_DEFER.f)
    { s1 with net := { s1.net with queue := s1.net.queue.map (fun x => if x == c then { x with counted := true } else x) } }

/-- Try the strict-priority queues from the highest. -/
def strictQueues (n : Nat) : Nat → State → State
  | 0, s => s
  | q + 1, s =>
    match s.queueOf n q with
    | [] => strictQueues n q s
    | c :: _ =>
      if s.neverFits c then strictQueues n q (dropCopy c 56 ((s.dequeue c).inc TCY_MSG_NOFIT.f))
      else if s.mayStart c then startCopy c s
      else strictQueues n q (countDefer c s)

/-- An idle port chooses its next frame (R318): launch heads are settled until one starts or waits. -/
def selectNext (n : Nat) : Nat → State → State
  | 0, s => strictQueues n 8 s
  | k + 1, s => match launchHead n s with
    | none => strictQueues n 8 s
    | some (s1, true) => s1
    | some (s1, false) => selectNext n k s1

/-- A port is idle and may send: up, not paused, not in back-off. -/
def State.portIdle (s : State) (n : Nat) : Bool :=
  n ≤ 79 && s.macUp n && !s.on (MAC_n_PAUSED.f n)
    && (s.net.backoff ++ s.net.sending).all (fun c => c.mac != n)

/-- Send one of the link-local frames that wait for a gap of a lane. -/
def sendGap (mac : Nat) (g : GapFrame) (s : State) : State :=
  match g with
  | .laneState => sendLsf mac s
  | .request => sendDxRequest mac s
  | .response seq t2 => sendDxResponse mac seq t2 s

/-- A lane in a gap sends the link-local frames that wait for one (R90). -/
def sendGaps (mac : Nat) (s : State) : State :=
  if !s.laneGap mac then s
  else
    let mine := s.bkb.gaps.filter (fun x => x.1 == mac)
    mine.foldl (fun t x => sendGap mac x.2 t) { s with bkb := { s.bkb with gaps := s.bkb.gaps.filter (fun x => x.1 != mac) } }

/-- An idle port or lane chooses what it sends next. -/
def transmitSelect (mac : Nat) (s : State) : State :=
  if !s.portIdle mac then s
  else
    let t := if mac < 16 then sendGaps mac s else s
    selectNext mac (t.queueOf mac 8).length t

/-- The meaning of `PORT_TRANSMIT_SELECT`. -/
def execPortTransmitSelect (mac : Nat) (s : State) : Outcome := act (whenRunning (transmitSelect mac)) s

/-- The copy a MAC is sending. -/
def State.sendingOn (s : State) (n : Nat) : Option Copy := s.net.sending.find? (fun c => c.mac == n)

/-- Take it off the port. -/
def endSending (n : Nat) (s : State) : State :=
  { s with net := { s.net with sending := s.net.sending.filter (fun c => c.mac != n) } }

/-- Forget the collisions of the frame that a port tries to send. -/
def clearAttempts (n : Nat) (s : State) : State :=
  { s with net := { s.net with attempts := dropKey Prod.fst n s.net.attempts,
                                 backoff := s.net.backoff.filter (fun c => c.mac != n) } }

/-- A frame has left a port (R329): counters, the host's bitmap, the time of the copy that started first (R229), and its
reference. -/
def completeCopy (n : Nat) (s : State) : State :=
  match s.sendingOn n with
  | none => s
  | some c =>
    let s1 := match s.wireOf c with
      | some w => countTx n (wireLen w) (addrKind w) s
      | none => s
    let s2 := if c.queue = 8 then stat n 37 1 s1 else s1
    let note (d : TxDesc) : TxDesc :=
      let d1 := if d.sent = 0 || c.started < d.startedAt then
          { d with time := compact c.started, startedAt := c.started,
                   launchLate := c.queue = 8 && c.started > c.launch + 10 }
        else d
      { d1 with sent := d.sent ||| 2 ^ portOfMac n }
    unref c.buf (noteDesc c.buf note (clearAttempts n (endSending n s2)))

/-- The meaning of `FRAME_TRANSMIT_COMPLETE`. -/
def execFrameTransmitComplete (mac : Nat) (s : State) : Outcome := act (whenRunning (completeCopy mac)) s

/-- The copy of a queue whose age limit ends first: each keeps the limit it entered with (R338). -/
def State.firstAged (s : State) (n q : Nat) : Option Copy :=
  (s.queueOf n q).foldl (fun best c => match best with
    | none => some c
    | some b => if c.since + c.age * 1000000 < b.since + b.age * 1000000 then some c else some b) none

/-- A copy of a queue has waited for its age limit (R319). -/
def queueAge (n q : Nat) (s : State) : State :=
  match s.firstAged n q with
  | some c => if q < 8 then dropCopy c 52 (s.dequeue c) else s
  | none => s

/-- The meaning of `QUEUE_AGE_EXPIRY`. -/
def execQueueAgeExpiry (mac queue : Nat) (s : State) : Outcome := act (whenRunning (queueAge mac queue)) s

/-- A copy that has collided for the k-th time backs off. -/
def backOff (n k : Nat) (c : Copy) (s : State) : State :=
  { s with net := { s.net with attempts := putKey Prod.fst (n, k) s.net.attempts, backoff := s.net.backoff ++ [c] } }

/-- Collisions so far of the frame that a port tries to send. -/
def State.collisions (s : State) (n : Nat) : Nat :=
  match getKey Prod.fst n s.net.attempts with
  | some p => p.2
  | none => 0

/-- A collision on a 10BASE-T1S segment (R321). -/
def collide (n : Nat) (late : Bool) (s : State) : State :=
  match s.sendingOn n with
  | none => s
  | some c =>
    if n < 64 || n > 79 then s
    else
      let s1 := endSending n (stat n 46 1 s)
      if late then dropCopy c 47 (clearAttempts n s1)
      else
        let k := s1.collisions n + 1
        if k ≥ 16 then dropCopy c 53 (clearAttempts n s1)
        else backOff n k c s1

/-- The meaning of `COLLISION`. -/
def execCollision (mac : Nat) (late : Bool) (s : State) : Outcome := act (whenRunning (collide mac late)) s

/-- The frame that a MAC holds in back-off. -/
def State.backoffOn (s : State) (n : Nat) : Option Copy := s.net.backoff.find? (fun c => c.mac == n)

/-- The back-off ends: the same frame is tried again (R321). -/
def retryCopy (n : Nat) (s : State) : State :=
  match s.backoffOn n with
  | some c => startCopy c { s with net := { s.net with backoff := s.net.backoff.filter (fun x => x.mac != n) } }
  | none => s

/-- The meaning of `CSMA_BACKOFF_EXPIRY`. -/
def execCsmaBackoffExpiry (mac : Nat) (s : State) : Outcome := act (whenRunning (retryCopy mac)) s

/-! PLCA (R322). -/

/-- Set the PLCA status of a port; an entry into CSMA/CD fallback is counted. -/
def setPlca (n : Nat) (active fallback : Bool) (s : State) : State :=
  let s1 := s.wrB (MAC_n_PLCA_ACTIVE.f n) active
  if fallback then stat n 62 1 s1 else s1

/-- The status of the reconciliation sublayer changes. -/
def plcaStatus (n : Nat) (ok : Bool) (s : State) : State :=
  if n < 64 || n > 79 || !s.on (MAC_n_PLCA_EN.f n) then s
  else setPlca n ok (s.on (MAC_n_PLCA_ACTIVE.f n) && !ok) s

/-- The meaning of `PLCA_STATUS_CHANGE`. -/
def execPlcaStatusChange (mac : Nat) (ok : Bool) (s : State) : Outcome := act (whenRunning (plcaStatus mac ok)) s

/-- A write of the PLCA word (R338): it restarts the sublayer, so the port uses CSMA/CD until its status is OK again. -/
def writePlca (n en id count timer burst burstTimer : Nat) (s : State) : State :=
  let was := s.on (MAC_n_PLCA_EN.f n)
  let active := s.on (MAC_n_PLCA_ACTIVE.f n)
  let s1 := (((((s.wr (MAC_n_PLCA_EN.f n) en).wr (MAC_n_PLCA_ID.f n) id).wr (MAC_n_PLCA_COUNT.f n) count).wr
    (MAC_n_PLCA_TO.f n) timer).wr (MAC_n_PLCA_BURST.f n) burst).wr (MAC_n_PLCA_BTMR.f n) burstTimer
  setPlca n false (en = 1 && (active || !was)) s1

/-- The PLCA fields are within their ranges, on a 10BASE-T1S MAC. -/
def plcaOk (n en id count timer burst burstTimer : Nat) : Bool :=
  64 ≤ n && n ≤ 79 && en ≤ 1 && id ≤ 15 && 1 ≤ count && count ≤ 16 && 1 ≤ timer && timer ≤ 255 && burst ≤ 255
    && burstTimer ≤ 255

/-- The meaning of `MAC_N_PLCA_EN`. -/
def execMacNPlcaEn (mac en id count timer burst burstTimer : Nat) (s : State) : Outcome :=
  act (whenUp (fun s =>
    if plcaOk mac en id count timer burst burstTimer then writePlca mac en id count timer burst burstTimer s else s)) s

/-- The meaning of `PLCA_BEACON`: a coordinator sends a BEACON. -/
def execPlcaBeacon (mac : Nat) (s : State) : Outcome :=
  act (whenRunning (fun s =>
    if 64 ≤ mac && mac ≤ 79 && s.on (MAC_n_PLCA_EN.f mac) && s.rd (MAC_n_PLCA_ID.f mac) = 0 then stat mac 61 1 s else s)) s

/-! Statistics (R324). -/

/-- `STATS_READ`. -/
def cmdStatsRead (h : CmdHdr) (unit first count : Nat) (s : State) : State :=
  command 0x0B01 h (toBE 2 unit ++ toBE 1 first ++ toBE 1 count) (fun s =>
    if unit / 2048 != 2 || unit % 2048 > 80 then ansRange s 0
    else if first > 63 then ansRange s 2
    else if count = 0 || first + count > 64 then ansRange s 3
    else ansOk s ((List.range count).map (fun i => toBE 8 (s.rd (MAC_n_STAT_k.f (unit % 2048) (first + i))))).flatten) s

/-- The meaning of `STATS_READ`. -/
def execStatsRead (h : CmdHdr) (unit first count : Nat) (s : State) : Outcome :=
  act (whenServing (cmdStatsRead h unit first count)) s

/-- `STATS_CLEAR`. -/
def cmdStatsClear (h : CmdHdr) (unit : Nat) (s : State) : State :=
  command 0x0B02 h (toBE 2 unit) (fun s =>
    if unit / 2048 != 2 || unit % 2048 > 80 then ansRange s 0
    else ansOk ((List.range 64).foldl (fun t k => t.wr (MAC_n_STAT_k.f (unit % 2048) k) 0) s)) s

/-- The meaning of `STATS_CLEAR`. -/
def execStatsClear (h : CmdHdr) (unit : Nat) (s : State) : Outcome := act (whenServing (cmdStatsClear h unit)) s

end Sys2Proof.Machine
end

