-- ==== Sys2Proof/Machine/Numbering.lean ====
section
/-!
DEFINITION. Numbering of a train (R153 to R155), routes through the numbered nodes and slot placement (R156), and what
each node computes for itself from a Proposal (R157).
-/
namespace Sys2Proof.Machine
open Sys2Proof

/-! The chain (R153). -/

/-- Place in the chain: the Lead at 0, nodes beyond its E1 below, nodes beyond its E2 above. -/
def DirRec.pos (r : DirRec) : Int :=
  if r.hops = 0 then 0 else if bit r.route 0 then (r.hops : Int) else -(r.hops : Int)

/-- The node's E1 end faces the start of the chain. -/
def DirRec.e1Start (r : DirRec) : Bool :=
  if r.hops = 0 then true else if bit r.route 0 then !bit r.route 1 else bit r.route 1

/-- The place one beyond a node's end. -/
def DirRec.beyond (r : DirRec) (e : Nat) : Int := if r.e1Start == (e == 0) then r.pos - 1 else r.pos + 1

/-- The node's end that faces a place. -/
def DirRec.endFacing (r : DirRec) (p : Int) : Nat := if r.e1Start == decide (p < r.pos) then 0 else 1

/-- Records of nodes. -/
def nodesOf (l : List DirRec) : List DirRec := l.filter (fun r => r.kind == 0)

/-- The node that stands beyond an end. -/
def neighbour (l : List DirRec) (r : DirRec) (e : Nat) : Option DirRec :=
  (nodesOf l).find? (fun m => m.pos == r.beyond e)

/-- Insert a node by its place. -/
def insertPos (r : DirRec) : List DirRec → List DirRec
  | [] => [r]
  | x :: l => if r.pos < x.pos then r :: x :: l else x :: insertPos r l

/-- The chain from the far end beyond the Lead's E1 to the far end beyond its E2. -/
def chainOf (l : List DirRec) : List DirRec := (nodesOf l).foldl (fun c r => insertPos r c) []

/-- Nodes next to each other that share a vehicle identifier form one vehicle, when exactly two share it. -/
def vehiclesOf : List DirRec → List DirRec → List (List DirRec)
  | _, [] => []
  | _, [a] => [[a]]
  | all_, a :: b :: l =>
    let sharing := (all_.filter (fun r => r.vehId == a.vehId)).length
    if a.vehId == b.vehId && sharing == 2 && b.pos == a.pos + 1 then [a, b] :: vehiclesOf all_ l
    else [a] :: vehiclesOf all_ (b :: l)

/-- A vehicle with an active cab. -/
def cabIn (v : List DirRec) : Bool := v.any (fun r => bit r.flags 0)

/-- The index of the cab vehicle nearest either chain end, on a tie nearest the start. -/
def cabIndex (vs : List (List DirRec)) : Option Nat :=
  let n := vs.length
  let dist (i : Nat) : Nat := Nat.min i (n - 1 - i)
  ((List.range n).filter (fun i => cabIn (vs.getD i []))).foldl
    (fun best i => match best with
      | none => some i
      | some b => if dist i < dist b then some i else some b) none

/-- The reference end is the end of the chain. -/
def refIsEnd (vs : List (List DirRec)) : Bool :=
  match cabIndex vs with
  | none => false
  | some i => vs.length - 1 - i < i

/-- The foreign records of a host, nearest first. -/
def foreignOf (l : List DirRec) (h : DirRec) : List DirRec :=
  ((l.filter (fun r => r.kind == 1)).filter (fun r => r.hops == h.hops && r.route == h.route)).foldl
    (fun c r => putKey (fun x => x.foreignPos) r c) []

/-- The open ends of a node in the chain: no node stands beyond, and no plane-end is present there, as one would be toward a node
whose record did not arrive (R154). -/
def openEnds (l : List DirRec) (r : DirRec) : List Nat :=
  [1, 0].filter (fun e => (neighbour l r e).isNone && !bit r.ends (2 * e) && !bit r.ends (2 * e + 1))

/-- A vehicle with the foreign vehicles beyond its nodes' open ends, in chain order, before the turn to the reference end.
A host with both ends open is taken to stand before them with its E2 end; DEDUCED, log entry 53. -/
def withForeign (l : List DirRec) (v : List DirRec) : List (List DirRec) :=
  let side (r : DirRec) : List (List DirRec) × List (List DirRec) :=
    match openEnds l r with
    | [] => ([], [])
    | e :: _ =>
      let f := (foreignOf l r).map (fun x => [x])
      if r.beyond e < r.pos then (f.reverse, []) else ([], f)
  let sides := v.map side
  (sides.map Prod.fst).foldr (· ++ ·) [] ++ [v] ++ (sides.map Prod.snd).foldr (· ++ ·) []

/-- The node that gives its vehicle the first number: the `E1_NODE` of a pair. -/
def pairOrder (v : List DirRec) : List DirRec :=
  v.filter (fun r => bit r.flags 4) ++ v.filter (fun r => !bit r.flags 4)

/-- The window of at most 64 vehicles that holds the Lead (R155), and how many records it leaves out.  A vehicle has at
most two nodes, so 64 vehicles never exceed 128 nodes. -/
def windowOf (vs : List (List DirRec)) : List (List DirRec) :=
  let lead := (vs.findIdx? (fun v => v.any (fun r => r.kind == 0 && r.hops == 0))).getD 0
  (vs.drop (lead - 63)).take 64

/-- Number vehicles and nodes upward from the given numbers. -/
def numberFrom (endRef : Bool) : Nat → Nat → List (List DirRec) → List DirRec
  | _, _, [] => []
  | v, n, rs :: l =>
    let ordered := pairOrder rs
    let orient := match ordered with
      | r :: _ => if r.kind == 1 then 0 else b2n (r.e1Start == endRef)
      | [] => 0
    let nodes := (List.range ordered.length).map (fun i => match ordered[i]? with
      | some r => { r with vehicle := v, node := if r.kind == 0 then n + i else 0, orient := orient }
      | none => { uid := 0, vehId := 0, kind := 1, flags := 0, ends := 0, sense := 0, node := 0, vehicle := v, orient := 0,
                  cls := 0, demandId := 0, hops := 0, route := 0, foreignPos := 0 })
    nodes ++ numberFrom endRef (v + 1) (n + (nodesOf rs).length) l

/-- A node's proposed THROUGH ends (R153, R154): the plane-end and the one it faces are present; across an empty place
the record's own state stands. -/
def proposedThrough (numbered all_ : List DirRec) (r : DirRec) (p : Nat) : Bool :=
  let e := p / 2
  let here := bit r.ends p
  match neighbour numbered r e with
  | some m => here && bit m.ends (2 * m.endFacing r.pos + p % 2)
  | none =>
    let gap := (neighbour all_ r e).isNone && (nodesOf all_).any (fun m => if r.beyond e < r.pos then m.pos < r.pos else m.pos > r.pos)
    gap && bit r.ends (4 + p)

/-- Numbering (R153 to R155): the records of the Proposal, multiple active cabs, whether records are left out, and how many.  Nodes
whose demand table differs from the Lead's, or whose class it does not hold, get `NO_SLOTS`. -/
def numberTrain (l : List DirRec) (leadDemand : Nat) (classes : List Nat) : List DirRec × Bool × Bool × Nat :=
  let chain := chainOf l
  let vs := vehiclesOf chain chain
  let endRef := refIsEnd vs
  let full := (vs.map (withForeign l)).foldr (· ++ ·) []
  let turned := if endRef then full.reverse.map List.reverse else full
  let window := windowOf turned
  let numbered := numberFrom endRef 1 1 window
  let fill (r : DirRec) : DirRec :=
    if r.kind == 1 then r
    else
      let noSlots := r.demandId != leadDemand || !classes.contains r.cls
      { r with ends := r.ends % 16 + 16 * laneMask (proposedThrough numbered l r),
               flags := r.flags % 32 + 32 * b2n noSlots + r.flags / 64 * 64 }
  let left := l.length - numbered.length
  (numbered.map fill, (vs.filter cabIn).length > 1, left != 0, left)

/-! Routes (R77, R78, R156). -/

/-- One hop of a route: the node and plane-end it leaves, and the node and plane-end it reaches, 0 and 4 when none. -/
structure Hop where
  node : Nat
  out : Nat
  dest : Nat
  inn : Nat
  deriving DecidableEq, Repr

/-- A Proposal names a plane-end THROUGH. -/
def DirRec.through (r : DirRec) (p : Nat) : Bool := bit r.ends (4 + p)

/-- The rest of a route on plane `y` from a node toward an end, until it is back at the origin's insertion point or ends. -/
def routeGo (l : List DirRec) (y origin : Nat) : Nat → DirRec → Nat → List Hop
  | 0, _, _ => []
  | k + 1, r, e =>
    if r.through (2 * e + y) then
      match neighbour l r e with
      | none => [⟨r.node, 2 * e + y, 0, 4⟩]
      | some m =>
        let f := m.endFacing r.pos
        if m.through (2 * f + y) then
          ⟨r.node, 2 * e + y, m.node, 2 * f + y⟩ ::
            (if f = 0 && m.node = origin then [] else routeGo l y origin k m (1 - f))
        else [⟨r.node, 2 * e + y, 0, 4⟩]
    else if e = 0 && r.node = origin then []
    else routeGo l y origin k r (1 - e)

/-- The route of a frame of a node on a plane. -/
def routeOf (l : List DirRec) (y origin : Nat) : List Hop :=
  match (nodesOf l).find? (fun r => r.node == origin) with
  | some r => routeGo l y origin 600 r 1
  | none => []

/-! Placement (R156). -/

/-- ceil100. -/
def ceil100 (t : Nat) : Nat := (t + 99) / 100 * 100

/-- The cycle values placement rests on: guard, delay budget, message start, cycle length, speed code. -/
structure Frame where
  guard : Nat
  delayMax : Nat
  msgStart : Nat
  cycle : Nat
  speed : Nat
  deriving DecidableEq, Repr

/-- Those of this node; the speed is the lowest among its own plane-ends. -/
def State.frame (s : State) : Frame :=
  { guard := s.rd TCY_SLOT_GUARD_NS.f, delayMax := s.rd HST_DELAY_MAX_NS.f, msgStart := s.rd TCY_MSG_START_NS.f,
    cycle := s.rd TCY_CYCLE_NS.f,
    speed := ([0, 1, 2, 3].map s.groupCode).foldl Nat.min 4 }

/-- The hop step H of a frame of this duration. -/
def Frame.step (f : Frame) (tf : Nat) : Nat := ceil100 (f.delayMax + f.guard + tf + 600)

/-- A placed slot: its duration, E0, lanes, period, phase, and its directed links (4 × node + plane-end) with offsets. -/
structure Placed where
  tf : Nat
  e0 : Nat
  lanes : List Nat
  period : Nat
  phase : Nat
  links : List (Nat × Nat)
  deriving DecidableEq, Repr

/-- The directed links of a route with the offsets of its egresses. -/
def linksOf (h : Nat) (route : List Hop) : List (Nat × Nat) :=
  (List.range route.length).map (fun i => match route[i]? with
    | some x => (4 * x.node + x.out, i * h)
    | none => (0, 0))

/-- Two slots are polled in a common cycle. -/
def sharesCycle (p q : Placed) : Bool := p.phase % Nat.gcd p.period q.period == q.phase % Nat.gcd p.period q.period

/-- The occupancies of two slots on one link overlap (R115). -/
def overlaps (f : Frame) (ta tfa tb tfb : Nat) : Bool :=
  ta < tb + 200 + tfb + 2 * f.guard && tb < ta + 200 + tfa + 2 * f.guard

/-- A slot does not meet a placed one on any link they share. -/
def clearOf (f : Frame) (p q : Placed) : Bool :=
  p.links.all (fun a => q.links.all (fun b => a.1 != b.1 || !overlaps f (p.e0 + a.2) p.tf (q.e0 + b.2) q.tf))

/-- The lowest-numbered lane of a table that is free at every hop. -/
def freeLane (f : Frame) (placed : List Placed) (p : Placed) (table : Nat) : Option Nat :=
  ((List.range 4).filter (fun l => table = 0 || l + 1 != table)).find? (fun l =>
    placed.all (fun q => q.lanes.getD table 0 != l || !sharesCycle p q || clearOf f p q))

/-- The lanes of a slot under the five tables, when each has one. -/
def lanesFor (f : Frame) (placed : List Placed) (p : Placed) : Option (List Nat) :=
  (List.range 5).foldr (fun i acc => match freeLane f placed p i, acc with
    | some l, some ls => some (l :: ls)
    | _, _ => none) (some [])

/-- The load of every link of a slot stays within the bound of R138, three lanes being the tightest. -/
def loadOk (f : Frame) (placed : List Placed) (p : Placed) : Bool :=
  p.links.all (fun a =>
    let sum := (placed.map (fun q => if q.links.any (fun b => b.1 == a.1) then q.tf else 0)).foldl (· + ·) p.tf
    10 * sum ≤ 18 * f.cycle)

/-- The last egress offset of a slot. -/
def lastOffset (p : Placed) : Nat := (p.links.map Prod.snd).foldl Nat.max 0

/-- The earliest E0 from a start, in steps of 100 ns, at which a slot fits. -/
def searchE0 (f : Frame) (placed : List Placed) (p : Placed) : Nat → Nat → Option Placed
  | 0, _ => none
  | k + 1, e0 =>
    let q := { p with e0 := e0 }
    if e0 + lastOffset p + 200 + p.tf + f.guard > f.msgStart then none
    else match lanesFor f placed q with
      | some ls => some { q with lanes := ls }
      | none => searchE0 f placed p k (e0 + 100)

/-- Duration of the Pennant. -/
def Frame.pennant (f : Frame) : Nat := durationNs f.speed 242

/-- Slot 0 as placed for a Lead. -/
def placePennant (f : Frame) (l : List DirRec) (lead : Nat) : Placed :=
  let h := f.step f.pennant
  { tf := f.pennant, e0 := 0, lanes := [0, 1, 0, 0, 0], period := 1, phase := 0,
    links := linksOf h (routeOf l 0 lead) ++ linksOf h (routeOf l 1 lead) }

/-- The earliest egress of the Pennant at the hop before a node, if any route of slot 0 passes it. -/
def pennantBefore (f : Frame) (l : List DirRec) (lead node : Nat) : Option Nat :=
  let h := f.step f.pennant
  let one (y : Nat) : Option Nat := ((routeOf l y lead).findIdx? (fun x => x.dest == node)).map (fun i => i * h)
  match one 0, one 1 with
  | some a, some b => some (Nat.min a b)
  | some a, none => some a
  | none, b => b

/-- The earliest E0 admitted after the Pennant. -/
def e0From (f : Frame) (l : List DirRec) (lead node : Nat) : Option Nat :=
  if node = lead then some (ceil100 (f.guard + f.pennant + 600))
  else (pennantBefore f l lead node).map (fun t => ceil100 (t + f.delayMax + f.guard + f.pennant + 600))

/-- Place one demand of a node. -/
def placeOne (f : Frame) (l : List DirRec) (lead node : Nat) (d : Demand) (placed : List Placed) : Option Placed :=
  let tf := durationNs f.speed d.len
  let h := f.step tf
  let p : Placed :=
    { tf := tf, e0 := 0, lanes := [], period := d.period, phase := d.phase,
      links := linksOf h (routeOf l 0 node) ++ linksOf h (routeOf l 1 node) }
  match e0From f l lead node with
  | none => none
  | some e => if loadOk f placed p then searchE0 f placed p (f.msgStart / 100 + 1) e else none

/-- Place every demand in ascending node number and table order: the slots and how many stay unplaced. -/
def placeAll (f : Frame) (l : List DirRec) (lead : Nat) :
    List (Nat × Nat × Demand) → List Placed → List PropSlot → Nat → List PropSlot × Nat
  | [], _, slots, miss => (slots, miss)
  | (node, i, d) :: rest, placed, slots, miss =>
    match if slots.length < 1023 then placeOne f l lead node d placed else none with
    | some p =>
      placeAll f l lead rest (placed ++ [p]) (slots ++ [{ origin := node, demand := i, e0 := p.e0, lanes := p.lanes }]) miss
    | none => placeAll f l lead rest placed slots (miss + 1)

/-- The demands of a class in a demand table. -/
def demandsOf (t : List (Nat × List Demand)) (cls : Nat) : List Demand :=
  match getKey Prod.fst cls t with
  | some p => p.2
  | none => []

/-- Every demand of the numbered nodes, in ascending node number. -/
def demandList (t : List (Nat × List Demand)) (l : List DirRec) : List (Nat × Nat × Demand) :=
  let nodes := (nodesOf l).foldl (fun c r => putKey (fun x => x.node) r c) []
  (nodes.map (fun r =>
    if bit r.flags 5 then []
    else let ds := demandsOf t r.cls
      (List.range ds.length).filterMap (fun i => (ds[i]?).map (fun d => (r.node, i, d))))).foldr (· ++ ·) []

/-- The Lead's Proposal from the records it collected (R150, R153, R156), and how many records and demands it left out. -/
def makeProposal (s : State) : Proposal × Nat × Nat :=
  let (recs, multi, over_, left) := numberTrain s.hst.records (s.rd HST_DEMAND_ID.f) (s.hst.demands.map Prod.fst)
  let f := s.frame
  let lead := ((nodesOf recs).find? (fun r => r.hops == 0)).map (fun r => r.node)
  let (slots, miss) := placeAll f recs (lead.getD 0) (demandList s.hst.demands recs) [placePennant f recs (lead.getD 0)] [] 0
  let base := if s.hst.proposedSinceSwap then s.rd HST_PROPOSED_LAST.f else s.rd HST_EPOCH.f
  let next := (base + 1) % 65536
  let epoch := if next = 0 then 1 else next
  ({ leadUid := s.rd HST_UID.f, hoistId := s.leadHoist, epoch := epoch, sched := epoch, flags := b2n multi + 2 * b2n over_,
     reason := s.hst.reason, recs := recs, slots := slots }, left, miss)

/-! The Proposal's body (R150, Table 05-5). -/

/-- One slot entry as 6 bytes. -/
def PropSlot.bytes (p : PropSlot) : List Byte :=
  let ln (i : Nat) : Nat := p.lanes.getD i 0 % 4
  toBE 6 (p.origin % 256 * 2 ^ 40 + p.demand % 32 * 2 ^ 35 + p.e0 / 100 % 2 ^ 18 * 2 ^ 17 + ln 0 * 2 ^ 15 + ln 1 * 2 ^ 13
    + ln 2 * 2 ^ 11 + ln 3 * 2 ^ 9 + ln 4 * 2 ^ 7)

/-- The slot entry that 6 bytes spell. -/
def propSlotOf (b : List Byte) : PropSlot :=
  let v := beAt b 0 6
  { origin := bits v 40 8, demand := bits v 35 5, e0 := bits v 17 18 * 100,
    lanes := [bits v 15 2, bits v 13 2, bits v 11 2, bits v 9 2, bits v 7 2] }

/-- The body of a Proposal. -/
def Proposal.body (p : Proposal) : List Byte :=
  toBE 2 p.recs.length ++ toBE 2 p.slots.length ++ toBE 2 p.sched ++ toBE 1 p.flags ++ toBE 1 p.reason
    ++ (p.recs.map DirRec.bytes).foldr (· ++ ·) [] ++ (p.slots.map PropSlot.bytes).foldr (· ++ ·) []

/-- The Proposal that a complete body spells. -/
def proposalOf (lead hoist epoch : Nat) (b : List Byte) : Proposal :=
  let nr := beAt b 0 2
  let ns := beAt b 2 2
  { leadUid := lead, hoistId := hoist, epoch := epoch, sched := beAt b 4 2, flags := byteAt b 6, reason := byteAt b 7,
    recs := (List.range nr).map (fun i => recOf (slice b (8 + 32 * i) 32)),
    slots := (List.range ns).map (fun i => propSlotOf (slice b (8 + 32 * nr + 6 * i) 6)) }

/-! What a node computes for itself (R156, R157). -/

/-- One-way delay in ps that R178 selects for a plane-end: its lowest-numbered lane with a valid delay.  A plane-end without one
counts as 0: a Hoist refuses there (R178), and for an image's slots the spec names no delay (DESIGN CHOICE, log entry 83). -/
def State.endDelay (s : State) (p : Nat) : Nat :=
  match (List.range 4).find? (fun l => s.on (TIM_DLY_PEp_Ll_VALID.f p l)) with
  | some l => s.rd (TIM_DLY_PEp_Ll.f p l)
  | none => 0

/-- The same in ns: a fraction is rounded as the free value of log entry 59 has it. -/
def State.endDelayNs (s : State) (p : Nat) : Nat := (roundOpen (s.endDelay p) 1000).toNat

/-- The node's times of one slot: egress and ingress per plane-end, from the routes on both planes. -/
def slotTimes (s : State) (l : List DirRec) (own origin e0 h : Nat) : List Nat × List Nat :=
  let idx (y : Nat) : List (Nat × Hop) :=
    let r := routeOf l y origin
    (List.range r.length).filterMap (fun i => (r[i]?).map (fun x => (i, x)))
  let all_ := idx 0 ++ idx 1
  let egress (p : Nat) : Nat := match all_.find? (fun x => x.2.node == own && x.2.out == p) with
    | some x => e0 + x.1 * h
    | none => noTime
  let ingress (p : Nat) : Nat := match all_.find? (fun x => x.2.dest == own && x.2.inn == p) with
    | some x => e0 + x.1 * h + s.endDelayNs p
    | none => noTime
  ((List.range 4).map egress, (List.range 4).map ingress)

/-- The node's own slot table under a Proposal: the Pennant and every slot whose route passes it. -/
def ownSlots (s : State) (p : Proposal) : List Slot :=
  let f := s.frame
  let own := ((nodesOf p.recs).find? (fun r => r.uid == s.rd HST_UID.f)).map (fun r => r.node)
  let me := own.getD 0
  let lead := (((nodesOf p.recs).find? (fun r => r.hops == 0)).map (fun r => r.node)).getD 0
  let mk (num origin len period phase publish msg e0 : Nat) : Option Slot :=
    let (eg, ing) := slotTimes s p.recs me origin e0 (f.step (durationNs f.speed len))
    if origin != me && eg.all (· == noTime) && ing.all (· == noTime) then none
    else some { num := num, origin := origin, len := len, period := period, phase := phase, valid := true,
                originate := origin == me, publish := publish, msg := msg, egress := eg, ingress := ing }
  let pennant := (mk 0 lead 242 1 0 0 0 0).toList
  pennant ++ (List.range p.slots.length).filterMap (fun i => match p.slots[i]? with
    | none => none
    | some x =>
      let cls := (((nodesOf p.recs).find? (fun r => r.node == x.origin)).map (fun r => r.cls)).getD 0
      match (demandsOf s.hst.demands cls)[x.demand]? with
      | some d => mk (i + 1) x.origin d.len d.period d.phase d.publish (x.origin * 65536 + d.msg) x.e0
      | none => none)

/-- The five lane tables of a plane-end under a Proposal (R157), at 5 × p + table. -/
def ownLanes (s : State) (p : Proposal) : List (List LaneEnt) :=
  let slots := ownSlots s p
  (List.range 20).map (fun k =>
    let pe := k / 5
    let t := k % 5
    (slots.filter (fun x => x.egress.getD pe noTime != noTime)).map (fun x =>
      let lane := if x.num = 0 then [0, 1, 0, 0, 0].getD t 0
        else match p.slots[x.num - 1]? with
          | some q => q.lanes.getD t 0
          | none => 0
      { index := x.num, slot := x.num, lane := lane, originate := x.originate,
        skew := Config.laneSkew (4 * pe + lane) % 65536 }))

end Sys2Proof.Machine
end

