-- ==== Sys2Proof/Machine/LoadCheck.lean ====
section
/-!
DEFINITION. The load checks of R138 over a cycle section and over a node's own slot bank (spec/04, R105, R115).
-/
namespace Sys2Proof.Machine
open Sys2Proof

/-- The values of a cycle section (Table 04-9, words 0x000 to 0x010). -/
structure CycleCfg where
  cycle : Nat
  cfgId : Nat
  msgStart : Nat
  cguard : Nat
  slotGuard : Nat
  deriving DecidableEq, Repr

/-- The cycle configuration in force. -/
def State.cycleCfg (s : State) : CycleCfg :=
  { cycle := s.rd TCY_CYCLE_NS.f, cfgId := s.rd TCY_CFG_ID.f, msgStart := s.rd TCY_MSG_START_NS.f,
    cguard := s.rd TCY_CGUARD_NS.f, slotGuard := s.rd TCY_SLOT_GUARD_NS.f }

/-- The first of checks 1 to 3 that a cycle section fails. -/
def cycleCheck (c : CycleCfg) : Option Nat :=
  if c.cycle < 250000 || c.cycle > 16000000 || c.cycle % 100 != 0 then some 1
  else if c.cguard < 2000 || c.cguard > 1000000 || c.msgStart + 20000 + c.cguard > c.cycle then some 2
  else if c.slotGuard < 150 || c.slotGuard > 1000 then some 3
  else none

/-- A frame's duration in ns at a plane-end's group speed (R115). -/
def State.tf (s : State) (p len : Nat) : Nat := durationNs (s.groupCode p) len

/-- Check 4: an entry's fields; slot 0 has period 1 and names the Lead. -/
def slotFieldsOk (lead : Nat) (x : Slot) : Bool :=
  x.num < 1024 && 1 ≤ x.origin && x.origin ≤ 128 && 66 ≤ x.len && x.len ≤ 4162 && 1 ≤ x.period && x.period ≤ 64
    && x.phase < x.period && (x.num != 0 || (x.period == 1 && x.origin == lead))
    && x.egress.all (fun e => e == noTime || e % 100 == 0)

/-- The ingress that an egress at plane-end p continues under given end states, none at the frame's first egress (R115,
rule 1). -/
def continues (x : Slot) (through : Nat → Bool) (p : Nat) : Option Nat :=
  let other := if p < 2 then p + 2 else p - 2
  if p < 2 then
    (if through other then some other else if x.originate then none else some p)
  else if x.originate then none
  else if through other then some other else some p

/-- Rules 1 and 4 of R115 at one plane-end.  The Pennant's occupancy at the Lead begins a slot guard before its egress at 0;
the lower bound is taken for the egress instant there.  DEDUCED, log entry 32. -/
def State.egressOk (s : State) (c : CycleCfg) (through : Nat → Bool) (x : Slot) (p : Nat) : Bool :=
  let e := x.egress.getD p noTime
  let t := s.tf p x.len
  if e == noTime then true
  else
    (x.num == 0 || c.slotGuard ≤ e) && e + 200 + t + c.slotGuard ≤ c.msgStart &&
      (match continues x through p with
       | none => true
       | some q =>
         let i := x.ingress.getD q noTime
         i == noTime || i + c.slotGuard + t + 600 ≤ e)

/-- The earliest of two instants of one plane. -/
def planeFirst (l : List Nat) (y : Nat) : Nat := Nat.min (l.getD y noTime) (l.getD (2 + y) noTime)

/-- Rule 2 of R115: the origin's first egress on each plane stands clear of the Pennant. -/
def State.afterPennant (s : State) (c : CycleCfg) (slots : List Slot) (x : Slot) : Bool :=
  !x.originate || x.num == 0 ||
    [0, 1].all (fun y =>
      let e := planeFirst x.egress y
      match slots.find? (fun z => z.num == 0) with
      | none => true
      | some z =>
        let i := if z.originate then planeFirst z.egress y else planeFirst z.ingress y
        e == noTime || i == noTime || i + c.slotGuard + s.tf y 242 + 600 ≤ e)

/-- Rule 3 of R115 at one plane-end under one table: two slots of one lane that share a cycle do not overlap. -/
def State.lanesClear (s : State) (c : CycleCfg) (p : Nat) (slots : List Slot) (t : List LaneEnt) : Bool :=
  let here := slots.filter (fun x => x.egress.getD p noTime != noTime)
  here.all (fun a => here.all (fun b =>
    let ea := a.egress.getD p noTime
    let eb := b.egress.getD p noTime
    b.num ≤ a.num || laneIn t a.num != laneIn t b.num
      || a.phase % Nat.gcd a.period b.period != b.phase % Nat.gcd a.period b.period
      || eb ≥ ea + 200 + s.tf p a.len + 2 * c.slotGuard || ea ≥ eb + 200 + s.tf p b.len + 2 * c.slotGuard))

/-- Check 6 at one plane-end, in both directions: three lanes are the tightest table. -/
def State.linkLoadOk (s : State) (c : CycleCfg) (p : Nat) (slots : List Slot) : Bool :=
  let sum (f : Slot → List Nat) : Nat :=
    (slots.map (fun x => if (f x).getD p noTime != noTime then s.tf p x.len else 0)).foldl (· + ·) 0
  10 * sum Slot.egress ≤ 18 * c.cycle && 10 * sum Slot.ingress ≤ 18 * c.cycle

/-- The first check of R138 that a slot bank with its lane tables fails. -/
def State.bankCheck (s : State) (c : CycleCfg) (slots : List Slot) (lanes : List (List LaneEnt)) (lead nodes vehicles : Nat)
    (through : Nat → Bool) : Option Nat :=
  match cycleCheck c with
  | some k => some k
  | none =>
    if !(slots.all (slotFieldsOk lead) && slots.any (fun x => x.num == 0)) then some 4
    else if !(slots.all (fun x => s.afterPennant c slots x && (List.range 4).all (s.egressOk c through x))
      && (List.range 20).all (fun k => s.lanesClear c (k / 5) slots (lanes.getD k []))) then some 5
    else if !((List.range 4).all (fun p => s.linkLoadOk c p slots)) then some 6
    else if nodes > 128 || vehicles > 64 then some 7
    else none

end Sys2Proof.Machine
end

