-- ==== Sys2Proof/Machine/Hoist.lean ====
section
/-!
DEFINITION. Hoist at the node and at the Lead: run-ahead, Ready and Refuse, Commit and swap, Strike, Yield, and what hosts
see (spec/05, R146 to R171).
-/
namespace Sys2Proof.Machine
open Sys2Proof

/-! Small views. -/

/-- A directory's record of a unique ID. -/
def recOfUid (l : List DirRec) (uid : Nat) : Option DirRec := (nodesOf l).find? (fun r => r.uid == uid && r.node != 0)

/-- This node's record in a Proposal. -/
def State.ownRec (s : State) (p : Proposal) : Option DirRec := recOfUid p.recs (s.rd HST_UID.f)

/-- The unique ID of the node a directory places beyond a plane-end of this node, 0 when none. -/
def State.beyondUid (s : State) (l : List DirRec) (p : Nat) : Nat :=
  match recOfUid l (s.rd HST_UID.f) with
  | none => 0
  | some r => match neighbour l r (p / 2) with | some m => m.uid | none => 0

/-- The plane-ends whose proposed neighbour has to be confirmed (R159): named THROUGH, toward a numbered neighbour other than the
one reached THROUGH under the current epoch; across a place from which no record came (R154) there is none to confirm.  None while `HST_PROV_EN` is 0. -/
def State.provEnds (s : State) (p : Proposal) : List Nat :=
  match s.ownRec p with
  | none => []
  | some r => (List.range 4).filter (fun q =>
      s.on HST_PROV_EN.f && bit r.ends (4 + q) && s.beyondUid p.recs q != 0
        && !(s.through q && s.beyondUid s.hst.current q == s.beyondUid p.recs q))

/-- Every such neighbour is confirmed on at least one plane (R159). -/
def State.allConfirmed (s : State) (p : Proposal) : Bool :=
  (s.provEnds p).all (fun q => s.hst.confirmed.any (fun c => c / 2 == q / 2))

/-! Ready and Refuse (R151, R159, R165). -/

/-- The Lead enters COLLECT again after a Strike of reason 2 or 3 while retries are left (Table 05-6). -/
def retryHoist (reason : Nat) (s : State) : State :=
  let s1 := strike reason s
  startHoist 8 (noteTrigger 8 { s1 with hst := { s1.hst with retries := s1.hst.retries + 1 } })

/-- Retries are left for this trigger. -/
def State.mayRetry (s : State) : Bool := s.hst.retries < s.rd HST_RETRIES.f

/-- A Ready reaches the Lead. -/
def readyAtLead (uid hoist : Nat) (s : State) : State :=
  if s.rd HST_LEAD_STATE.f == 5 && hoist == s.leadHoist then
    { s with hst := { s.hst with readies := uid :: s.hst.readies.filter (· != uid) } }
  else s

/-- A Refuse reaches the Lead: a retry, or the node is left out at the close (Table 05-8). -/
def refuseAtLead (uid hoist : Nat) (s : State) : State :=
  if s.rd HST_LEAD_STATE.f == 5 && hoist == s.leadHoist then
    (if s.mayRetry then retryHoist 2 s
     else { s with hst := { s.hst with missing := uid :: s.hst.missing.filter (· != uid) } })
  else s

/-- The node is READY and says so; the Lead takes its own Ready directly.  `HC_FLAGS` bit 1 FROM_LEAD stands in the frames that
only a Lead sends, and not in a Ready or Refuse, the Lead's own included (DEDUCED, log entry 87). -/
def sendReady (p : Proposal) (s : State) : State :=
  let uid := s.rd HST_UID.f
  let s1 := sendHoist hcReady 0 p.epoch p.hoistId (toBE 8 uid ++ [1#8]) (s.wr HST_STATE.f 2)
  if s1.isLead then readyAtLead uid p.hoistId s1 else s1

/-- The node refuses: Table 05-4 gives reason and detail. -/
def sendRefuse (p : Proposal) (reason detail : Nat) (s : State) : State :=
  let uid := s.rd HST_UID.f
  let s1 := sendHoist hcRefuse 0 p.epoch p.hoistId (toBE 8 uid ++ toBE 1 reason ++ toBE 1 detail) (s.wr HST_STATE.f 3)
  if s1.isLead then refuseAtLead uid p.hoistId s1 else s1

/-- A node in RUNAHEAD whose shadows are complete and whose neighbours are confirmed becomes READY. -/
def tryReady (s : State) : State :=
  match s.hst.proposal with
  | some p => if s.rd HST_STATE.f == 1 && s.shadowsBuilt p && s.allConfirmed p then sendReady p s else s
  | none => s

/-! Run-ahead (R157 to R159). -/

/-- The provisional frames of one message phase (R159). -/
def sendProvisionals (s : State) : State :=
  match s.hst.proposal with
  | none => s
  | some p =>
    if s.rd HST_STATE.f != 1 || s.rd TCY_STATE.f == 8 then s
    else
      let num := match s.ownRec p with | some r => r.node | none => 0
      let f := { localFrame s 5 (toBE 8 (s.rd HST_UID.f) ++ toBE 2 p.hoistId ++ toBE 8 p.leadUid) with
                 origin := num, epoch := p.epoch }
      (s.provEnds p).foldl (fun t q => queueLocal f [q] 7 t) s

/-- A node takes a complete Proposal that holds it (R157). -/
def enterRunahead (p : Proposal) (s : State) : State :=
  let (num, veh) := match s.ownRec p with | some r => (r.node, r.vehicle) | none => (0, 0)
  let s0 := discardShadows s
  let s1 := s0.setSlotShadow { s0.slotShadow with faulty := false }
  let s2 : State :=
    { s1 with hst := { s1.hst with proposal := some p, confirmed := [], newSched := 0 },
              bkb := { s1.bkb with faulty := s1.bkb.faulty.filter (fun x => x.2 == s1.rd (BKB_PEp_BANK.f x.1)) },
              net := { s1.net with faulty := s1.net.faulty.filter (fun b => b == b2n s1.net.bank) },
              sig := { s1.sig with faulty := s1.sig.faulty.filter (fun b => b == s1.sig.bank) } }
  let s3 := (s2.wr HST_STATE.f 1).wr HST_PEND_EPOCH.f p.epoch
  let s4 := s3.raise 0x0501 0 (toBE 2 p.epoch ++ toBE 2 p.hoistId ++ toBE 1 p.reason ++ toBE 1 num ++ toBE 1 veh)
  if s4.inMsgPhase then sendProvisionals s4 else s4

/-- The Hoist number a lies after b. -/
def laterHoist (a b : Nat) : Bool :=
  let d := (a + 65536 - b % 65536) % 65536
  1 ≤ d && d < 32768

/-- A complete Proposal is taken (Table 05-7). -/
def takeProposal (p : Proposal) (s : State) : State :=
  let st := s.rd HST_STATE.f
  let fresh := match s.hst.proposal with
    | some q => st == 0 || q.leadUid != p.leadUid || laterHoist p.hoistId q.hoistId
    | none => true
  if st ≥ 4 then s.inc HST_HC_DISC.f
  else if !fresh then s
  else if (s.ownRec p).isSome then enterRunahead p s
  else
    let s1 := if st == 0 then s else hoistIdle s
    { s1 with hst := { s1.hst with proposal := some p } }

/-- A segment of a Proposal: with all of them the Proposal is complete (R150, R151). -/
def takeSegment (lead hoist epoch seg segs : Nat) (b : List Byte) (s : State) : State :=
  let key : HcKey := { typ := hcProposal, lead := lead, hoist := hoist, seg := seg, sender := 0 }
  let keep := s.hst.segments.filter (fun (x : HcKey × Nat × Nat × List Byte) =>
    x.1.lead == lead && x.1.hoist == hoist && x.2.1 == segs && x.1.seg != seg)
  let l := putKey (fun (x : HcKey × Nat × Nat × List Byte) => x.1.seg) (key, segs, epoch, b) keep
  if l.length < segs then { s with hst := { s.hst with segments := l } }
  else
    takeProposal (proposalOf lead hoist epoch ((l.map (fun x => x.2.2.2)).foldr (· ++ ·) []))
      { s with hst := { s.hst with segments := [] } }

/-- What run-ahead finds wrong, as the reason and detail of a Refuse: a table fault, a differing demand table, a link delay on
the node's route (R178: an unmeasured one too), a load check. -/
def State.refusal (s : State) (p : Proposal) (slots : List Slot) (lanes : List (List LaneEnt)) : Option (Nat × Nat) :=
  let lead := (nodesOf p.recs).find? (fun r => r.hops == 0)
  let laneFault := s.bkb.faulty.any (fun x => x.2 != s.rd (BKB_PEp_BANK.f x.1))
  let measured (q : Nat) : Bool := (List.range 4).any (fun l => s.on (TIM_DLY_PEp_Ll_VALID.f q l))
  let far := (List.range 4).find? (fun q =>
    slots.any (fun x => x.ingress.getD q noTime != noTime)
      && (!measured q || s.endDelay q > 1000 * s.rd HST_DELAY_MAX_NS.f))
  let differs := match lead with | some r => r.demandId != s.rd HST_DEMAND_ID.f | none => true
  let ends := match s.ownRec p with | some r => r.ends | none => 0
  let vehicles := (p.recs.map (fun r => r.vehicle)).foldl Nat.max 0
  if s.slotShadow.faulty || laneFault || s.net.faulty.contains (1 - b2n s.net.bank) || s.sig.faulty.contains (!s.sig.bank) then
    some (5, 0)
  else if differs then some (4, 0)
  else match far with
    | some q => some (3, q)
    | none => (s.bankCheck s.cycleCfg slots lanes (match lead with | some r => r.node | none => 0) (nodesOf p.recs).length
        vehicles (fun q => bit ends (4 + q))).map (fun k => (1, k))

/-- The nodes that the binding rules name under a directory (R242). -/
def State.resolved (s : State) (dir : List DirRec) (own : Nat) : List Nat := s.sig.rules.map (resolveRule dir own)

/-- Routing entries with the nodes their rules name (R313). -/
def resolveRoutes (nodes : List Nat) (l : List Route) : List Route :=
  l.map (fun r => { r with node := if bit r.local_ 3 && !bit r.local_ 4 then nodes.getD r.rule 0 else 0 })

/-- Write the shadows of routing and binding, resolved against a directory. -/
def writeBindings (dir : List DirRec) (own : Nat) (s : State) : State :=
  let nodes := s.resolved dir own
  let b : BindBank := { descs := s.binding.descs, nodes := nodes }
  let r := resolveRoutes nodes (s.routes s.net.bank)
  let s1 := if s.sig.bank then { s with sig := { s.sig with bindA := b } } else { s with sig := { s.sig with bindB := b } }
  if s1.net.bank then { s1 with net := { s1.net with routesA := r } } else { s1 with net := { s1.net with routesB := r } }

/-- Run-ahead completes its shadow banks and their checks (R157). -/
def runaheadDone (s : State) : State :=
  match s.hst.proposal with
  | none => s
  | some p =>
    if s.rd HST_STATE.f != 1 || s.shadowsBuilt p then s
    else
      let slots := ownSlots s p
      let lanes := ownLanes s p
      match s.refusal p slots lanes with
      | some (r, d) => sendRefuse p r d s
      | none =>
        let num := match s.ownRec p with | some r => r.node | none => 0
        let s1 := s.setSlotShadow { slots := slots, sched := p.epoch, ready := true, faulty := false }
        tryReady (writeBindings p.recs num { s1 with bkb := { s1.bkb with shadow := lanes } })

/-- A provisional frame (R159). -/
def takeProvisional (q : Nat) (f : BbFrame) (s0 : State) : State :=
  let s := s0.inc HST_PROV_RX.f
  match s.hst.proposal with
  | none => s.inc HST_PROV_DISC.f
  | some p =>
    if s.rd HST_STATE.f != 1 || beAt f.body 8 2 != p.hoistId || beAt f.body 10 8 != p.leadUid then s.inc HST_PROV_DISC.f
    else if beAt f.body 0 8 == s.beyondUid p.recs q && beAt f.body 0 8 != 0 then
      tryReady { s with hst := { s.hst with confirmed := q :: s.hst.confirmed.filter (· != q) } }
    else sendRefuse p 2 q s

/-! Commit (R152, R160, R161). -/

/-- A Commit, or the end of hope for one, finds the node without a swap to make: the active banks stay. -/
def missSwap (unit table bank : Nat) (s : State) : State :=
  let id := match s.hst.proposal with | some p => p.epoch | none => 0
  tableFault unit table bank 2 id (hoistIdle s)

/-- A READY node misses its Commit (R161). -/
def missedCommit (s : State) : State := detect 9 0 0 (missSwap 0 1 s.shadowNum s)

/-- The first table, in the order of Table 01-12, whose shadow write failed in run-ahead: event unit, table, shadow bank. -/
def State.faultyShadow (s : State) : Option (Nat × Nat × Nat) :=
  if s.net.faulty.contains (1 - b2n s.net.bank) then some (0, 0, 1 - b2n s.net.bank)
  else if s.slotShadow.faulty then some (0, 1, s.shadowNum)
  else match (List.range 4).find? (fun p => s.bkb.faulty.contains (p, 1 - s.rd (BKB_PEp_BANK.f p))) with
    | some p => some (unitId 3 p, 2, 1 - s.rd (BKB_PEp_BANK.f p))
    | none => if s.sig.faulty.contains (!s.sig.bank) then some (0, 3, 1 - b2n s.sig.bank) else none

/-- The table a Commit finds unfinished or refused, as event unit, table and shadow bank (R18): in RUNAHEAD the first of them all,
in REFUSED the one whose write failed, else the slot table, whose check refused. -/
def State.unfinished (s : State) (p : Proposal) : Nat × Nat × Nat :=
  if s.rd HST_STATE.f == 1 && !s.shadowsBuilt p then (0, 0, 1 - b2n s.net.bank)
  else if s.rd HST_STATE.f == 3 then s.faultyShadow.getD (0, 1, s.shadowNum)
  else (0, 1, s.shadowNum)

/-- A Commit answers every `HOIST_REQUEST` made before it (R170). -/
def markRequests (s : State) : State :=
  { s with cmd := { s.cmd with longs := s.cmd.longs.map (fun l => if l.opcode == 0x0501 then { l with arg := 1 } else l) } }

/-- The selector of a swap at a boundary that something has armed already, by its table and shadow bank (R17, R137): a schedule
switch or a `CONFIG_APPLY` with a schedule, binding or routing section. -/
def State.swapTaken (s : State) (at_ : Nat) : Option (Nat × Nat) :=
  let applied (n : Nat) : Bool := s.sto.applyAt.any (fun a => a.cycle == at_ && bit a.mask n)
  let switched := match s.tcy.switch with | some (n, _) => n == at_ | none => false
  if applied 8 then some (0, 1 - b2n s.net.bank)
  else if switched || applied 2 then some (1, s.shadowNum)
  else if applied 4 then some (3, 1 - b2n s.sig.bank)
  else none

/-- Arm the selectors of a swap, unless one of them is armed for the boundary already: the later arming is refused. -/
def armSwap (p : Proposal) (at_ : Nat) (late incomplete : Bool) (s : State) : State :=
  match s.swapTaken at_ with
  | some (t, b) => detect 9 0 0 (missSwap 0 t b s)
  | none =>
    ({ s with hst := { s.hst with swapAt := some (at_, late, incomplete), proposal := some p } }).wr HST_STATE.f 4

/-- A Hoist that left this node out has swapped, and the node asks for another, once, unless the train was over the limits
(R161). -/
def askAgain (p : Proposal) (s : State) : State :=
  let s1 := { s with hst := { s.hst with leftAt := none, proposal := none } }
  if bit p.flags 1 then s1 else detect 9 0 0 s1

/-- A Commit for a Hoist is taken, naming cycle n (Table 05-7).  A node whose shadows are unfinished reports that to the Lead by a
Refuse (R33; DEDUCED, log entry 88). -/
def takeCommit (hoist n : Nat) (incomplete : Bool) (s0 : State) : State :=
  match s0.hst.proposal with
  | none => markRequests s0
  | some p =>
    let s := markRequests s0
    let st := s.rd HST_STATE.f
    if p.hoistId != hoist then s
    else if st == 0 then
      (if cycleAhead n s.cycle then { s with hst := { s.hst with leftAt := some n } } else askAgain p s)
    else if st == 1 || st == 3 || (st == 2 && s.rd TCY_STATE.f == 8) then
      let (u, t, b) := s.unfinished p
      missSwap u t b (if st == 1 then sendRefuse p 5 0 s else s)
    else if st != 2 then s
    else if cycleAhead n s.cycle then armSwap p n false incomplete s
    else if n == s.cycle then armSwap p ((n + 1) % 2 ^ 32) true incomplete s
    else missedCommit (s.inc HST_HC_DISC.f)

/-! The swap (R160). -/

/-- Succession ranks and excess (R134) from the CURRENT directory: position among the cold-start-capable nodes in ascending
node number, the Lead left out. -/
def takeRank (s : State) : State :=
  let lead := s.rd TCY_LEAD_UID.f
  let nodes := (nodesOf s.hst.current).foldl (fun c r => putKey (fun x => x.node) r c) []
  let capable := nodes.filter (fun r => bit r.flags 1)
  let others := capable.filter (fun r => r.uid != lead)
  let rank := match others.findIdx? (fun r => r.uid == s.rd HST_UID.f) with
    | some i => if i < 7 then i + 1 else 0
    | none => 0
  (s.wr TCY_SUCC_RANK.f rank).wrB TCY_COLD_EXCESS.f (capable.length > 8)

/-- The words that show the node's place in the CURRENT directory. -/
def syncPlace (s : State) : State :=
  match recOfUid s.hst.current (s.rd HST_UID.f) with
  | none => ((((s.wr HST_NODE_NUM.f 0).wr HST_VEH_NUM.f 0).wr HST_ORIENT.f 0).wr HST_OPEN_E1.f 0).wr HST_OPEN_E2.f 0
  | some r =>
    let open_ (e : Nat) : Bool := (neighbour s.hst.current r e).isNone
    ((((s.wr HST_NODE_NUM.f r.node).wr HST_VEH_NUM.f r.vehicle).wr HST_ORIENT.f r.orient).wrB HST_OPEN_E1.f (open_ 0)).wrB
      HST_OPEN_E2.f (open_ 1)

/-- Bring a plane-end to the state a Proposal names (Table 03-3). -/
def swapEnd (ends epoch p : Nat) (s : State) : State :=
  if bit ends (4 + p) then
    (if s.through p then s
     else if s.present p then goThrough p s
     else tableFault (unitId 3 p) 2 0xFF 2 epoch s)
  else if s.through p then goLooped p 3 s else s

/-- The lane bank of a plane-end takes the table of its group from the new set (R98, R157). -/
def swapLanes (p : Nat) (s : State) : State :=
  let s1 := (s.setFlips p []).wr (BKB_PEp_BANK.f p) (1 - s.rd (BKB_PEp_BANK.f p))
  if s1.present p then useTable p (tableOf (s1.group p)) s1 else s1

/-- Messages released before a bank became active are not sent under it (R118). -/
def clearPublished (s : State) : State :=
  s.eng.slots.foldl (fun t p => unref p.buf t) { s with eng := { s.eng with slots := [] } }

/-- Every selector of a Hoist flips at its boundary (R160): slot, lane, routing and binding banks, end states, directory,
epoch, ranks. -/
def swap (p : Proposal) (late incomplete : Bool) (s : State) : State :=
  let num := s.rd HST_NODE_NUM.f
  let old := s.rd HST_EPOCH.f
  let orient := s.rd HST_ORIENT.f
  let ends := match s.ownRec p with | some r => r.ends | none => 0
  let s1 : State :=
    { s with hst := { s.hst with previous := s.hst.current, current := p.recs, proposal := none, confirmed := [],
                                 swapAt := none, newSched := 0, proposedSinceSwap := false },
             net := { s.net with bank := !s.net.bank }, sig := { s.sig with bank := !s.sig.bank },
             bkb := { s.bkb with tables := s.bkb.shadow, shadow := [] },
             tcy := { s.tcy with overlap := some s.cycle, bootstrap := false, successor := false } }
  let s2 := ((s1.wr HST_PREV_EPOCH.f old).wr HST_EPOCH.f p.epoch).wr HST_PEND_EPOCH.f 0
  let s3 := (((s2.wr TCY_SLOT_BANK.f (1 - s2.rd TCY_SLOT_BANK.f)).wr TCY_SCHED_ID.f p.sched).wr HST_LAST_SWAP_CYCLE.f
    s.cycle).wr HST_STATE.f 5
  let s4 := unsyncSafety s.binding
    (syncBinding (syncPlace ((s3.wrB HST_MULTI_CAB.f (bit p.flags 0)).wrB HST_INCOMPLETE.f incomplete)))
  let s5 := takeRank (s4.wr TCY_LEAD_NODE.f (s4.nodeOfUid (s4.rd TCY_LEAD_UID.f)))
  let s6 := (List.range 4).foldl (fun t q => swapLanes q (swapEnd ends p.epoch q t)) s5
  let s7 := s6.inc HST_COMMITS.f
  let s8 := if late then s7.inc HST_LATE_SWAP.f else s7
  let new := s8.rd HST_NODE_NUM.f
  let s9 := s8.raise 0x0502 0 (toBE 2 p.epoch ++ toBE 2 old ++ toBE 4 s.cycle ++ toBE 1 new ++ toBE 1 (s8.rd HST_VEH_NUM.f)
    ++ toBE 1 (b2n incomplete + 2 * b2n (new != num) + 4 * b2n late))
  let s10 := cmdDoneAll 0x0501 (fun l => l.arg == 1) stOk (fun l => toBE 2 p.epoch ++ toBE 1 l.arg2) s9
  let s11 := if num != 0 && s10.rd HST_ORIENT.f != orient then negateEvents (negatePosition s10) else s10
  checkPartner (clearPublished s11)

/-- What a cycle boundary brings to the Hoist unit: the swap of its cycle, or a Trigger of a node left out (R161). -/
def swapBoundary (s : State) : State :=
  match s.hst.proposal with
  | none => s
  | some p =>
    if s.hst.leftAt == some s.cycle then askAgain p s
    else match s.hst.swapAt with
      | some (n, late, incomplete) => if n == s.cycle && s.rd HST_STATE.f == 4 then swap p late incomplete s else s
      | none => s

/-- The overlap cycle ends at a boundary (Table 05-7, R84). -/
def overlapEnd (s : State) : State :=
  match s.tcy.overlap with
  | some c =>
    if c == s.cycle then s
    else
      let e := s.rd HST_EPOCH.f
      let s1 := { s with tcy := { s.tcy with overlap := none }, hst := { s.hst with previous := [] },
                         bkb := { s.bkb with dups := s.bkb.dups.filter (fun d => d.epoch == e) } }
      if s1.rd HST_STATE.f == 5 then s1.wr HST_STATE.f 0 else s1
  | none => s

/-- The Lead's Hoist ends with its swap cycle (Table 05-8). -/
def leadBoundary (s : State) : State :=
  match s.hst.commitAt with
  | some n => if s.rd HST_LEAD_STATE.f == 6 && n != s.cycle && !cycleAhead n s.cycle then leadIdle s else s
  | none => s

/-- A pending `HOIST_REQUEST` of a node that leaves the train ends (R170). -/
def leaveTrain (s : State) : State := cmdDoneAll 0x0501 (fun _ => true) stTimeout (fun _ => []) s

/-! Frames (R145 to R148). -/

/-- Relay a Hoist control frame on its plane (R147): away from the arrival end, and toward the Lead only out of the Lead-facing
end where it is known. -/
def relayHoist (pe typ hoist : Nat) (f : BbFrame) (s : State) : State :=
  let other := if pe < 2 then pe + 2 else pe - 2
  let go := match towardLead typ, s.facing hoist with
    | true, some e => e == other / 2
    | _, _ => true
  if go && s.present other then queueLocal { f with hops := (f.hops + 1) % 65536 } [other] 7 s else s

/-- The Records that answer the Topology taken (R149). -/
def sendRecords (t : TopoTaken) (s : State) : State :=
  (s.ownRecord t.hops t.route :: s.foreignRecords t.hops t.route).foldl (fun u r =>
    sendHoist hcRecord 0 (u.rd HST_EPOCH.f) t.hoist r.bytes u)
    { s with hst := { s.hst with topology := some { t with sent := true } } }

/-- A Topology is taken (R149): the end it came by faces the Lead, and the node sends its Records; one in REFUSING sends none
(R148). -/
def takeTopology (pe hoist flags hops : Nat) (s : State) : State :=
  let t : TopoTaken := { hoist := hoist, hops := hops + 1, route := flags % 2 + 2 * (pe / 2), cycle := s.cycle, sent := false }
  let s1 := { s with hst := { s.hst with leadFacing := some (pe / 2, hoist), topology := some t } }
  let st := s1.rd TCY_STATE.f
  if st < 4 || st == 8 then s1 else sendRecords t s1

/-- The Topology taken is that of a Hoist that still collects Records, as far as a node can tell: no Proposal of it has come, and
its collection phases have not passed. -/
def State.collecting (s : State) (t : TopoTaken) : Bool :=
  s.rd HST_STATE.f == 0 && t.hoist == s.rd HST_HOIST_ID.f
    && (match s.hst.proposal with | some p => p.hoistId != t.hoist | none => true)
    && (s.cycle + 2 ^ 32 - t.cycle) % 2 ^ 32 ≤ s.rd HST_COLLECT_PHASES.f

/-- A Record reaches the Lead (R149). -/
def takeRecord (hoist : Nat) (b : List Byte) (s : State) : State :=
  if s.rd HST_LEAD_STATE.f == 3 && s.hst.topologySent && hoist == s.leadHoist then
    { s with hst := { s.hst with records := s.hst.records ++ [recOf b] } }
  else s.inc HST_LATE_RECORDS.f

/-- A Trigger reaches the Lead (R143). -/
def takeTrigger (b : List Byte) (s : State) : State :=
  atLead { reason := byteAt b 8, detail := byteAt b 9, uid := beAt b 0 8, foreign := beAt b 10 8, at_ := s.clk.now } s

/-- A sleep acknowledgement reaches the Lead (R449). -/
def takeSleepAck (b : List Byte) (s : State) : State :=
  if s.on LAD_SLEEP_ARMED.f && beAt b 8 4 == s.rd LAD_SLEEP_CYCLE.f && bit (byteAt b 12) 0 then
    let uid := beAt b 0 8
    { s with lad := { s.lad with acks := uid :: s.lad.acks.filter (· != uid) } }
  else s

/-- What a Hoist control frame of a Hoist of the Lead does at this node; `body` is what follows the Hoist header. -/
def processHoist (pe typ seg segs flags hoist epoch hops : Nat) (body : List Byte) (s : State) : State :=
  let lead := s.rd TCY_LEAD_UID.f
  match typ with
  | 2 => takeTopology pe hoist flags hops (s.wr HST_HOIST_ID.f hoist)
  | 4 => takeSegment lead hoist epoch seg segs body (s.wr HST_HOIST_ID.f hoist)
  | 7 => takeCommit hoist (beAt body 0 4) (bit (byteAt body 4) 0) (s.wr HST_HOIST_ID.f hoist)
  | 8 => takeStrike hoist (byteAt body 0) (s.wr HST_HOIST_ID.f hoist)
  | 9 => { s.wr HST_HOIST_ID.f hoist with hst := { s.hst with yieldAt := some (beAt body 0 4) } }
  | 3 => if s.isLead then takeRecord hoist body s else s
  | 5 => if s.isLead then readyAtLead (beAt body 0 8) hoist s else s
  | 6 => if s.isLead then refuseAtLead (beAt body 0 8) hoist s else s
  | 10 => if s.isLead then takeSleepAck body s else s
  | _ => s

/-- A Hoist control frame that passed R81 arrives at plane-end `pe` (R146, R147).  The first copy of a key is processed and
relayed; later copies, the other plane's too, are discarded.  A Trigger is processed whatever Lead its sender believes in; a
Record, Ready or Refuse that names another Lead answers no Hoist of this one. -/
def takeHoist (pe : Nat) (f : BbFrame) (s : State) : State :=
  let b := f.body
  let typ := byteAt b 0
  let seg := byteAt b 1
  let segs := byteAt b 2
  let uid := beAt b 4 8
  let hoist := beAt b 12 2
  let body := b.drop 16
  let lead := if s.keepsCycle then s.rd TCY_LEAD_UID.f else 0
  let senders := typ == hcTrigger || typ == hcRecord || typ == hcReady || typ == hcRefuse
  if typ = 0 || typ > 10 || segs = 0 || segs > 16 || seg ≥ segs || (typ != hcProposal && segs != 1) then
    s.inc HST_HC_DISC.f
  else if lead == 0 || !(uid == lead || senders) then s.inc HST_FOREIGN_HC.f
  else
    let k : HcKey := { typ := typ, lead := uid, hoist := hoist, seg := seg, sender := senderKey typ body }
    if s.hst.keys.contains k then s
    else
      let s1 := noteKey k s
      let s2 := if typ == hcTrigger then (if s1.isLead then takeTrigger body s1 else s1)
        else if uid == lead then processHoist pe typ seg segs (byteAt b 3) hoist (beAt b 14 2) f.hops body s1
        else s1
      relayHoist pe typ hoist f s2

/-! The Lead's stages (Table 05-8). -/

/-- The join hold ends (R144). -/
def joinHoldEnd (s : State) : State :=
  if s.isLead && s.rd HST_LEAD_STATE.f == 2 then
    startFresh 6 (noteTrigger 6 { s with hst := { s.hst with joins := [] } })
  else s

/-- Record collection closes (R149). -/
def collectionEnd (s : State) : State :=
  if s.isLead && s.rd HST_LEAD_STATE.f == 3 && s.hst.topologySent && s.hst.collectLeft ≤ 1 then s.wr HST_LEAD_STATE.f 4 else s

/-- Numbering and placement are done (R153, R156). -/
def numberingEnd (s : State) : State :=
  if s.isLead && s.rd HST_LEAD_STATE.f == 4 then
    let (p, left, miss) := makeProposal s
    let s1 := ((s.incBy HST_OVER_LIMIT.f left).incBy HST_UNPLACED.f miss).wr HST_PROPOSED_LAST.f p.epoch
    { s1.wr HST_LEAD_STATE.f 5 with hst :=
        { s1.hst with leadProposal := some p, proposeReady := true, proposedSinceSwap := true, readies := [], missing := [] } }
  else s

/-- Ready collection closes (R152, Table 05-6). -/
def readyClose (s : State) : State :=
  match s.hst.leadProposal with
  | none => s
  | some p =>
    if !s.isLead || s.rd HST_LEAD_STATE.f != 5 || s.hst.proposeReady || s.hst.collectLeft > 1 then s
    else
      let whole := (nodesOf p.recs).all (fun r => s.hst.readies.contains r.uid)
      if !whole && s.mayRetry then retryHoist 3 s
      else { s.wr HST_LEAD_STATE.f 6 with hst := { s.hst with commitAt := none, commitSent := 0, incomplete := !whole } }

/-- The Lead sends its Topology and begins its own collection (R149). -/
def sendTopology (s : State) : State :=
  let h := s.leadHoist
  let s1 := sendByEnd hcTopology 0 1 h (s.rd HST_EPOCH.f) (toBE 4 s.cycle ++ zeros 4) (s.wr HST_HOIST_ID.f h)
  { s1 with hst := { s1.hst with topologySent := true, collectLeft := (s1.rd HST_COLLECT_PHASES.f),
                                 records := s1.ownRecord 0 0 :: s1.foreignRecords 0 0 } }

/-- Cut a body into segments of up to 992 bytes. -/
def segmentsOf : Nat → List Byte → List (List Byte)
  | 0, _ => []
  | k + 1, b => if b.length ≤ 992 then [b] else b.take 992 :: segmentsOf k (b.drop 992)

/-- The Lead sends its Proposal and takes it itself (R150). -/
def sendProposal (p : Proposal) (s : State) : State :=
  let l := segmentsOf 16 p.body
  let n := l.length
  let s1 := (List.range n).foldl (fun t i => sendByEnd hcProposal i n p.hoistId p.epoch (l.getD i []) t) s
  takeProposal p { s1 with hst := { s1.hst with proposeReady := false, collectLeft := 2 } }

/-- The Lead sends its Commit, the first time or its repeat, and takes it itself (R152). -/
def sendCommit (s : State) : State :=
  let h := s.leadHoist
  let again := s.hst.commitSent ≠ 0
  let n := match s.hst.commitAt with | some n => n | none => (s.cycle + 1) % 2 ^ 32
  let epoch := match s.hst.leadProposal with | some p => p.epoch | none => 0
  let s1 := sendByEnd hcCommit 0 1 h epoch (toBE 4 n ++ toBE 1 (b2n s.hst.incomplete)) s
  let s2 := { s1 with hst := { s1.hst with commitAt := some n, commitSent := s1.hst.commitSent + 1 } }
  if again then s2 else takeCommit h n s.hst.incomplete s2

/-- The Lead sends the Yield it owes (R163) and takes it itself. -/
def sendYield (s : State) : State :=
  match s.hst.yieldDue with
  | none => s
  | some (winner, _) =>
    let y := (s.cycle + 2) % 2 ^ 32
    let s1 := sendHoist hcYield 2 (s.rd HST_EPOCH.f) s.leadHoist (toBE 4 y ++ toBE 8 winner) s
    { s1 with hst := { s1.hst with yieldDue := none, yieldAt := some y } }

/-- The node's acknowledgement of an announced sleep (R449). -/
def sendSleepAck (s : State) : State :=
  if !s.lad.ackDue then s
  else
    let s1 := { s with lad := { s.lad with ackDue := false } }
    if s1.isLead then s1
    else sendHoist hcSleepAck 0 (s1.rd HST_EPOCH.f) (s1.rd HST_HOIST_ID.f)
      (toBE 8 (s1.rd HST_UID.f) ++ toBE 4 (s1.rd LAD_SLEEP_CYCLE.f) ++ toBE 1 (s1.rd LAD_SLEEP_EN.f)) s1

/-- What the Lead sends or counts at the start of a message phase. -/
def leadPhase (s : State) : State :=
  if !s.isLead then s
  else
    let s1 := sendYield s
    let tick (t : State) : State := { t with hst := { t.hst with collectLeft := t.hst.collectLeft - 1 } }
    match s1.rd HST_LEAD_STATE.f with
    | 3 => if s1.hst.topologySent then tick s1 else sendTopology s1
    | 5 => (match s1.hst.proposeReady, s1.hst.leadProposal with
      | true, some p => sendProposal p s1
      | _, _ => tick s1)
    | 6 => if s1.hst.commitSent < 2 then sendCommit s1 else s1
    | _ => s1

/-- The Hoist unit at the start of a message phase. -/
def hoistPhase (s : State) : State := sendSleepAck (sendProvisionals (sendTriggers (leadPhase s)))

/-! Rows. -/

/-- A change of `COUPLE_SENSE` has lasted `HST_DEBOUNCE_MS` (R142). -/
def coupleSense (e level : Nat) (s : State) : State :=
  let now := if e = 0 then s.hst.senseE1 else s.hst.senseE2
  if e > 1 || b2n now == level || level > 1 then s
  else
    let s1 := if e = 0 then { s with hst := { s.hst with senseE1 := level == 1 } }
      else { s with hst := { s.hst with senseE2 := level == 1 } }
    detect (1 + e) 0 0 s1

/-- The meaning of `COUPLE_SENSE_DEBOUNCE`. -/
def execCoupleSenseDebounce (end_ level : Nat) (s : State) : Outcome := act (whenRunning (coupleSense end_ level)) s

/-- The meaning of `JOIN_HOLD_EXPIRY`. -/
def execJoinHoldExpiry (s : State) : Outcome := act (whenRunning joinHoldEnd) s

/-- The meaning of `COLLECTION_CLOSE`. -/
def execCollectionClose (s : State) : Outcome := act (whenRunning collectionEnd) s

/-- The meaning of `NUMBERING_DONE`. -/
def execNumberingDone (s : State) : Outcome := act (whenRunning numberingEnd) s

/-- The meaning of `RUNAHEAD_COMPLETE`. -/
def execRunaheadComplete (s : State) : Outcome := act (whenRunning runaheadDone) s

/-- The meaning of `READY_COLLECTION_CLOSE`. -/
def execReadyCollectionClose (s : State) : Outcome := act (whenRunning readyClose) s

/-- `HOIST_REQUEST` (R170): at the Lead the trigger qualifies at once, elsewhere it goes to the Lead (R61). -/
def cmdHoistRequest (h : CmdHdr) (reason : Nat) (s : State) : State :=
  command 0x0501 h (toBE 1 reason) (fun s => acceptLong h 0x0501 0 0 (detect 0 reason 0) s) s

/-- The meaning of `HOIST_REQUEST`. -/
def execHoistRequest (h : CmdHdr) (reason : Nat) (s : State) : Outcome := act (whenServing (cmdHoistRequest h reason)) s

/-- Records in ascending vehicle number. -/
def byVehicle (l : List DirRec) : List DirRec :=
  (List.range 129).foldr (fun v acc => l.filter (fun r => r.vehicle == v) ++ acc) []

/-- `DIRECTORY_READ` (R167). -/
def cmdDirectoryRead (h : CmdHdr) (which : Nat) (s : State) : State :=
  command 0x0502 h (toBE 1 which) (fun s =>
    let st := s.rd HST_STATE.f
    let answer (state epoch : Nat) (l : List DirRec) : Ans :=
      ansOk s (toBE 1 state ++ toBE 2 epoch ++ toBE 2 l.length ++ zeros 2 ++ ((byVehicle l).map DirRec.bytes).foldr (· ++ ·) [])
    if which > 1 then ansRange s 0
    else match which == 1 && 1 ≤ st && st ≤ 4, s.hst.proposal with
      | true, some p => answer 1 p.epoch p.recs
      | _, _ => answer 0 (s.rd HST_EPOCH.f) s.hst.current) s

/-- The meaning of `DIRECTORY_READ`. -/
def execDirectoryRead (h : CmdHdr) (which : Nat) (s : State) : Outcome := act (whenServing (cmdDirectoryRead h which)) s

end Sys2Proof.Machine
end

