-- ==== Sys2Proof/Machine/TimeCmds.lean ====
section
/-!
DEFINITION. Commands and happenings of train time, track position and line phase (spec/06).
-/
namespace Sys2Proof.Machine
open Sys2Proof

/-! Train time. -/

/-- `TIME_READ` (R182). -/
def cmdTimeRead (h : CmdHdr) (s : State) : State :=
  command 0x0301 h [] (fun s =>
    ansOk s (toBE 8 (s.clk.now / 1000000000 % 2 ^ 48) ++ toBE 4 (s.clk.now % 1000000000) ++ toBE 1 s.timeQuality
      ++ toBE 1 s.timeSource)) s

/-- The meaning of `TIME_READ`. -/
def execTimeRead (h : CmdHdr) (s : State) : Outcome := act (whenServing (cmdTimeRead h)) s

/-- How many cycles a cycle number lies ahead of the current one (R108); 0 when it does not. -/
def State.ahead (s : State) (n : Nat) : Nat :=
  let d := (n + 2 ^ 32 - s.cycle % 2 ^ 32) % 2 ^ 32
  if d < 2 ^ 31 then d else 0

/-- `TIME_STEP` (R183): the step is a 64-bit two's complement number of ns. -/
def cmdTimeStep (h : CmdHdr) (cycle step : Nat) (s : State) : State :=
  command 0x0302 h (toBE 4 cycle ++ toBE 8 step) (fun s =>
    let d := s.ahead cycle
    let ns := toSigned 64 step
    if 1 ≤ d && d ≤ 3 then ansRange s 0
    else if ns = 0 || (s.clk.now : Int) + ns < 0 then ansRange s 4
    else if !s.isLead || d = 0 || s.on TIM_STEP_ARMED.f then ansConflict s
    else acceptLong h 0x0302 cycle 0 (armStep cycle ns) s) s

/-- The meaning of `TIME_STEP`. -/
def execTimeStep (h : CmdHdr) (cycle step : Nat) (s : State) : Outcome := act (whenServing (cmdTimeStep h cycle step)) s

/-- `TIME_REINTEGRATE` (R187): a further one changes nothing. -/
def cmdTimeReintegrate (h : CmdHdr) (s : State) : State :=
  command 0x0303 h [] (fun s =>
    if s.rd TCY_STATE.f != 8 then ansConflict s
    else ansOk { s with tim := { s.tim with reint := true } }) s

/-- The meaning of `TIME_REINTEGRATE`. -/
def execTimeReintegrate (h : CmdHdr) (s : State) : Outcome := act (whenServing (cmdTimeReintegrate h)) s

/-- Write the reference priority list: holdover begins at once, a new reference at its next event (R193). -/
def writeRefPrio (v : Nat) (s : State) : State := settleDomains (holdover (s.wr TIM_REF_PRIO.f v))

/-- A priority list that R190 admits. -/
def prioOk (v : Nat) : Bool :=
  let l := (List.range 5).map (fun i => bits v (4 * i) 4)
  let used := l.takeWhile (fun x => x != 0xF)
  used.all (fun x => x ≤ 4) && (l.drop used.length).all (fun x => x == 0xF) && used.eraseDups.length == used.length

/-- The first entry of a list of reference units that R190 refuses, by its index. -/
def badRefUnit : List Nat → List Nat → Nat → Option Nat
  | [], _, _ => none
  | u :: l, seen, i =>
    if u / 2048 != 0x0B || u % 2048 > 4 || seen.contains u then some i else badRefUnit l (u :: seen) (i + 1)

/-- The word that a list of at most five reference units spells, empty entries above. -/
def prioWord : Nat → List Nat → Nat
  | 0, _ => 0
  | n + 1, [] => 0xF + 16 * prioWord n []
  | n + 1, u :: l => u % 2048 % 16 + 16 * prioWord n l

/-- `REF_PRIORITY` (R190). -/
def cmdRefPriority (h : CmdHdr) (units : List Nat) (s : State) : State :=
  command 0x0304 h (toBE 1 units.length ++ units.flatMap (toBE 2)) (fun s =>
    if units.isEmpty || units.length > 5 then ansRange s 0
    else match badRefUnit units [] 0 with
      | some i => ansRange s (1 + 2 * i)
      | none => ansOk (writeRefPrio (prioWord 5 units) s)) s

/-- The meaning of `REF_PRIORITY`. -/
def execRefPriority (h : CmdHdr) (units : List Nat) (s : State) : Outcome := act (whenServing (cmdRefPriority h units)) s

/-- Narrow the slew limit (R181). -/
def writeSlew (ppb : Nat) (s : State) : State := clampSlew (s.wr TIM_SLEW_PPB.f ppb)

/-- `SERVO_LIMIT` (R181). -/
def cmdServoLimit (h : CmdHdr) (freeze ppb : Nat) (s : State) : State :=
  command 0x0305 h (toBE 1 freeze ++ toBE 4 ppb) (fun s =>
    if freeze > 1 then ansRange s 0
    else if ppb < 1 || ppb > s.rd TIM_SLEW_PPB.f then ansRange s 1
    else ansOk (writeSlew ppb (s.wr TIM_FREEZE.f freeze))) s

/-- The meaning of `SERVO_LIMIT`. -/
def execServoLimit (h : CmdHdr) (freeze ppb : Nat) (s : State) : Outcome := act (whenServing (cmdServoLimit h freeze ppb)) s

/-- The meaning of `TIM_SLEW_PPB`: a wider limit is refused (R181). -/
def execTimSlewPpb (ppb : Nat) (s : State) : Outcome :=
  act (whenRunning (fun s => if 1 ≤ ppb && ppb ≤ s.rd TIM_SLEW_PPB.f then writeSlew ppb s else s)) s

/-- The meaning of `TIM_FREEZE`. -/
def execTimFreeze (freeze : Nat) (s : State) : Outcome :=
  act (whenRunning (fun s => if freeze ≤ 1 then s.wr TIM_FREEZE.f freeze else s)) s

/-- The meaning of `DELAY_EXCHANGE_START`: one exchange on every trained lane (R177). -/
def execDelayExchangeStart (s : State) : Outcome :=
  act (whenRunning (fun s => (List.range 16).foldl (fun t m => if (t.lane m).trained then startDx m t else t) s)) s

/-- The meaning of `DELAY_EXCHANGE_VOID`: a frame is missing 200 µs after the request. -/
def execDelayExchangeVoid (mac : Nat) (s : State) : Outcome :=
  act (whenRunning (fun s => if mac < 16 && (s.dly mac).dx.isSome then voidDx mac s else s)) s

/-! References. -/

/-- The meaning of `PPS_PULSE`: an edge of input `edge % 2`, falling from 2 on. -/
def execPpsPulse (edge time : Nat) (s : State) : Outcome :=
  act (whenRunning (fun s => if edge < 4 then ppsPulse (edge % 2) (2 ≤ edge) time s else s)) s

/-- The meaning of `TOD_MESSAGE`. -/
def execTodMessage (input : Nat) (bytes : List Byte) (s : State) : Outcome :=
  act (whenRunning (fun s => if input < 2 then todMessage input bytes s else s)) s

/-- The meaning of `TOD_MESSAGE_TIMEOUT`: the pulse that waits for its message is missing (R195). -/
def execTodMessageTimeout (input : Nat) (s : State) : Outcome :=
  act (whenRunning (fun s => if input < 2 then todTimeout input s else s)) s

/-- The meaning of `PPS_LOSS_TIMEOUT`. -/
def execPpsLossTimeout (input : Nat) (s : State) : Outcome :=
  act (whenRunning (fun s => if input < 2 then refLost (input + 2) s else s)) s

/-- The meaning of `REFERENCE_WINDOW_END`: a window of 60 s or of 600 s. -/
def execReferenceWindowEnd (ref window : Nat) (s : State) : Outcome :=
  act (whenRunning (fun s =>
    if 2 ≤ ref && ref ≤ 4 && (window == 60 || window == 600) then refWindow ref (window == 600) s else s)) s

/-- The meaning of `PTP_MESSAGE_RECEIVE`. -/
def execPtpMessageReceive (m : PtpMsg) (s : State) : Outcome := act (whenRunning (ptpMessage m)) s

/-- The meaning of `ANNOUNCE_RECEIPT_TIMEOUT`. -/
def execAnnounceReceiptTimeout (port : Nat) (s : State) : Outcome :=
  act (whenRunning (fun s => if port < 48 && bit (s.rd TIM_PTP_EN.f) port then ptpTimeout port s else s)) s

/-- The meaning of `PTP_MESSAGE_INTERVAL`. -/
def execPtpMessageInterval (port kind : Nat) (s : State) : Outcome := act (whenRunning (ptpInterval port kind)) s

/-- The meaning of `PPS_OUT_PULSE`: `PPS_OUT` pulses where R211 allows it, and is held low otherwise. -/
def execPpsOutPulse (s : State) : Outcome :=
  act (whenRunning (fun s => if s.ppsOutAllowed then (s.emit (.pin .ppsOut 1)).emit (.pin .ppsOut 0) else s)) s

/-! Track position. -/

/-- This node's view of position as a read returns it: position, velocity and time, from one instant. -/
def State.positionNow (s : State) : Nat × Nat × Nat :=
  (ofSigned 64 (s.positionAt s.clk.now), ofSigned 64 s.pos.pnVel, s.ts)

/-- `POSITION_READ` (R205). -/
def cmdPositionRead (h : CmdHdr) (s : State) : State :=
  command 0x0306 h [] (fun s =>
    let (p, v, t) := s.positionNow
    ansOk s (toBE 8 p ++ toBE 8 v ++ toBE 1 s.pos.pnFlags ++ toBE 8 t)) s

/-- The meaning of `POSITION_READ`. -/
def execPositionRead (h : CmdHdr) (s : State) : Outcome := act (whenServing (cmdPositionRead h)) s

/-- Add a correction to the fused position and to the whole history (R207). -/
def correctPosition (d : Int) (s : State) : State := (shiftPosition d s).inc POS_BALISE_APPLIED.f

/-- `BALISE_CORRECT` (R207). -/
def cmdBaliseCorrect (h : CmdHdr) (position time : Nat) (s : State) : State :=
  command 0x0307 h (toBE 8 position ++ toBE 8 time) (fun s =>
    let back := compactDiff s.ts time
    if time % 2 ^ 30 > 999999999 || back < 0 || back > 1000000000 then ansRange s 8
    else if !s.on POS_ODO_DESIG.f then ansConflict s
    else match s.baliseDelta position time with
      | none => ansRange s 8
      | some d =>
        if s.pos.valid && d.natAbs > s.rd POS_BALISE_MAX_UM.f * 2 ^ 32 then ansRange (s.inc POS_BALISE_REFUSED.f) 0
        else ansOk (correctPosition d s)) s

/-- The meaning of `BALISE_CORRECT`. -/
def execBaliseCorrect (h : CmdHdr) (position time : Nat) (s : State) : Outcome :=
  act (whenServing (cmdBaliseCorrect h position time)) s

/-- The meaning of `AXLE_EDGE`. -/
def execAxleEdge (e : AxleEdge) (s : State) : Outcome := act (whenRunning (axleEdge e)) s

/-- The meaning of `SLIP_CHECK`. -/
def execSlipCheck (s : State) : Outcome := act (whenRunning slipCheck) s

/-- The meaning of `FUSION_UPDATE`. -/
def execFusionUpdate (s : State) : Outcome := act (whenRunning fusionUpdate) s

/-- Write an axle's wheel diameter and pulses per revolution: its step distance is computed anew and a new run starts (R213). -/
def writeAxle (n diam ppr : Nat) (s : State) : State :=
  newRun n ((s.wr (POS_AXn_DIAM_UM.f n) diam).wr (POS_AXn_PPR.f n) ppr)

/-- The meaning of `POS_AXN_DIAM_UM`: a value out of range is refused. -/
def execPosAxnDiamUm (axle diam ppr : Nat) (s : State) : Outcome :=
  act (whenRunning (fun s =>
    if axle < 4 && 200000 ≤ diam && diam ≤ 1500000 && 1 ≤ ppr && ppr ≤ 4096 then writeAxle axle diam ppr s else s)) s

/-! Line phase. -/

/-- A correction of the angle turned it back: no pass, and no entry takes the way back for a turn forward (R216). -/
def rebaseAngles (s : State) : State :=
  { s with sch := { s.sch with entries := s.sch.entries.map (fun e => { e with prevAngle := s.lineAngle / 65536 }) } }

/-- Line phase changes by `f`: the comparators have evaluated up to the instant, and evaluate the new angle and validity at once
(R216, R218). -/
def lineChange (f : State → State) (s : State) : State :=
  let s0 := evaluateAll false s
  let s1 := f s0
  let back := (s1.lineAngle + 2 ^ 32 - s0.lineAngle) % 2 ^ 32 ≥ 2 ^ 31
  evaluateAll false (if back then rebaseAngles s1 else s1)

/-- `PHASE_READ` (R209). -/
def cmdPhaseRead (h : CmdHdr) (s : State) : State :=
  command 0x0308 h [] (fun s =>
    ansOk s (toBE 4 s.lineAngle ++ toBE 4 (s.rd POS_LP_FREQ_MHZ.f) ++ toBE 1 (s.rd POS_LP_VALID.f))) s

/-- The meaning of `PHASE_READ`. -/
def execPhaseRead (h : CmdHdr) (s : State) : Outcome := act (whenServing (cmdPhaseRead h)) s

/-- The meaning of `LINE_CROSSING`. -/
def execLineCrossing (period amplitude : Nat) (s : State) : Outcome := act (whenRunning (lineChange (lineCrossing period amplitude))) s

/-- The meaning of `LINE_PERIOD_END`. -/
def execLinePeriodEnd (amplitude : Nat) (error : Int) (s : State) : Outcome :=
  act (whenRunning (lineChange (linePeriodEnd amplitude error))) s

/-- 200 ms without a crossing above the minimum amplitude (R209): automatic selection takes DC. -/
def dcDetect (s : State) : State :=
  if s.rd POS_LP_SYS.f == 0 && !s.pos.pll then restartLine (setLineValid false (s.wr POS_LP_DETECTED.f 4)) else s

/-- The meaning of `DC_DETECT`. -/
def execDcDetect (s : State) : Outcome := act (whenRunning (lineChange dcDetect)) s

/-- A write of the line system restarts detection (R213). -/
def writeLineSys (sys : Nat) (s : State) : State :=
  lineChange (fun t => restartLine (setLineValid false (t.wr POS_LP_SYS.f sys))) s

/-- The meaning of `POS_LP_SYS`: codes 5 to 7 are undefined. -/
def execPosLpSys (sys : Nat) (s : State) : Outcome :=
  act (whenRunning (fun s => if sys ≤ 4 then writeLineSys sys s else s)) s

/-! Latching reads (R489). -/

/-- The index of a read path among the latches. -/
def pathIdx : ReadPath → Nat
  | .cmd => 0 | .bar0HA => 1 | .bar0HB => 2 | .bar2HA => 3 | .bar2HB => 4

/-- A path carries a read now: BAR0 of an endpoint whose link is up returns zeros outside stages 3 and 4 (R487), and the
diagnostic window works without the processor (R55). -/
def State.pathOpen (s : State) : ReadPath → Bool
  | .cmd => s.sys.power == 3 && (s.sys.stage == 3 || s.sys.stage == 5)
  | .bar0HA => s.usable && s.cmd.ha.link
  | .bar0HB => s.usable && s.cmd.hb.link
  | .bar2HA => s.sys.power == 3 && s.cmd.ha.link
  | .bar2HB => s.sys.power == 3 && s.cmd.hb.link

/-- Word 0x008 of block `TIM` as a read of word 0x000 latches it. -/
def Clock.latch (c : Clock) : Nat := c.now % 1000000000 + c.frac % 2 ^ 32 * 2 ^ 32

/-- Change the latches of a path. -/
def State.setLatch (s : State) (i : Nat) (g : Latch → Latch) : State :=
  { s with cmd := { s.cmd with latches := modifyAt i g s.cmd.latches } }

/-- Latch train time on a path. -/
def latchTime (i : Nat) (s : State) : State := s.setLatch i (fun l => { l with tim := s.clk.latch })

/-- Latch velocity and time of the position on a path. -/
def latchPos (i : Nat) (s : State) : State :=
  s.setLatch i (fun l => { l with posVel := s.positionNow.2.1, posTime := s.positionNow.2.2 })

/-- `DIAG_ADDR` of an endpoint takes a parameter-space offset; its low three bits are ignored (R55). -/
def writeDiagAddr (hb : Bool) (off : Nat) (s : State) : State := s.setEp hb { s.ep hb with diagAddr := off % 2 ^ 64 / 8 * 8 }

/-- A read on a path names its word: on a diagnostic window by `DIAG_ADDR` (R55), elsewhere by its own address. -/
def aim (path : ReadPath) (off : Nat) (s : State) : State :=
  match path with
  | .bar2HA => writeDiagAddr false off s
  | .bar2HB => writeDiagAddr true off s
  | _ => s

/-- The meaning of `TIM_SEC_READ`: BAR2 and BAR0 answer without the command processor, BAR0 with zeros outside stages 3 and 4
(R55, R487). -/
def execTimSecRead (path : ReadPath) (s : State) : Outcome :=
  act (whenReleased (fun s =>
    if s.pathOpen path then
      (latchTime (pathIdx path) (aim path 0x40000 s)).emit (.words [s.clk.now / 1000000000 % 2 ^ 48])
    else s.emit (.words [0]))) s

/-- The meaning of `POS_POSITION_READ`. -/
def execPosPositionRead (path : ReadPath) (s : State) : Outcome :=
  act (whenReleased (fun s =>
    if s.pathOpen path then (latchPos (pathIdx path) (aim path 0x50008 s)).emit (.words [s.positionNow.1])
    else s.emit (.words [0]))) s

end Sys2Proof.Machine
end

