-- ==== Sys2Proof/Machine/Cycle.lean ====
section
/-!
DEFINITION. The train cycle: Pennants, the integration state machine, succession, slots and the boundary (spec/04; spec/06,
R179 to R188; spec/15, R448 to R450).
-/
namespace Sys2Proof.Machine
open Sys2Proof

/-! States (Table 04-7). -/

/-- Take a waiting slot frame off. -/
def dropWaiting (w : SlotOut) (s : State) : State :=
  { s with tcy := { s.tcy with waiting := s.tcy.waiting.erase w } }

/-- A frame of this node that has not left it yet. -/
def State.unsent (s : State) (f : BbFrame) : Bool := s.ownFrame f && f.hops == 0

/-- A node under R123 or R186 originates nothing more: its own frames that wait in queues or for an egress are dropped. -/
def purgeOwn (s : State) : State :=
  let s1 := (s.net.queue.filter (fun c => match s.ringOf c with | some f => s.unsent f | none => false)).foldl
    (fun t c => dropCopy c 57 (t.dequeue c)) s
  (s1.tcy.waiting.filter (fun w => w.rxTime.isNone)).foldl (fun t w =>
    let l := t.slotLane w.pe w.slot
    unref w.buf (stat (4 * w.pe + (if l < 4 then l else 0)) 57 1 (dropWaiting w t))) s1

/-- Enter a state of Table 04-7: a Lead that leaves LEAD leaves its Hoist machine and its reference, a node that becomes Lead
without one holds over (R193), and what depends on the state follows. -/
def enterState (st : Nat) (s : State) : State :=
  let s1 := if s.isLead && st != 6 then
      dropActive (((leaveLead s).wr TCY_LEAD_UID.f 0).wr TCY_LEAD_NODE.f 0)
    else s
  let s2 := holdover (s1.wr TCY_STATE.f st)
  let s3 := if s2.originSilent then bridgeSilence (purgeOwn s2) else s2
  (ptpRestrict (cancelProfile s3)).syncTime

/-- Raise `LEAD_CHANGE` (R141). -/
def raiseLeadChange (prev new c cause : Nat) (s : State) : State :=
  s.raise 0x0504 0 (toBE 2 prev ++ toBE 2 new ++ toBE 4 c ++ toBE 1 cause)

/-- Enter LISTEN: the Lead is forgotten and the listen timer starts. -/
def toListen (s : State) : State :=
  let s1 := if s.keepsCycle then leaveTrain s else s
  let s2 := disarmStep (((s1.wr TCY_LEAD_UID.f 0).wr TCY_LEAD_NODE.f 0).wr TCY_LEAD_LOST.f 0)
  enterState 1 { s2 with tcy := { s2.tcy with heard := false, lastAccepted := none, acceptedNow := false,
                                              missedNow := false, missed := 0, good := 0, mismatch := false } }

/-- Go SILENT (R123): cause 0 alignment error, 1 neighbour reports with the accusing neighbours. -/
def goSilent (cause n1 n2 : Nat) (s : State) : State :=
  let s1 := (s.inc TCY_SILENCED.f).raise 0x0507 0
    (toBE 1 cause ++ toBE 4 (s.rd TCY_ALIGN_ERR_NS.f) ++ toBE 2 n1 ++ toBE 2 n2)
  enterState 7 { s1 with tcy := { s1.tcy with accused := [] } }

/-- Clear directory, epoch and number with what the words say of them, the duplicate state (R84) and bridge order (R372) of the
epoch left, and
mark the slot bank invalid: the node stands under epoch 0x0000 (R163, R172). -/
def clearTrain (s : State) : State :=
  let b := SlotBank.reset
  let s1 : State :=
    { s with hst := { s.hst with current := [], previous := [], proposedSinceSwap := false },
             bkb := { s.bkb with dups := [] },
             tcy := { s.tcy with bankA := b, bankB := b, overlap := none } }
  let s2 := syncPlace (((s1.wr HST_EPOCH.f 0).wr TCY_SCHED_ID.f 0).wr TCY_SUCC_RANK.f 0)
  let s3 := (((s2.wr HST_MULTI_CAB.f 0).wr HST_INCOMPLETE.f 0).wr HST_LAST_SWAP_CYCLE.f 0).wr HST_PREV_EPOCH.f 0
  bridgeOverlapEnd (s3.wr TCY_COLD_EXCESS.f 0)

/-! The Pennant (R110 to R112). -/

/-- `PN_POLL` bytes as a number with bit n for slot n, and back. -/
def flipByte (b : Nat) : Nat := (List.range 8).foldl (fun a i => a + b2n (bit b (7 - i)) * 2 ^ i) 0
def pollOf (b : List Byte) : Nat := fromLE (b.map (fun x => BitVec.ofNat 8 (flipByte x.toNat)))
def pollBytes (p : Nat) : List Byte := (toLE 128 p).map (fun x => BitVec.ofNat 8 (flipByte x.toNat))

/-- The poll bitmap of the Lead for a cycle (R111). -/
def State.pollFor (s : State) (c : Nat) : Nat :=
  if s.tcy.bootstrap then 1
  else
    (s.slotBank.slots.filter (fun x => x.num != 0 && x.selected c && s.uidOfNode x.origin (s.rd HST_EPOCH.f) != 0)).foldl
      (fun a x => setBit a x.num true) 1

/-- An announcement that the Pennant of cycle c carries: its cycle lies ahead. -/
def carried (armed : Bool) (n c : Nat) : Bool := armed && cycleAhead n c

/-- The Pennant body of Table 04-2 for cycle c, with a correction. -/
def State.pennantBody (s : State) (c poll corr : Nat) : List Byte :=
  let (p, v, valid) := s.pennantPos c s.tcy.start
  let step := carried (s.on TIM_STEP_ARMED.f) (s.rd TIM_STEP_CYCLE.f) c
  let sleep := carried (s.on LAD_SLEEP_ARMED.f) (s.rd LAD_SLEEP_CYCLE.f) c
  let (sw, swCycle, swNext) := match s.tcy.switch with
    | some (n, k) => if cycleAhead n c then (true, n, k) else (false, 0, 0)
    | none => (false, 0, 0)
  let flags := b2n s.tcy.bootstrap + 2 * b2n step + 4 * b2n sleep + 8 * b2n sw + 16 * b2n s.tcy.successor
  toBE 4 c ++ toBE 6 (s.tcy.start / 1000000000) ++ toBE 4 (s.tcy.start % 1000000000) ++ toBE 2 flags
    ++ toBE 8 (s.rd HST_UID.f) ++ toBE 8 (ofSigned 64 p) ++ toBE 8 (ofSigned 64 v) ++ toBE 1 valid ++ toBE 1 s.timeSource
    ++ toBE 2 (s.rd TCY_CFG_ID.f) ++ toBE 2 (s.rd TCY_SCHED_ID.f) ++ toBE 2 swNext
    ++ toBE 4 (if step then s.rd TIM_STEP_CYCLE.f else 0) ++ toBE 8 (if step then s.rd TIM_STEP_NS.f else 0)
    ++ toBE 4 (if sleep then s.rd LAD_SLEEP_CYCLE.f else 0) ++ toBE 4 swCycle ++ toBE 8 corr ++ zeros 4 ++ pollBytes poll

/-- A Pennant's correction, and a Pennant with another. -/
def pnCorrection (b : List Byte) : Nat := beAt b 68 8
def setCorrection (b : List Byte) (o v : Nat) : List Byte := slice b 0 o ++ toBE 8 v ++ b.drop (o + 8)

/-- A correction grown by an ingress delay in ps and a residence in ns (R112). -/
def growCorrection (v delayPs resNs : Nat) : Nat :=
  ((v : Int) + roundOpen (delayPs * 65536 : Nat) 1000 + (resNs * 65536 : Nat)).toNat % 2 ^ 64

/-- The cycle start in local ns that a frame implies (R112). -/
def impliedStart (rxNs delayPs corr : Nat) : Int :=
  roundOpen ((rxNs : Int) * 65536000 - (delayPs * 65536 : Nat) - (corr * 1000 : Nat)) 65536000

/-- The plane-ends by which an own frame leaves, with their planes; a plane with both ends LOOPED brings it straight back. -/
def State.ownOuts (s : State) : List (Nat × Bool) :=
  [false, true].filterMap (fun y => (s.originOut y).map (fun p => (p, y)))

/-- Originate a slot frame or ring Pennant: held once in the buffer (R327, R329) for its egress on each plane.  It uses its
`RH_SEQ` when it enters the buffer, or when both planes bring it straight back (R75, R77). -/
def holdSlot (f : BbFrame) (s : State) : State :=
  let pes := s.ownOuts
  let back (t : State) : State := useSeq (t.incBy BKB_RETURNED.f (2 - pes.length))
  if pes.isEmpty then back s
  else match enterBuffer (.bb f) chainScheduled 255 pes.length none s with
    | none => s.inc MAC_SCHED_NOBUF.f
    | some (id, s1) =>
      let outs := pes.map (fun x => { slot := f.slot, pe := x.1, frame := { f with planeY := x.2 }, rxTime := none,
                                      rxDelay := 0, buf := id : SlotOut })
      back { s1 with tcy := { s1.tcy with waiting := s1.tcy.waiting ++ outs } }

/-- The Lead sends its Pennant of the current cycle (R111, R127, R132, R135). -/
def sendPennant (s : State) : State :=
  let c := s.cycle
  let body (corr : Nat) : List Byte := s.pennantBody c (s.pollFor c) corr
  let loc (t : State) (corr : Nat) : BbFrame := { localFrame t 0 (body corr) with slot := 0 }
  let corr := (s.clk.now - s.tcy.start) * 65536 % 2 ^ 64
  if s.tcy.bootstrap then s.presentEnds.foldl (fun t p => sendLocal p (loc t corr) t) s
  else
    let f := { ringFrame s 0 s.bkb.seq (body 0) with slot := 0 }
    let outs := s.ownOuts
    let s3 := if s.tcy.successor then
        outs.foldl (fun t x => sendLocal x.1 { f with planeY := x.2, body := body corr } t)
          (useSeq (s.incBy BKB_RETURNED.f (2 - outs.length)))
      else holdSlot f s
    (s3.presentEnds.filter (fun p => !s3.through p)).foldl (fun t p => sendLocal p (loc t corr) t) s3

/-- Position, poll and profiles from a Pennant (R205, R219, R224). -/
def pennantNews (c time : Nat) (pos vel : Int) (valid start : Nat) (profiles : Bool) (s : State) : State :=
  let s1 := evaluateAll true (takePennantPos pos vel valid start (evaluateAll false s))
  if profiles then evaluateProfiles c time pos vel (bit valid 0) s1 else s1

/-- The Lead starts a cycle: it sends the Pennant and takes it as its own. -/
def leadCycle (s : State) : State :=
  let c := s.cycle
  let (p, v, valid) := s.pennantPos c s.tcy.start
  let s1 := sendPennant s
  let s2 := { s1 with tcy := { s1.tcy with poll := s.pollFor c, lastAccepted := some c, acceptedNow := true } }
  pennantNews c (compact s2.tcy.start) p v valid s2.tcy.start true s2

/-! Acceptance (R128, R131, R179 to R187, R515). -/

/-- What takes effect with a cycle: the counts of `TCY_INTEG_CYCLES` and `TCY_LOST_CYCLES` (R140), and `STL_SELFTEST_EN` (R303). -/
def takeCounts (s : State) : State :=
  { s with tcy := { s.tcy with integ := s.rd TCY_INTEG_CYCLES.f, lost := s.rd TCY_LOST_CYCLES.f },
           eng := { s.eng with selftest := s.on STL_SELFTEST_EN.f } }

/-- The clock and the cycle are set from a Pennant (R131): integration, not a step. -/
def setTiming (c time : Nat) (start : Int) (s : State) : State :=
  let o : Int := (time : Int) - start
  let shift (t : Nat) : Nat := ((t : Int) + o).toNat
  let s1 := servoRestart (setClock (((s.clk.now : Int) + o).toNat) (evaluateAll false s))
  let s2 := dropMissedStep ((s1.wr TCY_CYCLE_NUM.f c).wr TCY_ALIGN_ERR_NS.f 0)
  let waits := s2.tcy.waiting.map (fun w => { w with rxTime := w.rxTime.map shift })
  evaluateAll false (takeCounts { s2 with
    tcy := { s2.tcy with start := time, good := 0, missedNow := false, cut := [], phaseDone := false, waiting := waits } })

/-- Enter REFUSING (R186). -/
def refuse (o : Int) (c time : Nat) (s : State) : State :=
  let s1 := ((s.wr TIM_REFUSED_NS.f (satSigned 32 o)).wr TIM_CONSIST_COUNT.f 0).inc TIM_REFUSALS.f
  enterState 8 ({ s1 with tim := { s1.tim with lastPn := some (c, time), reint := false } }.raise 0x0301 0
    (toBE 8 (ofSigned 64 o) ++ toBE 4 c))

/-- A node reaches SYNC.  During a collection whose Topology it has taken it sends its Record (R171); otherwise, without a number
under the Lead's epoch, it asks to join (Table 05-1). -/
def reachSync (epoch : Nat) (s : State) : State :=
  let s1 := enterState 5 s
  let taken := s1.hst.topology.filter s1.collecting
  if taken.isSome then (match taken with | some t => if t.sent then s1 else sendRecords t s1 | none => s1)
  else if s1.rd HST_NODE_NUM.f == 0 || s1.rd HST_EPOCH.f != epoch then detect 6 0 0 s1 else s1

/-- A Pennant in REFUSING (R187): whether the node leaves at it. -/
def refusingPennant (c time : Nat) (s : State) : Bool × State :=
  let stepped := s.tcy.steppedAt == some c
  let ok := match s.tim.lastPn with
    | some (k, t) => (k + 1) % 2 ^ 32 == c && !stepped
        && (compactDiff (compact time) (compact t) - (s.rd TCY_CYCLE_NS.f : Nat)).natAbs ≤ 100
    | none => false
  let n := if ok then Nat.min (s.rd TIM_CONSIST_COUNT.f + 1) 0xFFFF else 0
  let last := if stepped then none else some (c, time)
  let s1 := { s.wr TIM_CONSIST_COUNT.f n with tim := { s.tim with lastPn := last } }
  let want := s1.rd TIM_REFUSE_CONSIST.f
  (s.tim.reint || (want != 0 && n ≥ want), s1)

/-- The state machine at an accepted Pennant: `start` is the cycle start it implies in local ns, `epoch` its `RH_EPOCH`. -/
def pennantState (c time epoch : Nat) (start : Int) (s : State) : State :=
  let st := s.rd TCY_STATE.f
  let o := compactDiff (compact time) (compact start.toNat)
  let set (t : State) : State := enterState 4 (setTiming c time start t)
  let seen (t : State) : State :=
    { t.wr TCY_ALIGN_ERR_NS.f (satSigned 32 o) with tcy := { t.tcy with alignGood := o.natAbs ≤ 150 } }
  if st < 4 || st == 7 then set s
  else if st == 4 then
    (if o.natAbs > 150 then set s
     else
      let n := if o.natAbs ≤ 100 then s.tcy.good + 1 else 0
      let s1 := seen { s with tcy := { s.tcy with good := n } }
      if n ≥ s1.tcy.integ then reachSync epoch s1 else s1)
  else if st == 5 then
    (if o.natAbs > s.rd TIM_JUMP_NS.f && s.tcy.steppedAt != some c then refuse o c time (seen s)
     else if o.natAbs > 150 then goSilent 0 0 0 (seen s)
     else servoUpdate o (s.rd TCY_CYCLE_NS.f) (seen s))
  else if st == 8 then
    let (leave, s1) := refusingPennant c time (seen s)
    if leave then set ({ s1 with tim := { s1.tim with reint := false, lastPn := none } }.wr TIM_CONSIST_COUNT.f 0) else s1
  else s

/-- A sleep whose boundary the node missed is no longer armed. -/
def dropMissedSleep (s : State) : State :=
  if s.on LAD_SLEEP_ARMED.f && !cycleAhead (s.rd LAD_SLEEP_CYCLE.f) s.cycle then s.wr LAD_SLEEP_ARMED.f 0 else s

/-- The announcements of a Pennant (R111, R184, R449). -/
def takeAnnouncements (b : List Byte) (s : State) : State :=
  let flags := beAt b 14 2
  let c := beAt b 0 4
  let s0 := dropMissedSleep (dropMissedStep s)
  let s1 := if bit flags 1 && !s0.on TIM_STEP_ARMED.f && cycleAhead (beAt b 48 4) c then
      armStep (beAt b 48 4) (toSigned 64 (beAt b 52 8)) s0
    else s0
  let s2 := if bit flags 2 && !s1.on LAD_SLEEP_ARMED.f && cycleAhead (beAt b 60 4) c then
      let t := (s1.wr LAD_SLEEP_ARMED.f 1).wr LAD_SLEEP_CYCLE.f (beAt b 60 4)
      { t with lad := { t.lad with ackDue := true } }
    else s1
  if bit flags 3 && s2.tcy.switch.isNone && cycleAhead (beAt b 64 4) c then
    { s2.wr TCY_SCHED_ARMED.f 1 with tcy := { s2.tcy with switch := some (beAt b 64 4, beAt b 46 2) } }
  else s2

/-- The schedule of an accepted Pennant against the node's own (R128, R18, R161). -/
def takeSchedule (c sched : Nat) (s : State) : State :=
  let raise_ (clear : Bool) (t : State) : State :=
    t.raise 0x0202 0 (toBE 1 1 ++ toBE 1 0xFF ++ toBE 1 1 ++ toBE 2 sched ++ toBE 4 c) clear
  let s1 := if sched != s.rd TCY_SCHED_ID.f then
      let t := s.inc TCY_SCHED_MISMATCH.f
      let u := { t with tcy := { t.tcy with mismatch := true, mismatchRaised := true } }
      if s.tcy.mismatchRaised then u else raise_ false u
    else
      let u := { s with tcy := { s.tcy with mismatch := false, mismatchRaised := false } }
      if s.tcy.mismatchRaised then raise_ true u else u
  match s1.hst.proposal with
  | some p =>
    if s1.rd HST_STATE.f == 2 && sched == p.sched then
      let u := { s1 with hst := { s1.hst with newSched := s1.hst.newSched + 1 } }
      if u.hst.newSched ≥ 2 then missedCommit u else u
    else { s1 with hst := { s1.hst with newSched := 0 } }
  | none => s1

/-- Relay an accepted link-local or ring Pennant, or a Startup frame, out of the LOOPED, present plane-end of the same plane on
the other side (R127); `o` is where its correction stands.  The source address stays that of the node that sent it first.
DEDUCED, log entry 80. -/
def relayLocal (pe o rxTime delay : Nat) (f : BbFrame) (s : State) : State :=
  let other := if pe < 2 then pe + 2 else pe - 2
  if s.present other && !s.through other then
    let corr := growCorrection (beAt f.body o 8) delay (s.clk.now - rxTime)
    sendLocal other { f with dst := dstLinkLocal, linkLocal := true, seq := 0, hops := (f.hops + 1) % 65536,
                             body := setCorrection f.body o corr } s
  else s

/-- A foreign Pennant (R128, R163). -/
def foreignPennant (pe uid : Nat) (s : State) : State :=
  let s1 := s.inc TCY_FOREIGN_PN.f
  let known := s1.hst.yieldAt.isSome || s1.hst.held.any (fun t => t.foreign == uid)
  if uid < s1.rd TCY_LEAD_UID.f && !known then detect 3 pe uid s1 else s1

/-- The node may take the Pennant of a Lead (R128). -/
def State.leadOk (s : State) (uid flags : Nat) : Bool :=
  let st := s.rd TCY_STATE.f
  (st != 6 && (uid == s.rd TCY_LEAD_UID.f && uid != 0)) || (1 ≤ st && st ≤ 3) || st == 7
    || (st != 6 && bit flags 4 && s.on TCY_LEAD_LOST.f
        && s.hst.current.any (fun r => r.kind == 0 && r.uid == uid && bit r.flags 1))

/-- A Pennant that passed R81, and a ring Pennant R121, reaches the cycle unit.  A node in OFF runs no cycle unit.  A Pennant
of a cycle gone by, or of one whose Pennant was judged missed, ends no run of misses (R133), and counts as accepted for its
own cycle only (R116). -/
def takePennant (rx : RxBb) (s : State) : State :=
  let b := rx.frame.body
  let pe := rx.mac / 4
  let c := beAt b 0 4
  let flags := beAt b 14 2
  let uid := beAt b 16 8
  let time := beAt b 4 6 * 1000000000 + beAt b 10 4 % 2 ^ 30
  match s.laneDelay rx.mac with
  | none => s
  | some delay =>
    if s.rd TCY_STATE.f == 0 || b.length < 208 || (s.isLead && uid == s.rd HST_UID.f) then s
    else if beAt b 42 2 != s.rd TCY_CFG_ID.f then
      { s.inc TCY_CFG_MISMATCH.f with tcy := { s.tcy with heard := true } }
    else if !s.leadOk uid flags then foreignPennant pe uid s
    else if s.tcy.lastAccepted == some c && uid == s.rd TCY_LEAD_UID.f then s
    else
      let start := impliedStart rx.time delay (pnCorrection b)
      let st := s.rd TCY_STATE.f
      let prev := s.rd TCY_LEAD_UID.f
      let node := if rx.frame.epoch == 0 then 0 else s.nodeOfUid uid
      let s1 := if uid != prev && prev != 0 && bit flags 4 then raiseLeadChange (s.rd TCY_LEAD_NODE.f) node c 1 s else s
      let old := 4 ≤ st && st != 7 && !cycleAhead c s1.cycle && (c != s1.cycle || s1.tcy.missedNow)
      let latest := match s1.tcy.lastAccepted with | some k => uid != prev || cycleAhead c k | none => true
      let s2 := ((s1.wr TCY_LEAD_LOST.f 0).wr TCY_LEAD_UID.f uid).wr TCY_LEAD_NODE.f node
      let s3 : State := { s2 with tim := { s2.tim with pnSource := byteAt b 41 },
                                  tcy := { s2.tcy with missed := if old then s2.tcy.missed else 0,
                                                       poll := if latest then pollOf (b.drop 80) else s2.tcy.poll,
                                                       heard := true } }
      let s4 := relayLocal pe 68 rx.time delay rx.frame (takeAnnouncements b s3)
      let profiles := st == 5 || st == 7 || st == 8
      let pos := toSigned 64 (beAt b 24 8)
      let vel := toSigned 64 (beAt b 32 8)
      let s5 := if profiles then evaluateProfiles c (compact time) pos vel (bit (byteAt b 40) 0) s4 else s4
      let s6 := pennantState c time rx.frame.epoch start s5
      let s7 := { s6 with tcy := { s6.tcy with lastAccepted := if latest then some c else s6.tcy.lastAccepted,
                                               acceptedNow := s6.tcy.acceptedNow || c == s6.cycle } }
      (pennantNews c (compact time) pos vel (byteAt b 40) s7.tcy.start false (takeSchedule c (beAt b 44 2) s7)).syncTime

/-- A cycle passed without an accepted Pennant: the run of misses grows, the run of good cycles ends. -/
def notePennantMissed (s : State) : State :=
  { s with tcy := { s.tcy with missed := s.tcy.missed + 1, missedNow := true, good := 0 },
           hst := { s.hst with newSched := 0 } }

/-- A node judges the Pennant of the cycle missed (R133, Table 04-7). -/
def pennantMissed (s : State) : State :=
  let st := s.rd TCY_STATE.f
  if !(st == 4 || st == 5 || st == 7 || st == 8) || s.tcy.acceptedNow || s.tcy.missedNow || s.clk.now < s.msgStart then s
  else
    let n := s.tcy.missed + 1
    let s1 := notePennantMissed s
    let s2 := if st == 5 then s1.inc TCY_PN_MISSED.f else s1
    let s3 := if st == 8 then { s2.wr TIM_CONSIST_COUNT.f 0 with tim := { s2.tim with lastPn := none } } else s2
    let s4 := if n ≥ 2 && !s3.on TCY_LEAD_LOST.f then
        let t := { s3.wr TCY_LEAD_LOST.f 1 with tcy := { s3.tcy with lostAt := (s3.cycle + 2 ^ 32 - 1) % 2 ^ 32 } }
        match t.strikable, t.hst.proposal with
        | true, some p => takeStrike p.hoistId 5 t
        | _, _ => t
      else s3
    if (st == 4 && n ≥ 2) || ((st == 5 || st == 7) && n ≥ s4.tcy.lost) then toListen s4 else s4

/-- The meaning of `PENNANT_MISSED`. -/
def execPennantMissed (s : State) : Outcome := act (whenRunning pennantMissed) s

/-! Cold start (R126, R129, R130). -/

/-- One draw of the LFSR: eight steps. -/
def lfsrStep (v : Nat) : Nat :=
  (2 * v + b2n ((bit v 15 != bit v 13) != (bit v 12 != bit v 10))) % 65536
def lfsrDraw (v : Nat) : Nat := (List.range 8).foldl (fun a _ => lfsrStep a) v

/-- The seed of the LFSR from a unique ID. -/
def lfsrSeed (uid : Nat) : Nat :=
  let v := bits uid 48 16 ^^^ bits uid 32 16 ^^^ bits uid 16 16 ^^^ bits uid 0 16
  if v = 0 then 0x4E47 else v

/-- With the image's cycle section in force and a plane-end present, the cycle unit leaves OFF. -/
def listenStart (s : State) : State :=
  if s.rd TCY_STATE.f == 0 && (bit (s.rd GLB_IMAGE_SECTIONS.f) 1 || bit (s.rd GLB_CFG_SOURCE.f) 1) && !s.presentEnds.isEmpty then toListen s else s

/-- The meaning of `LISTEN_START`. -/
def execListenStart (s : State) : Outcome := act (whenRunning listenStart) s

/-- The listen timer expires: a capable node that has heard nothing draws its back-off. -/
def listenExpiry (s : State) : State :=
  if s.rd TCY_STATE.f != 1 || !s.on TCY_COLD_CAP.f then s
  else if s.tcy.heard then { s with tcy := { s.tcy with heard := false } }
  else
    let v := lfsrDraw s.tcy.lfsr
    enterState 2 { s with tcy := { s.tcy with lfsr := v, backoff := v % 256 } }

/-- The meaning of `LISTEN_TIMER_EXPIRY`. -/
def execListenTimerExpiry (s : State) : Outcome := act (whenRunning listenExpiry) s

/-- A Startup contest counts once: it is named by its unique ID and the time at which it was started (R127). -/
def hearStartup (uid time : Nat) (s : State) : State :=
  { s with tcy := { s.tcy with startupSeen := (uid, time) :: s.tcy.startupSeen.filter (fun x => x.1 != uid) } }

/-- The back-off expires: a Startup frame goes out of every present plane-end (R126). -/
def backoffExpiry (s : State) : State :=
  if s.rd TCY_STATE.f != 2 then s
  else
    let uid := s.rd HST_UID.f
    let f := localFrame s 3 (toBE 8 uid ++ toBE 4 (s.rd TCY_CYCLE_NS.f) ++ toBE 2 (s.rd TCY_CFG_ID.f) ++ zeros 2
      ++ toBE 6 (s.clk.now / 1000000000) ++ toBE 4 (s.clk.now % 1000000000) ++ zeros 14)
    let s1 := enterState 3 (hearStartup uid s.clk.now s)
    (s1.presentEnds.foldl (fun t p => sendLocal p f t) s1).inc TCY_STARTUP_TX.f

/-- The meaning of `BACKOFF_EXPIRY`. -/
def execBackoffExpiry (s : State) : Outcome := act (whenRunning backoffExpiry) s

/-- The contest timer expires: the node is Lead, and cycle 0 begins at the next 100 ns of its clock. -/
def contestExpiry (s : State) : State :=
  if s.rd TCY_STATE.f != 3 then s
  else
    let start := ceil100 s.clk.now
    let s1 := clearTrain s
    let s2 : State := { s1 with tcy := { s1.tcy with start := start, bootstrap := true, successor := false, missed := 0,
                                                     missedNow := false, cut := [], phaseDone := false, mismatch := false } }
    let s3 := (((takeCounts s2).wr TCY_CYCLE_NUM.f 0).wr TCY_LEAD_UID.f (s2.rd HST_UID.f)).wr TCY_LEAD_NODE.f 0
    leadCycle (enterLeadMachine 4 (enterState 6 (raiseLeadChange 0 0 0 0 (s3.wr TCY_ALIGN_ERR_NS.f 0))))

/-- The meaning of `CONTEST_TIMER_EXPIRY`. -/
def execContestTimerExpiry (s : State) : Outcome := act (whenRunning contestExpiry) s

/-- A Startup frame (R127, Table 04-7): the first copy of a contest counts.  One that came by a plane-end without a valid
delay is relayed with its residence alone added (DESIGN CHOICE, log entry 81: R178 speaks of Pennants there). -/
def takeStartup (rx : RxBb) (s : State) : State :=
  let uid := beAt rx.frame.body 0 8
  let time := beAt rx.frame.body 16 6 * 1000000000 + beAt rx.frame.body 22 4 % 2 ^ 30
  let st := s.rd TCY_STATE.f
  let own := s.rd HST_UID.f
  if st == 0 || st ≥ 4 then s.inc TCY_STARTUP_SEEN.f
  else if s.tcy.startupSeen.contains (uid, time) then s
  else
    let s1 := hearStartup uid time s
    let delay := match s1.laneDelay rx.mac with | some d => d | none => 0
    if st == 3 && uid ≥ own then s1
    else
      let s2 := relayLocal (rx.mac / 4) 26 rx.time delay rx.frame s1
      if st == 1 then { s2 with tcy := { s2.tcy with heard := false } }
      else if uid < own then
        toListen (if st == 3 then s2.inc TCY_STARTUP_LOST.f else s2)
      else s2

/-! Slots (R116 to R120). -/

/-- The node originates a slot in this cycle (R116), and whether under the second case. -/
def State.originates (s : State) (x : Slot) : Option Bool :=
  let st := s.rd TCY_STATE.f
  let c := s.cycle
  if !(st == 5 || st == 6) || !x.originate || x.num == 0 || s.tcy.mismatch || !s.slotsOn || s.tcy.cut.contains x.num then none
  else if s.tcy.acceptedNow then (if bit s.tcy.poll x.num then some false else none)
  else match s.tcy.lastAccepted with
    | some k =>
      let d := (c + 2 ^ 32 - k) % 2 ^ 32
      if (d == 1 || d == 2) && x.selected c then some true else none
    | none => none

/-- Window reports of this node's slot frames (R122): validity, then the four entries. -/
def State.windowReports (s : State) : List Byte :=
  let c := s.cycle
  let live (r : Option (Nat × Int)) : Bool := match r with | some (k, _) => (c + 2 ^ 32 - k) % 2 ^ 32 ≤ 2 | none => false
  let mask := laneMask (fun p => live (s.tcy.reports.getD p none))
  let entry (p : Nat) : List Byte := match s.tcy.reports.getD p none with
    | some (k, e) => if live (some (k, e)) then toBE 2 (k % 65536) ++ toBE 2 (ofSigned 16 (clampInt (-32767) 32767 e)) else zeros 4
    | none => zeros 4
  toBE 1 mask ++ entry 0 ++ entry 1 ++ entry 2 ++ entry 3

/-- The content of a slot at its cutoff (R118): status bits, process data, time of its release, and whether it is late. -/
def State.slotContent (s : State) (x : Slot) : Nat × List Byte × Nat × Bool :=
  let l := 128 * (x.publish / 2048 % 32) + x.publish % 128
  match s.eng.slots.find? (fun p => p.layout == l) with
  | none => (2, zeros (x.len - 66), 0, false)
  | some p => (if p.cycle == s.cycle then 1 else 0, fitBytes (x.len - 66) p.bytes, p.time, p.cycle != s.cycle)

/-- The origin takes a slot's content, 400 ns before its first egress, and readies its frame. -/
def slotCutoff (n : Nat) (s : State) : State :=
  match s.slot n with
  | none => s
  | some x => match s.originates x with
    | none => s
    | some fallback =>
      let (st, data, time, late) := s.slotContent x
      let body := toBE 4 s.cycle ++ toBE 2 (x.len - 66) ++ toBE 1 (st + 4 * b2n fallback) ++ s.windowReports ++ toBE 8 time ++ data
      let s1 := { s with tcy := { s.tcy with cut := n :: s.tcy.cut } }
      let s2 := if late then s1.inc TCY_LATE_PUBLISH.f else s1
      holdSlot { ringFrame s2 1 s2.bkb.seq body with slot := n } s2

/-- The meaning of `SLOT_CONTENT_CUTOFF`. -/
def execSlotContentCutoff (slot : Nat) (s : State) : Outcome := act (whenRunning (slotCutoff slot)) s

/-- The frame waiting for an egress. -/
def State.slotWaiting (s : State) (n p : Nat) : Option SlotOut := s.tcy.waiting.find? (fun w => w.slot == n && w.pe == p)

/-- A slot frame or Pennant that waits is not sent: it is counted (R120, R24). -/
def skipSlot (w : SlotOut) (s : State) : State :=
  let l := s.slotLane w.pe w.slot
  unref w.buf (stat (4 * w.pe + (if l < 4 then l else 0)) 55 1 ((dropWaiting w s).inc TCY_SKIP.f))

/-- A Pennant as it leaves: its correction grown by the delay and residence since it came in (R112).  The Lead's own has none
at its first egress, which stands at cycle start; where it leaves at a later one, it has been on its way since then. -/
def pennantOut (w : SlotOut) (s : State) : BbFrame :=
  if w.frame.kind != 0 then w.frame
  else
    let old := pnCorrection w.frame.body
    let corr := match w.rxTime with
      | some r => growCorrection old w.rxDelay (s.clk.now - r)
      | none => growCorrection old 0 ((s.egressOf w.slot w.pe).getD 0)
    { w.frame with body := setCorrection w.frame.body 68 corr }

/-- A waiting slot frame or Pennant reaches its egress (R120): launched from S to S + 200 ns, on the lane of the lane table.
One that the tables let out nowhere, or whose lane has left the group (R92), is not sent, and counted. -/
def slotEgress (n p : Nat) (s : State) : State :=
  match s.slotWaiting n p, s.slotAt n p with
  | some w, some t =>
    if s.clk.now < t || s.clk.now > t + 200 then s
    else
      let l := s.slotLane p n
      if !s.slotsOn || (s.tcy.mismatch && n != 0) || l == 255 then skipSlot w s
      else if !s.inGroup p l then unref w.buf (stat (4 * p + l) 60 1 ((dropWaiting w s).inc (BKB_PEp_LANEDROP.f p)))
      else
        let f := pennantOut w s
        let mac := 4 * p + l
        unref w.buf (countTx mac (wireLen (.bb f)) 1 ((dropWaiting w s).emit (.lane mac f)))
  | some w, none => skipSlot w s
  | none, _ => s

/-- The meaning of `SLOT_EGRESS`. -/
def execSlotEgress (slot pe : Nat) (s : State) : Outcome := act (whenRunning (slotEgress slot pe)) s

/-- A slot frame that cannot start by S + 200 ns is not sent (R120). -/
def slotSkip (n p : Nat) (s : State) : State :=
  match s.slotWaiting n p, s.slotAt n p with
  | some w, some t => if s.clk.now ≤ t + 200 then s else skipSlot w s
  | some w, none => skipSlot w s
  | none, _ => s

/-- The meaning of `SLOT_SKIP`. -/
def execSlotSkip (slot pe : Nat) (s : State) : Outcome := act (whenRunning (slotSkip slot pe)) s

/-! Windows and accusations (R121 to R123). -/

/-- Record an out-of-window arrival at a plane-end. -/
def noteReport (p : Nat) (err : Int) (s : State) : State :=
  { s with tcy := { s.tcy with reports := putAt p (some (s.cycle, err)) s.tcy.reports } }

/-- Count a copy out of window against its origin. -/
def countWindow (origin : Nat) (s : State) : State :=
  if origin = 0 || origin > 128 then s
  else
    let k := (origin - 1) / 4
    s.inc (match (origin - 1) % 4 with
      | 0 => TCY_WIN_DISC_k_0.f k | 1 => TCY_WIN_DISC_k_1.f k | 2 => TCY_WIN_DISC_k_2.f k | _ => TCY_WIN_DISC_k_3.f k)

/-- Two 16-bit cycle numbers lie within the same three consecutive cycles. -/
def near (a b : Nat) : Bool :=
  let d := (a + 65536 - b) % 65536
  d ≤ 2 || d ≥ 65534

/-- The accusers that R123 acts on: two different neighbours, or the only one on both planes. -/
def State.accusers (s : State) : Option (Nat × Nat) :=
  let l := s.tcy.accused
  let single := !((s.present 0 || s.present 1) && (s.present 2 || s.present 3))
  let pair := l.findSome? (fun a => (l.find? (fun b => a.1 != b.1 && near a.2.2 b.2.2)).map (fun b => (a.1, b.1)))
  match pair with
  | some x => some x
  | none =>
    if single then l.findSome? (fun a => (l.find? (fun b => a.1 == b.1 && a.2.1 != b.2.1 && near a.2.2 b.2.2)).map
      (fun _ => (a.1, 0)))
    else none

/-- A neighbour's slot frame carries reports of the ingress that faces this node (R122, R123). -/
def takeReports (f : BbFrame) (s : State) : State :=
  match recOfUid s.hst.current (s.rd HST_UID.f), (nodesOf s.hst.current).find? (fun r => r.node == f.origin) with
  | some me, some nb =>
    let isNb := (neighbour s.hst.current me 0 == some nb) || (neighbour s.hst.current me 1 == some nb)
    let e := nb.endFacing me.pos
    let b := f.body
    let news := ([0, 1].filter (fun y => bit (byteAt b 7) (2 * e + y))).map (fun y =>
      (nb.node, y, beAt b (8 + 4 * (2 * e + y)) 2))
    if !isNb || news.isEmpty then s
    else
      let keep := s.tcy.accused.filter (fun a => !news.any (fun n => n.1 == a.1 && n.2.1 == a.2.1))
      let s1 := { s with tcy := { s.tcy with accused := keep ++ news } }
      match s1.accusers with
      | some (a, b) => if s1.rd TCY_STATE.f == 5 || s1.rd TCY_STATE.f == 6 then goSilent 1 a b s1 else s1
      | none => s1
  | _, _ => s

/-! Commands (Table 02-6). -/

/-- `CYCLE_STATUS`. -/
def cmdCycleStatus (h : CmdHdr) (s : State) : State :=
  command 0x0503 h [] (fun s => ansOk s (toBE 4 s.cycle ++ toBE 1 (s.rd TCY_STATE.f) ++ toBE 4 (s.rd TCY_ALIGN_ERR_NS.f)
    ++ toBE 2 (s.rd TCY_LEAD_NODE.f))) s

/-- The meaning of `CYCLE_STATUS`. -/
def execCycleStatus (h : CmdHdr) (s : State) : Outcome := act (whenServing (cmdCycleStatus h)) s

/-- Announce a train sleep. -/
def announceSleep (cycle : Nat) (s : State) : State :=
  let t := (s.wr LAD_SLEEP_ARMED.f 1).wr LAD_SLEEP_CYCLE.f cycle
  { t with lad := { t.lad with acks := [] } }

/-- `TRAIN_SLEEP` (R448). -/
def cmdTrainSleep (h : CmdHdr) (cycle : Nat) (s : State) : State :=
  command 0x0504 h (toBE 4 cycle) (fun s =>
    let d := s.ahead cycle
    if 1 ≤ d && d ≤ 7 then ansRange s 0
    else if d = 0 || !s.isLead || s.on LAD_SLEEP_ARMED.f || !s.on LAD_SLEEP_EN.f then ansConflict s
    else acceptLong h 0x0504 cycle 0 (announceSleep cycle) s) s

/-- The meaning of `TRAIN_SLEEP`. -/
def execTrainSleep (h : CmdHdr) (cycle : Nat) (s : State) : Outcome := act (whenServing (cmdTrainSleep h cycle)) s

/-- Announce a schedule switch. -/
def announceSwitch (cycle sched : Nat) (s : State) : State :=
  let t := s.wr TCY_SCHED_ARMED.f 1
  { t with tcy := { t.tcy with switch := some (cycle, sched) } }

/-- `SCHEDULE_SWITCH` (R111, R137): the schedule is the one the Lead's shadow bank holds.  A shadow without a schedule, or
taken by a Hoist, leaves nothing to announce: `STATE_CONFLICT`.  DEDUCED, log entry 23. -/
def cmdScheduleSwitch (h : CmdHdr) (cycle : Nat) (s : State) : State :=
  command 0x0506 h (toBE 4 cycle) (fun s =>
    let b := s.slotShadow
    let hoist := 1 ≤ s.rd HST_STATE.f && s.rd HST_STATE.f ≤ 4
    let applied := s.sto.applyAt.any (fun a => bit a.mask 2)
    if s.ahead cycle = 0 || !s.isLead || s.tcy.switch.isSome || applied || hoist || !b.ready || b.faulty then ansConflict s
    else acceptLong h 0x0506 cycle 0 (announceSwitch cycle b.sched) s) s

/-- The meaning of `SCHEDULE_SWITCH`. -/
def execScheduleSwitch (h : CmdHdr) (cycle : Nat) (s : State) : Outcome := act (whenServing (cmdScheduleSwitch h cycle)) s

/-- The message phase of cycle n − 1 has ended: the Lead reports its count (R449). -/
def sleepAckClose (s : State) : State :=
  if s.isLead && s.on LAD_SLEEP_ARMED.f && (s.cycle + 1) % 2 ^ 32 == s.rd LAD_SLEEP_CYCLE.f && s.msgEnd ≤ s.clk.now then
    let n := s.lad.acks.length + b2n (s.on LAD_SLEEP_EN.f)
    cmdDoneAll 0x0504 (fun _ => true) stOk (fun _ => toBE 2 n) (s.wr LAD_ACKS.f n)
  else s

/-- The meaning of `SLEEP_ACK_CLOSE`. -/
def execSleepAckClose (s : State) : Outcome := act (whenRunning sleepAckClose) s

/-! Boundaries (R15, R105). -/

/-- The step armed for the cycle that starts applies (R184): the boundary does not move in real time. -/
def applyStep (s : State) : State :=
  if s.on TIM_STEP_ARMED.f && s.rd TIM_STEP_CYCLE.f == s.cycle then
    let d := s.rdS TIM_STEP_NS.f
    let s1 := moveClock d (evaluateAll false s)
    let s2 : State := { s1 with tcy := { s1.tcy with start := moveNs d s1.tcy.start, steppedAt := some s.cycle } }
    evaluateAll false (cmdDoneAll 0x0302 (fun _ => true) stOk (fun _ => toBE 4 s.cycle) ((disarmStep s2).inc TIM_STEPS.f))
  else s

/-- An announced schedule switch at its boundary (R111, R137): a node whose shadow does not hold the schedule goes on under
R128. -/
def applySwitch (s : State) : State :=
  match s.tcy.switch with
  | none => s
  | some (n, sched) =>
    if n != s.cycle then s
    else
      let s1 := { s.wr TCY_SCHED_ARMED.f 0 with tcy := { s.tcy with switch := none } }
      let b := s1.slotShadow
      let s2 := if b.ready && !b.faulty && b.sched == sched then
          clearPublished ((s1.wr TCY_SLOT_BANK.f (1 - s1.rd TCY_SLOT_BANK.f)).wr TCY_SCHED_ID.f sched)
        else s1
      cmdDoneAll 0x0506 (fun _ => true) stOk (fun _ => []) s2

/-- Frames whose slot has passed with the cycle never leave (R125). -/
def clearWaiting (s : State) : State :=
  s.tcy.waiting.foldl (fun t w => skipSlot w t) s

/-- The start of the yield cycle (R163): the train is left and the cycle unit starts afresh from OFF. -/
def yieldRestart (s : State) : State :=
  if s.hst.yieldAt != some s.cycle then s
  else
    let s1 := leaveTrain (if s.rd HST_STATE.f == 0 then s else hoistIdle s)
    let s2 := enterState 0 (clearPublished (clearTrain (disarmStep s1)))
    let s3 := (((((s2.wr TCY_CYCLE_NUM.f 0).wr TCY_ALIGN_ERR_NS.f 0).wr TCY_LEAD_NODE.f 0).wr TCY_LEAD_UID.f 0).wr
      TCY_LEAD_LOST.f 0).wr TCY_SCHED_ARMED.f 0
    let s4 := clearWaiting s3
    let s5 : State := { s4 with tcy := { CycleUnit.reset with lfsr := s3.tcy.lfsr },
                                hst := { s4.hst with yieldAt := none, yieldDue := none, proposal := none, swapAt := none, leftAt := none,
                                                     held := [], segments := [], commitAt := none } }
    (s5.inc HST_YIELDS.f).syncTime

/-- The successor's turn (R134). -/
def succession (s : State) : State :=
  let k := s.rd TCY_SUCC_RANK.f
  if s.on TCY_LEAD_LOST.f && s.rd TCY_STATE.f == 5 && k != 0 && s.cycle == (s.tcy.lostAt + 1 + k) % 2 ^ 32 && s.tcy.alignGood
      && s.rd HST_EPOCH.f != 0 then
    let num := s.rd HST_NODE_NUM.f
    let prev := s.rd TCY_LEAD_NODE.f
    let s1 := (((s.wr TCY_LEAD_UID.f (s.rd HST_UID.f)).wr TCY_LEAD_NODE.f num).wr TCY_LEAD_LOST.f 0).wr TCY_SUCC_RANK.f 0
    let s2 : State := { s1.inc TCY_SUCCESSIONS.f with tcy := { s1.tcy with successor := true, bootstrap := false, missed := 0 } }
    enterLeadMachine 5 (enterState 6 (raiseLeadChange prev num s.cycle 1 s2))
  else s

/-- The train sleeps at its boundary (R450); a node with `LAD_SLEEP_EN` clear stays awake. -/
def sleepBoundary (s : State) : State :=
  if s.on LAD_SLEEP_ARMED.f && s.rd LAD_SLEEP_CYCLE.f == s.cycle then
    (if s.on LAD_SLEEP_EN.f then enterBog s else s.wr LAD_SLEEP_ARMED.f 0)
  else s

/-- The cycle after the current one begins; its Pennant counts as accepted if it has come already. -/
def nextCycle (s : State) : State :=
  let t := s.tcy
  let s1 := s.wr TCY_CYCLE_NUM.f (s.cycle + 1)
  { s1 with
      tcy := { t with start := t.start + s.rd TCY_CYCLE_NS.f, acceptedNow := t.lastAccepted == some ((s.cycle + 1) % 2 ^ 32),
                      missedNow := false, cut := [], phaseDone := false, mismatch := false,
                      integ := s.rd TCY_INTEG_CYCLES.f, lost := s.rd TCY_LOST_CYCLES.f },
      eng := { s.eng with selftest := s.on STL_SELFTEST_EN.f } }


end Sys2Proof.Machine
end

