-- ==== Sys2Proof/Machine/Legacy.lean ====
section
/-!
DEFINITION. The legacy buses (spec/11): MVB, WTB, CAN FD and RS-485 controllers as sources and sinks of messages.
-/
namespace Sys2Proof.Machine
open Sys2Proof

/-! Ports 80 to 115 (R340). -/

/-- Bring OPER of a legacy port to what it has come to, and report a change of link from `was`. -/
def legSettle (p : Nat) (was : Bool) (s : State) : State :=
  let s1 := s.setOper (unitId 1 p) (s.legOper p)
  if s1.legLink p = was then s1
  else s1.raise 0x0C01 (unitId 1 p) (toBE 1 (b2n (s1.legLink p)) ++ toBE 1 5 ++ toBE 1 (s1.legOper p))

/-- A line of MVB or WTB has received a good frame. -/
def lineGood (p : Nat) (s : State) : State :=
  if s.leg.lines.contains p then s
  else legSettle p false { s with leg := { s.leg with lines := p :: s.leg.lines } }

/-- The trusted line follows a line that is disabled or `DOWN` while the other is not (R348). -/
def settleTrust (c : Nat) (s : State) : State :=
  let good (l : Nat) : Bool := s.cfgOf (unitId 1 (80 + 2 * c + l)) == 1 && s.legLink (80 + 2 * c + l)
  let t := s.rd (LEG_MVBc_TRUST.f c)
  if !good t && good (1 - t) then (s.wr (LEG_MVBc_TRUST.f c) (1 - t)).inc (LEG_MVBc_SWITCH.f c) else s

/-- The meaning of `LINE_LINK_TIMEOUT`: no good frame for 100 ms on an MVB or WTB line. -/
def execLineLinkTimeout (port : Nat) (s : State) : Outcome :=
  act (whenRunning (fun s =>
    if 80 ≤ port ∧ port < 92 ∧ s.leg.lines.contains port then
      let s1 := legSettle port true { s with leg := { s.leg with lines := s.leg.lines.filter (· != port) } }
      if port < 88 then settleTrust ((port - 80) / 2) s1 else s1
    else s)) s

/-! Instances (R341, R342). -/

/-- Train time of a frame end, at 10 ns resolution. -/
def State.frameEnd (s : State) : Nat := s.clk.now / 10 * 10

/-- Deliver a legacy message. -/
def deliverLegacy (port m : Nat) (payload : List Byte) (s : State) : State :=
  deliverMsg (0x01000000 + port * 65536 + m) payload (compact s.frameEnd) 0 [] none s.tagNow s.clk.now s

/-- An accepted frame ends the silence of an entry. -/
def endSilence (bus unit entry : Nat) (s : State) : State :=
  { s with leg := { s.leg with silent := s.leg.silent.filter (fun x => x != (bus, unit, entry)) } }

/-- The message number of a CAN table entry (Table 11-1). -/
def State.canNum (s : State) (k i : Nat) : Nat := if s.on (CM_IDE.f k i) then 0x8000 + i else s.rd (CM_ID.f k i)

/-- A controller has a line enabled. -/
def State.mvbOn (s : State) (c : Nat) : Bool := c < 4 && (s.on (LEG_MVBc_EN_A.f c) || s.on (LEG_MVBc_EN_B.f c))

/-- A controller of a bus becomes active, its receive entries with it: their silences start anew (R342). -/
def activate (bus unit : Nat) (s : State) : State :=
  { s with leg := { s.leg with silent := s.leg.silent.filter (fun x => !(x.1 == bus && x.2.1 == unit)) } }

/-- The port and message number of a receive entry of an enabled controller that has a timeout, and its timeout counter; none when
there is none. -/
def State.timedEntry (s : State) (bus unit entry : Nat) : Option (Nat × Nat × Fld) :=
  match bus with
  | 0 => if s.mvbOn unit && entry < 1024 && s.on (MP_VALID.f unit entry) && !s.on (MP_SOURCE.f unit entry)
          && s.rd (MP_TMO.f unit entry) != 0 then
        some (80 + 2 * unit, s.rd (MP_ADDR.f unit entry), LEG_MVBc_TMO.f unit) else none
  | 1 => if s.rd LEG_WTB_PD_TMO.f != 0 && 1 ≤ entry && entry ≤ 63
          && (s.on (LEG_WTB_FNk_VALID.f entry) || (s.rd LEG_WTB_STATE.f == 1 && entry ≤ s.leg.foreignBefore)) then
        some (88, entry, LEG_WTB_TMO.f) else none
  | 2 => if unit < 12 && s.on (LEG_CANk_CFG_EN.f unit) && entry < 128 && s.on (CM_VALID.f unit entry) && !s.on (CM_TX.f unit entry)
          && s.rd (CM_TMO.f unit entry) != 0 then
        some (92 + unit, s.canNum unit entry, LEG_CANk_TMO.f unit) else none
  | 3 => if unit < 12 && s.on (LEG_SERs_CFG_EN.f unit) && entry < 64 && s.on (SE_VALID.f unit entry) && !s.on (SE_TX.f unit entry)
          && s.rd (SE_TMO.f unit entry) != 0 then
        some (104 + unit, entry, LEG_SERs_TMO.f unit) else none
  | _ => none

/-- A receive entry has been silent for its timeout: one empty instance per silence (R342). -/
def receiveTimeout (bus unit entry : Nat) (s : State) : State :=
  match s.timedEntry bus unit entry with
  | none => s
  | some (port, m, tmo) =>
    if s.leg.silent.contains (bus, unit, entry) then s
    else deliverLegacy port m [] ({ s with leg := { s.leg with silent := (bus, unit, entry) :: s.leg.silent } }.inc tmo)

/-- The meaning of `RECEIVE_TIMEOUT`: bus 0 MVB, 1 WTB, 2 CAN, 3 RS-485. -/
def execReceiveTimeout (bus unit entry : Nat) (s : State) : Outcome :=
  act (whenRunning (receiveTimeout bus unit entry)) s

/-! MVB (R344 to R349). -/

/-- Bytes of an F-code 0 to 4. -/
def fcodeBytes (f : Nat) : Nat := 2 ^ (f + 1)

/-- The slave frame that a source port answers with, when its image has been released (R347). -/
def State.mvbAnswer (s : State) (c fcode addr : Nat) : Option TxImage :=
  match s.mvbEntry c addr true with
  | some i => if s.rd (MP_FCODE.f c i) = fcode && s.gateOpen (s.mvbGated c) then s.txImage (80 + 2 * c) addr else none
  | none => none

/-- Send a source port's slave frame: its image counts as sent. -/
def sendSlave (c fcode addr : Nat) (x : TxImage) (s : State) : State :=
  (s.setTxImage { x with unsent := false }).emit (.mvb c 1 fcode addr x.bytes)

/-- Send the master frames of the polls that are left, up to the first that awaits another device's reply; a port of the
node's own with an image is answered at once. -/
def pollNext (c : Nat) : List (Nat × Nat) → State → State
  | [], s => { s with leg := { s.leg with polls := putAt c [] s.leg.polls } }
  | (f, a) :: rest, s =>
    let s1 := s.emit (.mvb c 0 f a [])
    match s1.mvbAnswer c f a with
    | some x => pollNext c rest (sendSlave c f a x s1)
    | none => { s1 with leg := { s1.leg with polls := putAt c ((f, a) :: rest) s1.leg.polls } }

/-- The polls of basic period j in ascending table index (R345). -/
def State.pollsOf (s : State) (c j : Nat) : List (Nat × Nat) :=
  ((List.range 1024).filter (fun i => s.on (MP_VALID.f c i) && s.on (MP_POLL.f c i)
    && j % 2 ^ s.rd (MP_PERIOD.f c i) == s.rd (MP_PHASE.f c i))).map
      (fun i => (s.rd (MP_FCODE.f c i), s.rd (MP_ADDR.f c i)))

/-- An MVB basic period starts. -/
def basicPeriod (c : Nat) (s : State) : State :=
  if !s.mvbOn c then s
  else
    let j := s.leg.periods.getD c 0
    let s1 := { s with leg := { s.leg with periods := putAt c ((j + 1) % 1024) s.leg.periods,
                                           starts := putAt c s.clk.up s.leg.starts } }
    if s1.on (LEG_MVBc_MASTER.f c) then pollNext c (s1.pollsOf c j) s1 else s1

/-- The meaning of `MVB_BASIC_PERIOD`. -/
def execMvbBasicPeriod (c : Nat) (s : State) : Outcome := act (whenRunning (basicPeriod c)) s

/-- An errored frame on a line. -/
def mvbError (c line : Nat) (s : State) : State := s.inc (if line = 0 then LEG_MVBc_ERR_A.f c else LEG_MVBc_ERR_B.f c)

/-- A frame arrives on lines of a controller, masks of bit 0 for A and bit 1 for B: errors count per line, and it is taken from
the trusted line, which changes when the frame is good on the other line only (R348).  The flag says that it is taken. -/
def mvbArrive (c lines good : Nat) (s0 : State) : State × Bool :=
  let en (l : Nat) : Bool := s0.on (if l = 0 then LEG_MVBc_EN_A.f c else LEG_MVBc_EN_B.f c)
  let here (l : Nat) : Bool := en l && bit lines l
  let ok (l : Nat) : Bool := here l && bit good l
  let one (t : State) (l : Nat) : State := if ok l then lineGood (80 + 2 * c + l) t else if here l then mvbError c l t else t
  let s := one (one s0 0) 1
  let t := s.rd (LEG_MVBc_TRUST.f c)
  if ok t then (s, true)
  else if ok (1 - t) then ((s.wr (LEG_MVBc_TRUST.f c) (1 - t)).inc (LEG_MVBc_SWITCH.f c), true)
  else (s, false)

/-- Symbols arrive on lines of a controller that has one enabled. -/
def mvbWake (c lines : Nat) (s : State) : State :=
  if s.mvbOn c then wakeLegacy (((List.range 2).filter (bit lines)).map (80 + 2 * c + ·)) s else s

/-- A master frame arrives: a source port, device status or offered mastership is answered, and what is not supported is
ignored and counted (Table 11-3, R347, R349).  The words of device status are not in the spec. -/
def masterFrame (c fcode addr lines : Nat) (s0 : State) : State :=
  let s := mvbWake c lines s0
  if !s.mvbOn c then s
  else match mvbArrive c lines (lines / 4) s with
    | (s1, false) => s1
    | (s1, true) =>
      let mine := addr == s1.rd (LEG_MVBc_DEVADDR.f c) && s1.gateOpen (s1.mvbGated c)
      if fcode ≤ 4 then
        (match s1.mvbAnswer c fcode addr with
        | some x => sendSlave c fcode addr x s1
        | none => s1)
      else if fcode = 15 || fcode = 8 then
        if mine && (fcode = 15 || s1.on (LEG_MVBc_ADMIN.f c)) then
          let (v, s2) := takeFree 16 s1
          let s3 := if fcode = 8 then s2.wr (LEG_MVBc_MASTER.f c) 1 else s2
          s3.emit (.mvb c 1 fcode addr (toBE 2 v))
        else s1
      else s1.inc (LEG_MVBc_IGNORED.f c)

/-- The meaning of `MVB_MASTER_FRAME_RECEIVE`. -/
def execMvbMasterFrameReceive (c fcode addr lines : Nat) (s : State) : Outcome :=
  act (whenRunning (masterFrame c fcode addr lines)) s

/-- The poll under way is over; the next master frame follows (R345). -/
def pollDone (c : Nat) (s : State) : State := pollNext c ((s.leg.polls.getD c []).drop 1) s

/-- A slave frame: `lines` says on which lines it arrived (bit 0 A, bit 1 B), `goodA` and `goodB` on which it passed its
checks; one that has not the bytes of its F-code passes them on none. -/
def slaveFrame (c lines fcode addr : Nat) (data : List Byte) (goodA goodB : Bool) (s0 : State) : State :=
  let s := mvbWake c lines s0
  let whole := fcode > 4 || data.length = fcodeBytes fcode
  if !s.mvbOn c then s
  else match mvbArrive c lines (if whole then b2n goodA + 2 * b2n goodB else 0) s with
    | (s1, false) => s1
    | (s1, true) =>
      let s2 := match s1.mvbEntry c addr false with
        | some i => if s1.rd (MP_FCODE.f c i) = fcode then deliverLegacy (80 + 2 * c) addr data (endSilence 0 c i s1) else s1
        | none => s1
      match s2.leg.polls.getD c [] with
      | [] => s2
      | (f, a) :: _ => if f = fcode && a = addr then pollDone c s2 else s2

/-- The meaning of `MVB_SLAVE_FRAME_RECEIVE`. -/
def execMvbSlaveFrameReceive (c line fcode addr : Nat) (data : List Byte) (goodA goodB : Bool) (s : State) : Outcome :=
  act (whenRunning (slaveFrame c line fcode addr data goodA goodB)) s

/-- A poll gets no reply (R347). -/
def replyTimeout (c : Nat) (s : State) : State :=
  if c < 4 && !(s.leg.polls.getD c []).isEmpty then
    pollDone c (if s.on (LEG_MVBc_MASTER.f c) then s.inc (LEG_MVBc_NOREPLY.f c) else s)
  else s

/-- The meaning of `MVB_REPLY_TIMEOUT`. -/
def execMvbReplyTimeout (c : Nat) (s : State) : Outcome := act (whenRunning (replyTimeout c)) s

/-- No master frame for `LEG_MVBc_SILENCE_US`: an active administrator takes mastership (R349). -/
def silenceTakeover (c : Nat) (s : State) : State :=
  if s.mvbOn c && s.on (LEG_MVBc_ADMIN.f c) && !s.on (LEG_MVBc_MASTER.f c) && s.gateOpen (s.mvbGated c) then
    (s.wr (LEG_MVBc_MASTER.f c) 1).inc (LEG_MVBc_TAKEOVERS.f c)
  else s

/-- The meaning of `MVB_SILENCE_TAKEOVER`. -/
def execMvbSilenceTakeover (c : Nat) (s : State) : Outcome := act (whenRunning (silenceTakeover c)) s

/-! WTB (R350 to R353). -/

/-- The WTB node has a role and a line: not gated off, not configured off. -/
def State.wtbOn (s : State) : Bool :=
  s.rd LEG_WTB_ROLE.f != 0 && s.rd LEG_WTB_LINE_EN.f != 0 && s.gateOpen s.wtbGated

/-- An inauguration starts: the foreign table empties (R352); the foreign positions it had are remembered for R353. -/
def inaugStart (s0 : State) : State :=
  let s := wakeLegacy [88, 89, 90, 91] s0
  if !s.wtbOn then s
  else
    let n := if s.rd LEG_WTB_STATE.f = 2 then s.rd LEG_WTB_FOREIGN.f else s.leg.foreignBefore
    (clearForeign { s with leg := { s.leg with foreignBefore := n } }).wr LEG_WTB_STATE.f 1

/-- The meaning of `WTB_INAUGURATION_START`. -/
def execWtbInaugurationStart (s : State) : Outcome := act (whenRunning inaugStart) s

/-- Enter a list of nodes as the positions from k on (R352). -/
def fillForeign : Nat → List WtbNode → State → State
  | _, [], s => s
  | k, n :: ns, s =>
    let s1 := (((s.wr (LEG_WTB_FNk_VALID.f k) 1).wr (LEG_WTB_FNk_ADDR.f k) n.addr).wrB (LEG_WTB_FNk_INV.f k)
      n.inverse).wr (LEG_WTB_FNk_KEY.f k) n.key
    fillForeign (k + 1) ns s1

/-- Good frames have arrived on lines of the WTB node, bit n for port 88 + n (R340). -/
def wtbLines (lines : Nat) (s : State) : State :=
  ((List.range 4).filter (fun n => bit lines n && s.cfgOf (unitId 1 (88 + n)) == 1)).foldl (fun t n => lineGood (88 + n) t) s

/-- An inauguration completes: the foreign table, its words, and Hoist trigger 0x07 (R353). -/
def inaugComplete (w : WtbInaug) (s0 : State) : State :=
  let s := wtbLines w.lines s0
  if s.rd LEG_WTB_STATE.f != 1 then s
  else
    let dir2 := s.on LEG_WTB_FOREIGN_DIR.f
    let theirs := (if dir2 then w.dir2 else w.dir1).take 63
    let others := if dir2 then w.dir1 else w.dir2
    let before := s.leg.foreignBefore
    let s1 := fillForeign 1 theirs (clearForeign s)
    let s2 := ((((((s1.wr LEG_WTB_STATE.f 2).wrB LEG_WTB_MASTER.f w.master).wrB LEG_WTB_END_NODE.f w.endNode).wr
      LEG_WTB_ADDR.f w.addr).wr LEG_WTB_FOREIGN.f theirs.length).wr LEG_WTB_NODES.f
        (1 + w.dir1.length + w.dir2.length)).wr LEG_WTB_OTHERSIDE.f others.length
    let s3 := { s2.inc LEG_WTB_INAUGS.f with
                leg := { s2.leg with foreignBefore := 0, silent := s2.leg.silent.filter (fun x => x.1 != 1) } }
    if before != 0 || !theirs.isEmpty then detect 0x07 0 0 s3 else s3

/-- The meaning of `WTB_INAUGURATION_COMPLETE`. -/
def execWtbInaugurationComplete (w : WtbInaug) (s : State) : Outcome := act (whenRunning (inaugComplete w)) s

/-- A process data frame, good on the lines of a mask: one from a foreign position becomes an instance (R353). -/
def processData (addr : Nat) (data : List Byte) (lines : Nat) (s0 : State) : State :=
  let good := lines % 16 != 0 && data.length ≤ 128
  let s := (wakeLegacy [88, 89, 90, 91] s0).when good (wtbLines lines)
  if s.rd LEG_WTB_STATE.f != 2 then s
  else if !good then s.inc LEG_WTB_ERR.f
  else match (List.range 64).find? (fun k => 1 ≤ k && s.on (LEG_WTB_FNk_VALID.f k) && s.rd (LEG_WTB_FNk_ADDR.f k) == addr) with
    | some k => deliverLegacy 88 k data (endSilence 1 0 k s)
    | none => s

/-- The meaning of `WTB_PROCESS_DATA_RECEIVE`. -/
def execWtbProcessDataReceive (addr : Nat) (data : List Byte) (lines : Nat) (s : State) : Outcome :=
  act (whenRunning (processData addr data lines)) s

/-- The node's own process data goes out in its individual period: zeros before the first release (R351). -/
def ownFrame (s : State) : State :=
  if s.rd LEG_WTB_STATE.f != 2 then s
  else match s.txImage 88 0 with
    | some x => (s.setTxImage { x with unsent := false }).emit (.wtb x.bytes)
    | none => s.emit (.wtb (zeros (s.rd LEG_WTB_FRAME_SIZE.f)))

/-- The meaning of `WTB_OWN_FRAME_SEND`. -/
def execWtbOwnFrameSend (s : State) : Outcome := act (whenRunning ownFrame) s

/-! CAN FD (R354 to R357). -/

/-- Error state by the counters: 0 active, 1 passive. -/
def canEstate (tec rec : Nat) : Nat := if tec ≥ 128 || rec ≥ 128 then 1 else 0

/-- Set the error counts and state of a controller, with OPER and link. -/
def setCanErrors (k tec rec est : Nat) (s : State) : State :=
  let was := s.legLink (92 + k)
  legSettle (92 + k) was (((s.wr (LEG_CANk_TEC.f k) tec).wr (LEG_CANk_REC.f k) rec).wr (LEG_CANk_ESTATE.f k) est)

/-- The controller takes part in the bus. -/
def State.canOn (s : State) (k : Nat) : Bool := k < 12 && s.on (LEG_CANk_CFG_EN.f k) && s.rd (LEG_CANk_ESTATE.f k) != 2

/-- A frame received without error lowers the receive error count (ISO 11898-1, PRESUMED, log entry 68): by one, and from above 127 to a
value between 119 and 127. -/
def canRxGood (k : Nat) (s : State) : State :=
  let r := s.rd (LEG_CANk_REC.f k)
  let t := s.rd (LEG_CANk_TEC.f k)
  if r = 0 then s
  else if r ≤ 127 then setCanErrors k t (r - 1) (canEstate t (r - 1)) s
  else
    let (v, s1) := takeFree 8 s
    let r1 := 119 + v % 9
    setCanErrors k t r1 (canEstate t r1) s1

/-- The receive entry of a controller that a frame's identifier and format match (R354). -/
def State.canMatch (s : State) (k id ide fdf : Nat) : Option Nat :=
  (List.range 128).find? (fun i => s.on (CM_VALID.f k i) && !s.on (CM_TX.f k i) && s.rd (CM_ID.f k i) == id
    && s.rd (CM_IDE.f k i) == ide && s.rd (CM_FDF.f k i) == fdf)

/-- A CAN frame is received (R354, R356). -/
def canFrame (k id ide fdf rtr : Nat) (data : List Byte) (s0 : State) : State :=
  let s := if k < 12 then wakeLegacy [92 + k] s0 else s0
  if !s.canOn k || data.length > (if fdf = 1 then 64 else 8) then s
  else if fdf = 1 && !s.on (LEG_CANk_FD_EN.f k) then s.inc (LEG_CANk_ERRFRAMES.f k)
  else
    let s1 := canRxGood k s
    if rtr = 1 then s1.inc (LEG_CANk_REMOTE.f k)
    else match s1.canMatch k id ide fdf with
      | none => s1.inc (LEG_CANk_NOMATCH.f k)
      | some i =>
        let s2 := if data.length != s1.rd (CM_LEN.f k i) then s1.inc (LEG_CANk_LENDIFF.f k) else s1
        deliverLegacy (92 + k) (s2.canNum k i) data (endSilence 2 k i s2)

/-- The meaning of `CAN_FRAME_RECEIVE`. -/
def execCanFrameReceive (k id ide fdf rtr : Nat) (data : List Byte) (s : State) : Outcome :=
  act (whenRunning (canFrame k id ide fdf rtr data)) s

/-- Rank of an identifier in arbitration: the lower wins; a base-format identifier wins over an extended one that begins
with it. -/
def canRank (id : Nat) (ide : Bool) : Nat :=
  if ide then id / 2 ^ 18 * 2 ^ 20 + 2 ^ 19 + id % 2 ^ 18 else id * 2 ^ 20

/-- The pending entry that wins arbitration, with its image: an FD frame takes part only while FD frames are allowed. -/
def State.canNext (s : State) (k : Nat) : Option (Nat × TxImage) :=
  let pend : List (Nat × TxImage) := (List.range 128).filterMap (fun i =>
    if s.on (CM_VALID.f k i) && s.on (CM_TX.f k i) && (!s.on (CM_FDF.f k i) || s.on (LEG_CANk_FD_EN.f k)) then
      match s.txImage (92 + k) (s.canNum k i) with
      | some x => if x.unsent then some (i, x) else none
      | none => none
    else none)
  let rank (p : Nat × TxImage) : Nat := canRank (s.rd (CM_ID.f k p.1)) (s.on (CM_IDE.f k p.1))
  pend.foldl (fun best p => match best with
    | none => some p
    | some b => if rank p < rank b then some p else some b) none

/-- A frame with its data at the second rate shows the controller the delay of its transceiver (Table 11-9), which is a
matter of the board: a free value. -/
def measureDelay (k i : Nat) (s : State) : State :=
  if s.on (LEG_CANk_TDC_EN.f k) && s.on (CM_FDF.f k i) && s.on (CM_BRS.f k i) then
    let (v, t) := takeFree 9 s
    t.wr (LEG_CANk_TDC_MEAS.f k) v
  else s

/-- The winning pending frame is sent (R357); a frame sent lowers the transmit error count (ISO 11898-1, PRESUMED, log entry 68). -/
def canTransmit (k : Nat) (s : State) : State :=
  if !s.canOn k || s.on (LEG_CANk_LISTEN.f k) || !s.gateOpen (s.canGated k) then s
  else match s.canNext k with
    | none => s
    | some (i, x) =>
      let s1 := (measureDelay k i (s.setTxImage { x with unsent := false })).emit
        (.can k (s.rd (CM_ID.f k i)) (s.rd (CM_IDE.f k i)) (s.rd (CM_FDF.f k i)) (s.rd (CM_BRS.f k i)) x.bytes)
      let t := s1.rd (LEG_CANk_TEC.f k)
      let r := s1.rd (LEG_CANk_REC.f k)
      if t = 0 then s1 else setCanErrors k (t - 1) r (canEstate (t - 1) r) s1

/-- The meaning of `CAN_TRANSMIT_COMPLETE`. -/
def execCanTransmitComplete (k : Nat) (s : State) : Outcome := act (whenRunning (canTransmit k)) s

/-- A pending frame has waited `LEG_CANk_TX_AGE_MS` (R357). -/
def canAge (k entry : Nat) (s : State) : State :=
  if k < 12 && entry < 128 && s.on (CM_VALID.f k entry) && s.on (CM_TX.f k entry) then
    match s.txImage (92 + k) (s.canNum k entry) with
    | some x => if x.unsent then (s.dropImages (fun y => y == x)).inc (LEG_CANk_TX_AGED.f k) else s
    | none => s
  else s

/-- The meaning of `CAN_TX_AGE_EXPIRY`. -/
def execCanTxAgeExpiry (k entry : Nat) (s : State) : Outcome := act (whenRunning (canAge k entry)) s

/-- A controller goes bus-off: every pending frame is dropped (R357). -/
def busOff (k : Nat) (s : State) : State :=
  if !s.canOn k then s
  else (setCanErrors k 255 (s.rd (LEG_CANk_REC.f k)) 2 (s.dropImages (fun x => x.port == 92 + k && x.unsent))).inc
    (LEG_CANk_BUSOFF.f k)

/-- The meaning of `CAN_BUS_OFF`. -/
def execCanBusOff (k : Nat) (s : State) : Outcome := act (whenRunning (busOff k)) s

/-- Bus-off recovery, when it is automatic (R354). -/
def busOffRecovery (k : Nat) (s : State) : State :=
  if k < 12 && s.on (LEG_CANk_CFG_EN.f k) && s.rd (LEG_CANk_ESTATE.f k) == 2 && s.on (LEG_CANk_AUTO_RECOVER.f k) then
    setCanErrors k 0 0 0 s
  else s

/-- The meaning of `CAN_BUS_OFF_RECOVERY`. -/
def execCanBusOffRecovery (k : Nat) (s : State) : Outcome := act (whenRunning (busOffRecovery k)) s

/-- A bus error or error frame, with the error counts it leaves (R354). -/
def canError (k tec rec : Nat) (s0 : State) : State :=
  let s := if k < 12 then wakeLegacy [92 + k] s0 else s0
  if !s.canOn k then s
  else
    let s1 := s.inc (LEG_CANk_ERRFRAMES.f k)
    if tec > 255 then busOff k s1
    else setCanErrors k tec (Nat.min rec 255) (canEstate tec rec) s1

/-- The meaning of `CAN_ERROR_FRAME`. -/
def execCanErrorFrame (k tec rec : Nat) (s : State) : Outcome := act (whenRunning (canError k tec rec)) s

/-! RS-485 (R358 to R361). -/

/-- A frame matches receive entry i of a port (R360). -/
def State.serMatch (s : State) (x i : Nat) (frame : List Byte) : Bool :=
  let n := frame.length
  let four (f : Fld) : List Byte := toBE 4 (s.rd f)
  s.on (SE_VALID.f x i) && !s.on (SE_TX.f x i) && s.rd (SE_LEN_MIN.f x i) ≤ n && n ≤ s.rd (SE_LEN_MAX.f x i)
    && (List.range 4).all (fun j => byteAt frame j &&& byteAt (four (SE_MASK.f x i)) j == byteAt (four (SE_VALUE.f x i)) j)

/-- An RS-485 frame closes (R359 to R361). -/
def serialClose (x : Nat) (data : List Byte) (charError brk : Bool) (s0 : State) : State :=
  let s := if x < 12 then wakeLegacy [104 + x] s0 else s0
  if x ≥ 12 || !s.on (LEG_SERs_CFG_EN.f x) || data.length > 256 then s
  else
    let s1 := if brk then s.inc (LEG_SERs_BREAK.f x) else s
    if charError then s1.inc (LEG_SERs_FRAME_ERR.f x)
    else if brk && data.isEmpty then s1
    else
      let crc := s1.on (LEG_SERs_CRC.f x)
      let n := if crc then data.length - 2 else data.length
      let frame := data.take n
      if crc && (data.length < 2 || leAt data n 2 != crc16 frame) then s1.inc (LEG_SERs_CRC_ERR.f x)
      else match (List.range 64).find? (fun i => s1.serMatch x i frame) with
        | none => s1.inc (LEG_SERs_NOMATCH.f x)
        | some i =>
          let late := s1.leg.late.any (fun p => p.1 == x && s1.clk.up ≤ p.2 + 1000 * s1.rd (LEG_SERs_RESP_US.f x))
          let s2 := if late then s1.inc (LEG_SERs_LATE.f x) else s1
          deliverLegacy (104 + x) i frame (endSilence 3 x i (s2.wr (LEG_SERs_WAITING.f x) 0))

/-- The meaning of `SERIAL_FRAME_CLOSE`. -/
def execSerialFrameClose (x : Nat) (data : List Byte) (charError break_ : Bool) (s : State) : Outcome :=
  act (whenRunning (serialClose x data charError break_)) s

/-- The head of a queue is sent once the line is idle (R361). -/
def serialSend (x : Nat) (s : State) : State :=
  if x ≥ 12 || !s.on (LEG_SERs_CFG_EN.f x) || s.on (LEG_SERs_WAITING.f x) then s
  else if !s.gateOpen (s.serGated x) then dropSerial (fun y => y == x) s
  else match s.serQueue (104 + x) with
    | [] => s
    | f :: _ =>
      let s1 := { s with leg := { s.leg with serial := s.leg.serial.erase f } }
      let crc := if s1.on (LEG_SERs_CRC.f x) then toLE 2 (crc16 f.bytes) else []
      let s2 := s1.emit (.serial x (f.bytes ++ crc))
      if s2.on (LEG_SERs_MODE.f x) && s2.on (SE_EXPECT.f x f.entry) then s2.wr (LEG_SERs_WAITING.f x) 1 else s2

/-- The meaning of `SERIAL_TRANSMIT`. -/
def execSerialTransmit (x : Nat) (s : State) : Outcome := act (whenRunning (serialSend x)) s

/-- The response limit passes (R361). -/
def responseTimeout (x : Nat) (s : State) : State :=
  if x < 12 && s.on (LEG_SERs_WAITING.f x) then
    let s1 := (s.wr (LEG_SERs_WAITING.f x) 0).inc (LEG_SERs_NORESP.f x)
    { s1 with leg := { s1.leg with late := (x, s1.clk.up) :: s1.leg.late.filter (fun p => p.1 != x) } }
  else s

/-- The meaning of `SERIAL_RESPONSE_TIMEOUT`. -/
def execSerialResponseTimeout (x : Nat) (s : State) : Outcome := act (whenRunning (responseTimeout x)) s

/-! Enabling and restart (R340, R364). -/

/-- Write the CFG of a legacy port (R340). -/
def writeLegCfg (p en : Nat) (s : State) : State :=
  let was := s.legLink p
  let s1 :=
    if p < 88 then
      let c := (p - 80) / 2
      let t := s.wr ((if p % 2 = 0 then LEG_MVBc_EN_A else LEG_MVBc_EN_B).f c) en
      if t.mvbOn c then (if s.mvbOn c then t else activate 0 c t) else { t.wr (LEG_MVBc_MASTER.f c) 0 with leg := { t.leg with polls := putAt c [] t.leg.polls } }
    else if p < 92 then
      let t := s.wr LEG_WTB_LINE_EN.f (setBit (s.rd LEG_WTB_LINE_EN.f) (p - 88) (en = 1))
      if t.wtbOn then t else wtbStop t
    else if p < 104 then
      let k := p - 92
      let t := s.wr (LEG_CANk_CFG_EN.f k) en
      if en = 1 then activate 2 k (((t.wr (LEG_CANk_ESTATE.f k) 0).wr (LEG_CANk_TEC.f k) 0).wr (LEG_CANk_REC.f k) 0) else t
    else
      let t := s.wr (LEG_SERs_CFG_EN.f (p - 104)) en
      if en = 1 then activate 3 (p - 104) t else t
  let s2 := if p < 92 && en = 0 then { s1 with leg := { s1.leg with lines := s1.leg.lines.filter (· != p) } } else s1
  let s3 := settleMismatch (unitId 1 p) (legSettle p was s2)
  if p < 88 then settleTrust ((p - 80) / 2) s3 else s3

/-- Restart an MVB controller whose table and fields an image has replaced: it gives up mastership, and its ports become
valid anew. -/
def restartMvb (c : Nat) (old s : State) : State :=
  let s1 := (s.wr (LEG_MVBc_MASTER.f c) 0).dropImages (fun x => x.port == 80 + 2 * c)
  let s2 := activate 0 c { s1 with leg := { s1.leg with polls := putAt c [] s1.leg.polls } }
  settleTrust c ([80 + 2 * c, 81 + 2 * c].foldl (fun t p => settleMismatch (unitId 1 p) (legSettle p (old.legLink p) t)) s2)

/-- Restart the WTB node: an inauguration starts. -/
def restartWtb (old s : State) : State :=
  let s1 := s.dropImages (fun x => x.port == 88)
  let s2 := if s1.wtbOn then inaugStart s1 else wtbStop s1
  (List.range 4).foldl (fun t i => settleMismatch (unitId 1 (88 + i)) (legSettle (88 + i) (old.legLink (88 + i)) t)) s2

/-- Restart a CAN controller: pending frames count as aged (R362), and it integrates anew. -/
def restartCan (k : Nat) (old s : State) : State :=
  let n := (s.leg.images.filter (fun x => x.port == 92 + k && x.unsent)).length
  let s2 := activate 2 k ((s.dropImages (fun x => x.port == 92 + k)).incBy (LEG_CANk_TX_AGED.f k) n)
  settleMismatch (unitId 1 (92 + k)) (legSettle (92 + k) (old.legLink (92 + k))
    (((s2.wr (LEG_CANk_ESTATE.f k) 0).wr (LEG_CANk_TEC.f k) 0).wr (LEG_CANk_REC.f k) 0))

/-- Restart a serial port: its queue empties, counted as dropped. -/
def restartSerial (x : Nat) (old s : State) : State :=
  let n := (s.serQueue (104 + x)).length
  let s1 := (s.incBy (LEG_SERs_TXQ_DROP.f x) n).wr (LEG_SERs_WAITING.f x) 0
  let s2 := activate 3 x { s1 with leg := { s1.leg with serial := s1.leg.serial.filter (fun f => f.port != 104 + x) } }
  settleMismatch (unitId 1 (104 + x)) (legSettle (104 + x) (old.legLink (104 + x)) s2)

end Sys2Proof.Machine
end

