-- ==== Sys2Proof/Machine/Clusters.lean ====
section
/-!
DEFINITION. Commands and happenings of the engine clusters and publish units (spec/09) and of the recorder (R475, R476).
-/
namespace Sys2Proof.Machine
open Sys2Proof

/-- What the signal engines do. -/
def whenEngines (f : State → State) (s : State) : State := whenRunning f s

/-- The meaning of `JOB_TAKE` (R282). -/
def execJobTake (engine : Nat) (s : State) : Outcome :=
  act (whenEngines (fun s => if engine < 512 then takeJob engine s else s)) s

/-- The meaning of `STEAL_SEARCH` (R285 to R287). -/
def execStealSearch (engine : Nat) (s : State) : Outcome :=
  act (whenEngines (fun s => if engine < 512 then stealSearch engine s else s)) s

/-- The meaning of `JOB_COMPLETE` (R290, R265). -/
def execJobComplete (engine : Nat) (s : State) : Outcome :=
  act (whenEngines (fun s => if engine < 512 then completeJob engine s else s)) s

/-- The meaning of `CHUNK_APPLY` (R290). -/
def execChunkApply (unit layout : Nat) (s : State) : Outcome :=
  act (whenEngines (applyChunk (128 * unit + layout))) s

/-- A cyclic release point of a layout in mode 1 (R291). -/
def cyclicRelease (l : Nat) (s : State) : State :=
  if s.layoutOn l && s.layoutMode l == 1 then closeGeneration l none s else s

/-- The meaning of `RELEASE_POINT_CYCLIC`. -/
def execReleasePointCyclic (unit layout : Nat) (s : State) : Outcome :=
  act (whenEngines (cyclicRelease (128 * unit + layout))) s

/-! Quarantine and CFG (R297, R300). -/

/-- A fault of an engine by its cause: 1 local memory, 2 register parity, 3 deque parity, 4 self-test. -/
def engineFault (e cause : Nat) (s : State) : State := if cause = 3 then dequeFault e s else quarantine e cause s

/-- The meaning of `ENGINE_QUARANTINE`. -/
def execEngineQuarantine (engine cause : Nat) (s : State) : Outcome :=
  act (whenEngines (fun s => if engine < 512 && 1 ≤ cause && cause ≤ 4 then engineFault engine cause s else s)) s

/-- A write of `STL_ENGe_CFG` (R300). -/
def writeEngineCfg (e cfg : Nat) (s : State) : State :=
  let s1 := s.wr (STL_ENGe_CFG.f e) cfg
  let op := s1.engOper e
  let s2 :=
    if cfg % 2 = 1 then (if op == 0 || op == 6 then setEngOper e 1 s1 else s1)
    else if op == 1 then
      let others := ((fenEngines (e / 16)).filter (fun x => x != e && s1.engOper x == 1)).length
      if s1.fenNeed (e / 16) ≤ others then settleEngine e s1 else setEngOper e 6 s1
    else s1
  settleMismatch (unitId 4 e) s2

/-- The meaning of `STL_ENGE_CFG`. -/
def execStlEngeCfg (engine cfg : Nat) (s : State) : Outcome :=
  act (whenUp (fun s => if engine < 512 then writeEngineCfg engine cfg s else s)) s

/-! Self-tests (R298, R299). -/

/-- The engines a `SELFTEST` names: none for a unit without a self-test. -/
def testEngines (unit : Nat) : List Nat :=
  let i := unit % 2048
  if unit / 2048 = 4 && i < 512 then [i] else if unit / 2048 = 5 && i < 32 then fenEngines i else []

/-- Mark an engine as to be tested. -/
def markTest (e : Nat) (on : Bool) (s : State) : State := s.setEngine { s.engine e with testing := on }

/-- `SELFTEST` (R299): a long command whose subject is its unit; a fen's engines are tested in turn. -/
def cmdSelftest (h : CmdHdr) (unit : Nat) (s : State) : State :=
  command 0x0B04 h (toBE 2 unit) (fun s =>
    match testEngines unit with
    | [] => ansRange s 0
    | e :: rest => match s.subjectOf unit with
      | some u => ansConflict s u
      | none => acceptLong h 0x0B04 unit 0 (fun t =>
          markTest e true { t with eng := { t.eng with fenTest := t.eng.fenTest ++ [(s.cmd.nextLong, e :: rest)] } }) s) s

/-- The meaning of `SELFTEST`. -/
def execSelftest (h : CmdHdr) (unit : Nat) (s : State) : Outcome := act (whenServing (cmdSelftest h unit)) s

/-- The next engine of the `SELFTEST` that tested e, or its completion with the number of the failing segment. -/
def advanceTest (e segment : Nat) (s : State) : State :=
  match s.eng.fenTest.find? (fun p => p.2.head? == some e) with
  | none => s
  | some (id, l) =>
    let rest := l.drop 1
    let keep (x : Nat × List Nat) : Bool := x.1 != id
    let others := s.eng.fenTest.filter keep
    let longs := s.cmd.longs.map (fun x => if x.id == id && x.arg2 == 0 then { x with arg2 := segment } else x)
    let s1 := { s with cmd := { s.cmd with longs := longs } }
    match rest with
    | n :: _ => markTest n true { s1 with eng := { s1.eng with fenTest := others ++ [(id, rest)] } }
    | [] =>
      cmdDoneAll 0x0B04 (fun x => x.id == id) stOk (fun x => toBE 4 x.arg2)
        { s1 with eng := { s1.eng with fenTest := others } }

/-- A test of an engine has run in full, or failed in a segment that the spec does not name. -/
def selftestDone (e : Nat) (good : Bool) (s : State) : State :=
  let x := s.engine e
  let idle := x.running.isNone && x.deque.isEmpty
  if !(x.testing || (idle && s.eng.selftest && (s.engOper e == 1 || s.engOper e == 6))) then s
  else if s.engOper e != 4 && !idle then s
  else
    let s1 := s.inc STL_SELFTEST_RUNS.f
    let (seg, s2) := if good then (0, s1) else
      let (v, t) := takeFree 32 s1
      (1 + v % 10, t)
    let s3 :=
      if good then (if s2.engOper e == 4 && s2.on (STL_ENGe_CFG.f e) then
          setEngOper e 1 (s2.wr (STL_ENGe_QCAUSE.f e) 0) else s2)
      else quarantine e 4 (s2.inc STL_SELFTEST_FAIL.f)
    if x.testing then advanceTest e seg (markTest e false s3) else s3

/-- The meaning of `ENGINE_SELFTEST_DONE`. -/
def execEngineSelftestDone (engine : Nat) (good : Bool) (s : State) : Outcome :=
  act (whenEngines (fun s => if engine < 512 then selftestDone engine good s else s)) s

/-! Envelope (R293) and recorder (R475, R476). -/

/-- The end of a 5 µs interval: it counts when a fen exceeded its envelope. -/
def envelopeEnd (s : State) : State :=
  let over_ := s.eng.envelope.any (fun n => s.rd STL_ENV_RECORDS.f < n)
  let s1 := { s with eng := { s.eng with envelope := List.replicate 32 0 } }
  if over_ then s1.inc STL_ENV_EXCEED.f else s1

/-- The meaning of `ENVELOPE_INTERVAL`. -/
def execEnvelopeInterval (s : State) : Outcome := act (whenEngines envelopeEnd) s

/-- The meaning of `RECORDER_WRITE`: the oldest queued record reaches the ring. -/
def execRecorderWrite (s : State) : Outcome := act (whenRunning writeRecord) s

/-- A record as `RECORDER_READ` returns it. -/
def recordBytes (r : RecRecord) : List Byte :=
  toBE 8 r.value ++ toBE 8 r.time ++ toBE 4 r.index ++ toBE 4 r.status ++ toBE 2 r.epoch ++ toBE 2 r.origin ++ toBE 4 r.seq

/-- The records of the ring that a read asks for, in write order; a damaged one is skipped (Table 01-11). -/
def State.recordsFrom (s : State) (start signal records : Nat) : List RecRecord :=
  (s.sto.ring.filter (fun r => !r.damaged && compactDiff r.time start ≥ 0 && (signal == 0xFFFFFFFF || r.index == signal))).take records

/-- `RECORDER_READ` (R476). -/
def cmdRecorderRead (h : CmdHdr) (start signal records : Nat) (s : State) : State :=
  command 0x0B03 h (toBE 8 start ++ toBE 4 signal ++ toBE 2 records) (fun s =>
    if start % 2 ^ 30 > 999999999 then ansRange s 0
    else if signal ≥ 2 ^ 18 && signal != 0xFFFFFFFF then ansRange s 8
    else if records = 0 || records > 2046 then ansRange s 12
    else
      let l := s.recordsFrom start signal records
      ansOk s (toBE 2 l.length ++ (l.map recordBytes).foldr (· ++ ·) [])) s

/-- The meaning of `RECORDER_READ`. -/
def execRecorderRead (h : CmdHdr) (start signal records : Nat) (s : State) : Outcome :=
  act (whenServing (cmdRecorderRead h start signal records)) s

end Sys2Proof.Machine
end

