-- ==== Sys2Proof/Machine/PortCmds.lean ====
section
/-!
DEFINITION. Enabling, state, link and tests of ports (spec/10, R304 to R309; spec/11, R340).
-/
namespace Sys2Proof.Machine
open Sys2Proof

/-- A MAC with an integrated PHY. -/
def integratedPhy (n : Nat) : Bool := n < 16 || (64 ≤ n && n ≤ 80)

/-- Write the CFG of a MAC (R308): a disabled integrated PHY is powered down, an enabled port ends its test (R309). -/
def writeMacCfg (n en : Nat) (s : State) : State :=
  let was := s.on (MAC_n_CFG_EN.f n)
  withMt (fun t =>
    let t1 := t.wr (MAC_n_CFG_EN.f n) en
    let t2 := if en = 1 then { t1 with net := { t1.net with phyTest := dropKey Prod.fst n t1.net.phyTest } } else t1
    let t3 := if !was || en = 1 then t2
      else if n < 16 then untrain n t2
      else if integratedPhy n then setLink n false 0 t2 else t2
    let t4 := setMacOper n (macOper t3 n) t3
    let t5 := if n < 16 then syncBbPath (t4.setOper (unitId 3 (n / 4)) (t4.peOper (n / 4))) else t4
    settleDomains (settleMismatch (unitId 2 n) (settleMismatch (unitId 1 (portOfMac n)) t5))) s

/-- The meaning of `MAC_N_CFG_EN`: a parameter write of the MAC's CFG. -/
def execMacNCfgEn (mac cfg : Nat) (s : State) : Outcome :=
  act (whenUp (fun s => if mac ≤ 80 && cfg ≤ 1 then writeMacCfg mac cfg s else s)) s

/-- `PORT_ENABLE` (R308, R340): the reply reports OPER as it stood, for the hardware follows CFG after it (R48, R68). -/
def cmdPortEnable (h : CmdHdr) (port enable : Nat) (s : State) : State :=
  command 0x0C01 h (toBE 1 port ++ toBE 1 enable) (fun s =>
    let mac := macOfPort port
    if !(mac.isSome || (80 ≤ port && port < 116)) then ansRange s 0
    else if enable > 1 then ansRange s 1
    else match s.subjectOf (unitId 1 port) with
      | some u => ansConflict s u
      | none =>
        let t := match mac with
          | some n => writeMacCfg n enable s
          | none => settleDomains (writeLegCfg port enable s)
        ansOk t (toBE 1 (s.operOf (unitId 1 port)))) s

/-- The meaning of `PORT_ENABLE`. -/
def execPortEnable (h : CmdHdr) (port enable : Nat) (s : State) : Outcome := act (whenServing (cmdPortEnable h port enable)) s

/-- `PORT_STATUS` (R308, R340): CFG, OPER, speed and link. -/
def cmdPortStatus (h : CmdHdr) (port : Nat) (s : State) : State :=
  command 0x0C02 h (toBE 1 port) (fun s =>
    let u := unitId 1 port
    let head := toBE 1 (s.cfgOf u) ++ toBE 1 (s.operOf u)
    match macOfPort port with
    | some n => ansOk s (head ++ toBE 1 (s.rd (MAC_n_SPEED.f n)) ++ toBE 1 (s.rd (MAC_n_LINK.f n)))
    | none =>
      if 80 ≤ port && port < 116 then ansOk s (head ++ toBE 1 5 ++ toBE 1 (b2n (s.legLink port))) else ansRange s 0) s

/-- The meaning of `PORT_STATUS`. -/
def execPortStatus (h : CmdHdr) (port : Nat) (s : State) : Outcome := act (whenServing (cmdPortStatus h port)) s

/-- A test mode that a port's PHY has (R309).  Which modes the IEEE 802.3 clauses define is PRESUMED from them, log entry 41: 1 to 7 for
the lanes (149), 1 to 4 for 10BASE-T1S (147), none for 100BASE-TX (25). -/
def testModeOk (mac mode : Nat) : Bool :=
  mode == 0 || mode == 0x80 || (mac < 16 && mode ≤ 7) || (64 ≤ mac && mac ≤ 79 && mode ≤ 4)

/-- `PHY_TEST` (R309). -/
def cmdPhyTest (h : CmdHdr) (port mode : Nat) (s : State) : State :=
  command 0x0C04 h (toBE 1 port ++ toBE 1 mode) (fun s =>
    match macOfPort port with
    | none => ansRange s 0
    | some n =>
      if !integratedPhy n then ansRange s 0
      else if !testModeOk n mode then ansRange s 1
      else match s.subjectOf (unitId 1 port) with
        | some u => ansConflict s u
        | none =>
          if s.on (MAC_n_CFG_EN.f n) then ansConflict s (unitId 1 port)
          else
            let l := if mode = 0 then dropKey Prod.fst n s.net.phyTest else putKey Prod.fst (n, mode) s.net.phyTest
            ansOk { s with net := { s.net with phyTest := l } }) s

/-- The meaning of `PHY_TEST`. -/
def execPhyTest (h : CmdHdr) (port mode : Nat) (s : State) : Outcome := act (whenServing (cmdPhyTest h port mode)) s

/-- A speed code that Table 10-1 gives a MAC. -/
def speedAdmitted (n speed : Nat) : Bool :=
  if n < 64 then 1 ≤ speed && speed ≤ 3 else if n < 80 then speed = 1 else speed = 2

/-- A port's link goes up or down (R306, R308): a vehicle port's as its QSGMII lane reports it, another port's as its own PHY
does.  Half duplex is not admitted on a vehicle port. -/
def linkStatus (n link speed : Nat) (half : Bool) (s : State) : State :=
  if n < 16 || n > 80 || (integratedPhy n && !s.on (MAC_n_CFG_EN.f n)) then s
  else
    let up := link == 1 && speedAdmitted n speed && !(half && n < 64)
    withMt (setLink n up speed) s

/-- The meaning of `LINK_STATUS_CHANGE`. -/
def execLinkStatusChange (mac link speed : Nat) (half : Bool) (s : State) : Outcome :=
  act (whenRunning (linkStatus mac link speed half)) s

/-! Guidons on the lanes (R429). -/

/-- Nanoseconds until the gap after the frame that a MAC is sending; none sent, the gap is now. -/
def State.gapWait (s : State) (n : Nat) : Nat :=
  match s.sendingOn n with
  | some c => match s.wireOf c with
    | some w => c.started + psPerByte (s.rd (MAC_n_SPEED.f n)) * (wireLen w + 8) / 1000 - s.clk.now
    | none => 0
  | none => 0

/-- Insert a guidon on a lane at the first gap, or abandon it there when none comes within 1.5 µs. -/
def laneGuidon (hdr : List Byte) (m : Nat) (s : State) : State :=
  if s.gapWait m > 1500 then s.inc RED_BB_ABANDON.f else s.emit (.guidon m hdr)

/-- A pair member sends a guidon on Halyard, with its mirror image when active and healthy, and on the backbone lanes. -/
def guidonSend (s : State) : State :=
  if !s.isPair then s
  else
    let s1 := { s with pair := { s.pair with seq := (s.pair.seq + 1) % 256 } }
    let mirror := s1.pairActive && s1.on RED_HEALTHY.f
    let hdr := s1.guidonHeader mirror
    s1.guidonLanes.foldl (fun t m => laneGuidon hdr m t) (s1.emit (.halyard hdr (if mirror then s1.mirrorImage else [])))

/-- The meaning of `GUIDON_SEND`. -/
def execGuidonSend (s : State) : Outcome := act (whenRunning guidonSend) s

end Sys2Proof.Machine
end

