-- ==== Sys2Proof/Machine/Param.lean ====
section
/-!
DEFINITION. The parameter space as words (spec/17) and its access by command (R7, R62 to R65): `PARAM_READ`, `PARAM_WRITE`,
a plain register write and `GLB_VEH_ID_SET`.
-/
namespace Sys2Proof.Machine
open Sys2Proof

/-! The fields of a word (R480, R481). -/

/-- The rows of the block that an offset lies in (Table 17-1); none in an unassigned range. -/
def rowsAt (off : Nat) : List Row :=
  if off < 0x10000 then rowsGLB
  else if off < 0x20000 then rowsCMD
  else if off < 0x30000 then rowsPWR
  else if off < 0x40000 then rowsLAD
  else if off < 0x50000 then rowsTIM
  else if off < 0x60000 then rowsPOS
  else if off < 0x80000 then rowsSCH
  else if off < 0xA0000 then rowsBKB
  else if off < 0xB0000 then rowsTCY
  else if off < 0xC0000 then rowsHST
  else if off < 0x100000 then []
  else if off < 0x140000 then rowsSIG
  else if off < 0x200000 then rowsSTL
  else if off < 0x300000 then rowsMAC
  else if off < 0x340000 then rowsLEG
  else if off < 0x380000 then rowsRAB
  else if off < 0x3C0000 then rowsFLD
  else if off < 0x400000 then rowsRED
  else []

/-- The places in the word `rem` bytes above a row's base that its indices give: an index that moves the word is found from the
distance, an index that moves the bit runs through all its values. -/
def placesAt : List Dim → Nat → Nat → List Nat
  | [], rem, lsb => if rem = 0 then [lsb] else []
  | d :: ds, rem, lsb =>
    if d.offStride = 0 then
      ((List.range d.count).map (fun i => placesAt ds rem (lsb + d.lsbStride * (d.first + i)))).flatten
    else
      let i := Nat.min (rem / d.offStride) (d.first + d.count - 1)
      if i < d.first then [] else placesAt ds (rem - i * d.offStride) (lsb + d.lsbStride * i)

/-- The fields of the word at an offset, each with its row. -/
def fieldsAt (off : Nat) : List (Row × Fld) :=
  ((rowsAt off).map (fun r =>
    if off < r.base then []
    else (placesAt r.dims (off - r.base) r.lsb).map (fun l => (r, { off := off, lsb := l, width := r.width, reset := r.reset })))
    ).flatten

/-- Offset of the signal-value window. -/
def windowBase : Nat := 0x800000

/-- The first offset beyond the parameter space. -/
def spaceEnd : Nat := 0x1000000

/-- Index of the MAC whose words lie at an offset of block `MAC`, and the offset within them. -/
def macAt (off : Nat) : Option (Nat × Nat) :=
  if 0x200000 ≤ off && off < 0x251000 then some ((off - 0x200000) / 0x1000, off % 0x1000) else none

/-- A field of a MAC's words that Table 10-1 applies to it (R336). -/
def macApplies (n w lsb : Nat) : Bool :=
  let t1s := 64 ≤ n && n < 80
  if w = 0 && lsb = 1 then 16 ≤ n && n < 80
  else if w = 0 && lsb = 4 then (16 ≤ n && n < 64) || n = 80
  else if w = 0x40 then t1s
  else true

/-- A field applies where it stands. -/
def applies (f : Fld) : Bool :=
  match macAt f.off with
  | some (n, w) => macApplies n w f.lsb
  | none => true

/-- The access of a field where it stands: `MAC_n_MAXLEN` is RO on MACs 0 to 15 and 64 to 80. -/
def accOf (r : Row) (f : Fld) : Acc :=
  match macAt f.off with
  | some (n, w) => if w = 0 && f.lsb = 16 && !(16 ≤ n && n < 64) then .ro else r.acc
  | none => r.acc

/-! Reading. -/

/-- `RAB_SEMi_LEFT_MS`. -/
def State.semLeft (s : State) (i : Nat) : Nat :=
  match getKey Prod.fst i s.rab.expiries with
  | some p => s.leftMs p.2
  | none => 0

/-- `MAC_n_PAUSE_LEFT`: quanta that remain. -/
def State.pauseLeft (s : State) (n : Nat) : Nat :=
  match getKey Prod.fst n s.net.pauses with
  | some p => (roundOpen ((p.2 - s.clk.up) * 1000 : Nat) (64 * psPerByte (s.rd (MAC_n_SPEED.f n)))).toNat
  | none => 0

/-- `FC_WDT_LEFT_MS` and `FC_HOLD_LEFT_MS`. -/
def State.chanLeft (s : State) (c : Nat) (hold : Bool) : Nat :=
  if hold then (s.dieCfg c).holdLeft else (s.dieCfg c).wdLeft

/-- The value of a field as a read returns it: live where the spec computes it at the read (uptime, the firmware word,
line phase, current limits, semaphores), else as held. -/
def State.fieldNow (s : State) (f : Fld) : Nat :=
  let o := f.off
  if o = 0x18 then compact s.clk.up
  else if o = 0x20 then s.sys.stage % 16 + s.sys.faultCode % 2 ^ 16 * 2 ^ 16 + s.sys.beats % 2 ^ 32 * 2 ^ 32
  else if o = 0x50100 && f.lsb = 32 then s.lineAngle % 2 ^ 32
  else if 0x30100 ≤ o && o < 0x306C0 && f.lsb = 16 then s.kindLimit ((o - 0x30100) / 8)
  else if 0x340100 ≤ o && o < 0x340500 && o % 16 = 8 && f.lsb = 32 then s.semLeft ((o - 0x340100) / 16) % 2 ^ 32
  else if 0x380000 ≤ o && o < 0x390000 && o % 0x100 = 0x58 && f.lsb < 32 then
    s.chanLeft ((o - 0x380000) / 0x100) (f.lsb = 16) % 2 ^ f.width
  else match macAt o with
    | some (n, w) =>
      if !macApplies n w f.lsb then 0
      else if w = 0 && f.lsb = 16 && n < 16 then 4200
      else if w = 8 && f.lsb = 16 then s.pauseLeft n % 2 ^ 16
      else s.rd f
    | none => s.rd f

/-- A word as its fields stand. -/
def State.plainWord (s : State) (off : Nat) : Nat :=
  ((fieldsAt off).map (fun (p : Row × Fld) => match p.1.acc with
    | .wo => 0
    | _ => s.fieldNow p.2 * 2 ^ p.2.lsb)).foldl (· + ·) 0

/-- A word as a read path reads it: latched words hold what the path's own last read of the latching word took (R489). -/
def State.wordOn (s : State) (path : Nat) (off : Nat) : Nat :=
  let l : Latch := s.cmd.latches.getD path { tim := 0, posVel := 0, posTime := 0 }
  if windowBase ≤ off then s.windowWord ((off - windowBase) / 32) (off % 32 / 8)
  else if off = 0x40000 then s.clk.now / 1000000000 % 2 ^ 48
  else if off = 0x40008 then l.tim
  else if off = 0x50008 then s.positionNow.1
  else if off = 0x50010 then l.posVel
  else if off = 0x50018 then l.posTime
  else s.plainWord off

/-- A word as the command processor reads it. -/
def State.word (s : State) (off : Nat) : Nat := s.wordOn 0 off

/-- A word as an endpoint reads it through BAR0 (R487): zero outside stages 3 and 4; reading clears nothing. -/
def State.bar0Read (s : State) (hb : Bool) (off : Nat) : Nat :=
  if s.usable && (s.ep hb).link then s.wordOn (if hb then 2 else 1) (off / 8 * 8) else 0

/-- A word of an endpoint's diagnostic window (R55), which works without the command processor: `DIAG_ADDR`, `DIAG_DATA`,
`DIAG_FW_STATE`, and zero elsewhere. -/
def State.bar2Read (s : State) (hb : Bool) (off : Nat) : Nat :=
  let a := (s.ep hb).diagAddr
  if !(s.ep hb).link then 0
  else if off = 0 then a
  else if off = 8 then (if a < spaceEnd then s.wordOn (if hb then 4 else 3) a else 0)
  else if off = 0x10 then s.plainWord 0x20
  else 0

/-- The word comes from a field die whose link is lost (R416). -/
def State.lostWord (s : State) (off : Nat) : Bool :=
  (0x380000 ≤ off && off < 0x390000 && !s.dieUp (dieOf ((off - 0x380000) / 0x100)))
    || (0x390000 ≤ off && off < 0x390100 && !s.dieUp ((off - 0x390000) / 0x20 / 4))

/-- What a `PARAM_READ` of a word does beside returning it: it clears RC fields (R7) and loads latches (R489); the RC fields of
a field die whose link is lost are not cleared (R416). -/
def readEffect (off : Nat) (s : State) : State :=
  let s1 := if off = 0x40000 then latchTime 0 s else if off = 0x50008 then latchPos 0 s else s
  if s.lostWord off then s1
  else (fieldsAt off).foldl (fun t (p : Row × Fld) => if p.1.acc = .rc then t.wr p.2 0 else t) s1

/-- The domain of a port, fen or bank whose word lies at an offset. -/
def wordDomain (off : Nat) : Option Nat :=
  if 0x141000 ≤ off && off < 0x142000 then some (128 + (off - 0x141000) / 128)
  else if 0x380000 ≤ off && off < 0x390000 then some (160 + (off - 0x380000) / 0x2000)
  else if 0x300000 ≤ off && off < 0x300400 then some (80 + 2 * ((off - 0x300000) / 0x100))
  else if 0x300400 ≤ off && off < 0x301000 then some 88
  else if 0x301000 ≤ off && off < 0x301C00 then some (92 + (off - 0x301000) / 0x100)
  else if 0x302000 ≤ off && off < 0x302C00 then some (104 + (off - 0x302000) / 0x100)
  else (macAt off).map (fun p => portOfMac p.1)

/-- A parameter access wakes the domain of the word (R445). -/
def wakeWord (off : Nat) (s : State) : State := match wordDomain off with | some d => wake d s | none => s

/-- Read words in ascending offset order; in recovery words outside `GLB` read as zero (R471). -/
def readWords : Nat → Nat → State → List Byte × State
  | 0, _, s => ([], s)
  | n + 1, off, s =>
    if s.sys.stage = 5 && 0x10000 ≤ off then
      let (bs, t) := readWords n (off + 8) s
      (zeros 8 ++ bs, t)
    else
      let s0 := wakeWord off s
      let s1 := readEffect off s0
      let w := if off = 0x40000 || off = 0x50008 then s1.word off else s0.word off
      let (bs, t) := readWords n (off + 8) s1
      (toBE 8 w ++ bs, t)

/-- The position of an operand that R62 refuses: the first word outside the space, or the offset itself. -/
def badOffset (offset count most : Nat) : Nat :=
  if offset % 8 = 0 && 1 ≤ count && count ≤ most then Nat.max offset spaceEnd else offset

/-- The operands of a parameter access keep to R62. -/
def spanOk (offset count most : Nat) : Bool :=
  offset % 8 == 0 && 1 ≤ count && count ≤ most && offset + 8 * count ≤ spaceEnd

/-- `PARAM_READ` (R62). -/
def cmdParamRead (h : CmdHdr) (offset count : Nat) (s : State) : State :=
  command 0x0207 h (toBE 4 offset ++ toBE 2 count) (fun s =>
    if !spanOk offset count 8188 then ansRange s (badOffset offset count 8188)
    else
      let (bs, t) := readWords count offset s
      ansOk t bs) s

/-- The meaning of `PARAM_READ`. -/
def execParamRead (h : CmdHdr) (offset count : Nat) (s : State) : Outcome :=
  act (whenServing (cmdParamRead h offset count)) s

/-! The checks of a write (R63). -/

/-- A mask touches a field. -/
def touches (m : Nat) (f : Fld) : Bool := bits m f.lsb f.width != 0

/-- The value that a masked write leaves in an RW field. -/
def State.masked (s : State) (v m : Nat) (f : Fld) : Nat :=
  let fm := bits m f.lsb f.width
  (s.rd f &&& (2 ^ f.width - 1 ^^^ fm)) ||| (bits v f.lsb f.width &&& fm)

/-- The privilege of a word (Table 02-9, Table 17-2). -/
def privOk (c : PrivClass) (stage off : Nat) : Bool :=
  let sh := c == .safety || c == .host
  let shm := sh || c == .maint
  let sht := sh || c == .train
  if windowBase ≤ off then off % 32 == 0 && sht
  else if off = 0x130 then c == .safety && stage == 5
  else if off < 0x10000 then sh
  else if off < 0x10030 || (0x10040 ≤ off && off < 0x10070) then false
  else if off = 0x10088 || off = 0x10090 then shm
  else if off < 0x20000 then sh
  else if off < 0x30000 then c == .safety
  else if off < 0x40000 then true
  else if off < 0x60000 then sh
  else if off < 0x80000 then sht
  else if off < 0xC0000 then sh
  else if off < 0x100000 then true
  else if off < 0x140000 then sht
  else if off < 0x200000 then shm
  else if off < 0x300000 then true
  else if off < 0x340000 then shm
  else if off < 0x380000 then sh
  else if off < 0x390000 then (if off % 0x100 = 0x20 then c == .safety else sh)
  else if off = 0x390100 then c == .safety
  else if off < 0x3C0000 then sh
  else if off < 0x400000 then c == .safety
  else true

/-- Bits of a nominal and a data phase with a rate or jump width that R355 refuses. -/
def canTimingBad (s : State) (k v m : Nat) : Bool :=
  let g (r : Row) : Nat := s.masked v m (r.f k)
  g LEG_CANk_NBRP * (1 + g LEG_CANk_NTSEG1 + g LEG_CANk_NTSEG2) < 80 ||
    g LEG_CANk_DBRP * (1 + g LEG_CANk_DTSEG1 + g LEG_CANk_DTSEG2) < 10 ||
    g LEG_CANk_NSJW > g LEG_CANk_NTSEG2 || g LEG_CANk_DSJW > g LEG_CANk_DTSEG2

/-- What a word's chapter refuses beyond the ranges of its fields. -/
def State.wordBad (s : State) (off v m : Nat) : Bool :=
  let g (f : Fld) : Nat := s.masked v m f
  let t (f : Fld) : Bool := touches m f
  if off = 0x40018 then t TIM_SLEW_PPB.f && g TIM_SLEW_PPB.f > s.rd TIM_SLEW_PPB.f
  else if off = 0x40040 then t TIM_REF_PRIO.f && !prioOk (g TIM_REF_PRIO.f)
  else if off = 0x40068 then
    let a := toSigned 4 (g TIM_PTP_LOG_SYNC.f)
    let b := toSigned 4 (g TIM_PTP_LOG_MINDREQ.f)
    (t TIM_PTP_LOG_SYNC.f && (a < -4 || a > 1)) || (t TIM_PTP_LOG_MINDREQ.f && (b < -4 || b > 5))
  else if off = 0x50000 then t POS_ODO_CAP.f && g POS_ODO_CAP.f == 1 && s.rd POS_AX_EN.f == 0
  else if 0x60000 ≤ off && off < 0x60080 then
    let x := (off - 0x60000) / 0x40
    let w := off % 0x40
    (w == 0 && g (SCH_Hx_TX_BASE.f x) % 32 != 0) || (w == 0x10 && g (SCH_Hx_RX_BASE.f x) % 32 != 0)
      || (w == 0x20 && g (SCH_Hx_TAIL_ADDR.f x) % 8 != 0)
  else if 0x80000 ≤ off && off < 0x80400 && off % 0x100 = 0 then
    let p := (off - 0x80000) / 0x100
    (t (BKB_PEp_CTL_SPEED.f p) || t (BKB_PEp_CTL_EXT.f p))
      && !speedOk (g (BKB_PEp_CTL_SPEED.f p)) (g (BKB_PEp_CTL_EXT.f p))
  else if 0x300000 ≤ off && off < 0x300400 && off % 0x100 = 0 then
    let c := (off - 0x300000) / 0x100
    (t (LEG_MVBc_OFFSET_US.f c) || t (LEG_MVBc_BP.f c))
      && g (LEG_MVBc_OFFSET_US.f c) ≥ (if g (LEG_MVBc_BP.f c) = 1 then 2000 else 1000)
  else if 0x301000 ≤ off && off < 0x301C00 && off % 0x100 = 8 then canTimingBad s ((off - 0x301000) / 0x100) v m
  else if 0x380000 ≤ off && off < 0x390000 && off % 0x100 = 0x20 then
    let c := (off - 0x380000) / 0x100
    t (FC_SAFE_LEVEL.f c) && g (FC_SAFE_LEVEL.f c) == 3
  else false

/-- A field whose written value is out of its range; one that does not apply takes no value but zero. -/
def State.fieldBad (s : State) (v m : Nat) (p : Row × Fld) : Bool :=
  let x := s.masked v m p.2
  accOf p.1 p.2 == .rw && touches m p.2 &&
    (if applies p.2 then x < p.1.lo || p.1.hi < x else bits (v &&& m) p.2.lsb p.2.width != 0)

/-- The value that a masked write of a window entry's word +0x00 gives it (R63, R271). -/
def State.windowValue (s : State) (i v m : Nat) : Nat := (s.entry i).value &&& (2 ^ 64 - 1 ^^^ m) ||| (v &&& m)

/-- A host signal of the window, by its descriptor. -/
def State.hostSignal (s : State) (i : Nat) : Bool :=
  match s.binding.covering i with
  | some d => msgSpace d.msg == 4 && (smeOf (s.record (s.recordIndex i (s.rd SIG_PROFILE.f)))).valid
  | none => false

/-- Kind 2 of R63: a word fails by its offset, its ranges or its encodings. -/
def State.rangeBad (s : State) (off v m : Nat) : Bool :=
  if windowBase ≤ off then
    let i := (off - windowBase) / 32
    s.hostSignal i && (s.hostRefusal i (s.windowValue i v m)).isSome
  else
    let fs := fieldsAt off
    fs.isEmpty || fs.any (s.fieldBad v m) || s.wordBad off v m

/-- The timing, format, role and direction fields of block `LEG` (R364) in the word at an offset, with the port unit whose CFG
is `ENABLED`. -/
def State.legBusy (s : State) (off m : Nat) : Option Nat :=
  let t (f : Fld) : Bool := touches m f
  let a := off - 0x300000
  let w := off % 0x100
  let hit (en : Bool) (port : Nat) (fs : List Fld) : Option Nat :=
    if en && fs.any t then some (unitId 1 port) else none
  if a < 0x400 then
    let c := a / 0x100
    let port := if s.on (LEG_MVBc_EN_A.f c) then 80 + 2 * c else 81 + 2 * c
    hit (s.on (LEG_MVBc_EN_A.f c) || s.on (LEG_MVBc_EN_B.f c)) port
      (if w = 0 then [LEG_MVBc_ADMIN.f c, LEG_MVBc_PAIR.f c, LEG_MVBc_ALIGN.f c, LEG_MVBc_BP.f c, LEG_MVBc_TREPLY.f c,
        LEG_MVBc_OFFSET_US.f c] else if w = 8 then [LEG_MVBc_SILENCE_US.f c] else [])
  else if a = 0x400 then
    let port := 88 + ((List.range 4).find? (fun i => bit (s.rd LEG_WTB_LINE_EN.f) i)).getD 0
    hit (s.rd LEG_WTB_LINE_EN.f != 0) port
      [LEG_WTB_ROLE.f, LEG_WTB_FOREIGN_DIR.f, LEG_WTB_END.f, LEG_WTB_FRAME_SIZE.f, LEG_WTB_PERIOD.f]
  else if 0x1000 ≤ a && a < 0x1C00 then
    let k := (a - 0x1000) / 0x100
    hit (s.on (LEG_CANk_CFG_EN.f k)) (92 + k)
      (if w = 0 then [LEG_CANk_LISTEN.f k, LEG_CANk_FD_EN.f k]
       else if w = 8 then [LEG_CANk_NBRP.f k, LEG_CANk_NTSEG1.f k, LEG_CANk_NTSEG2.f k, LEG_CANk_NSJW.f k, LEG_CANk_DBRP.f k,
        LEG_CANk_DTSEG1.f k, LEG_CANk_DTSEG2.f k, LEG_CANk_DSJW.f k]
       else if w = 0x10 then [LEG_CANk_TDCO.f k, LEG_CANk_TDC_EN.f k] else [])
  else if 0x2000 ≤ a && a < 0x2C00 then
    let x := (a - 0x2000) / 0x100
    hit (s.on (LEG_SERs_CFG_EN.f x)) (104 + x)
      (if w = 0 then [LEG_SERs_MODE.f x, LEG_SERs_DATA7.f x, LEG_SERs_PARITY.f x, LEG_SERs_STOP2.f x, LEG_SERs_CRC.f x,
        LEG_SERs_DE_LEAD.f x, LEG_SERs_DE_LAG.f x, LEG_SERs_GAP.f x, LEG_SERs_DIV.f x]
       else if w = 8 then [LEG_SERs_RESP_US.f x] else [])
  else none

/-- A frame ring's base or size changes while its enable bit is set (R237). -/
def State.ringBusy (s : State) (off v m : Nat) : Bool :=
  let x := (off - 0x60000) / 0x40
  let w := off % 0x40
  let chg (f : Fld) : Bool := s.masked v m f != s.rd f
  (w == 0 && s.on (SCH_Hx_TX_EN.f x) && chg (SCH_Hx_TX_BASE.f x))
    || (w == 8 && s.on (SCH_Hx_TX_EN.f x) && chg (SCH_Hx_TX_LOG2.f x))
    || (w == 0x10 && s.on (SCH_Hx_RX_EN.f x) && chg (SCH_Hx_RX_BASE.f x))
    || (w == 0x18 && s.on (SCH_Hx_RX_EN.f x) && chg (SCH_Hx_RX_LOG2.f x))

/-- Kind 3 of R63: the unit, or 0, whose state forbids a word. -/
def State.stateBad (s : State) (off v m : Nat) : Option Nat :=
  if s.sys.stage = 5 then (if off = 0x130 then none else some 0)
  else if windowBase ≤ off then (if s.hostSignal ((off - windowBase) / 32) then none else some 0)
  else if 0x60000 ≤ off && off < 0x60080 then (if s.ringBusy off v m then some 0 else none)
  else if 0x300000 ≤ off && off < 0x303000 then s.legBusy off m
  else none

/-! The effect of a write. -/

/-- The plain effect of a masked write on one field by its access code (R7); a bit with mask 0 of a W1C, W1S or WO field counts
as written with 0. -/
def writeField (v m : Nat) (p : Row × Fld) (s : State) : State :=
  let x := bits (v &&& m) p.2.lsb p.2.width
  match accOf p.1 p.2 with
  | .rw => if touches m p.2 && applies p.2 then s.wr p.2 (s.masked v m p.2) else s
  | .w1c => s.wr p.2 (s.rd p.2 &&& (2 ^ p.2.width - 1 ^^^ x))
  | .w1s => s.wr p.2 (s.rd p.2 ||| x)
  | _ => s

/-- PTP ports start listening when they are enabled and stop when they are not (R196). -/
def settlePtp (s : State) : State :=
  ptpRestrict ((List.range 48).foldl (fun t k =>
    let on := bit (t.rd TIM_PTP_EN.f) k
    let st := (t.ptpPort k).state
    if on && st == 0 then setPtpState k 1 t else if !on && st != 0 then setPtpState k 0 t else t) s)

/-- Words of blocks `TIM` and `POS` whose write does more than set fields (R181, R193, R196, R213). -/
def writeTimePos (off v m : Nat) (s : State) : State :=
  let g (f : Fld) : Nat := s.masked v m f
  if off = 0x40018 then (if touches m TIM_SLEW_PPB.f then writeSlew (g TIM_SLEW_PPB.f) s else s)
  else if off = 0x40040 then (if touches m TIM_REF_PRIO.f then writeRefPrio (g TIM_REF_PRIO.f) s else s)
  else if off = 0x40070 then settlePtp (s.wr TIM_PTP_EN.f (g TIM_PTP_EN.f))
  else if off = 0x40078 then settlePtp (s.wr TIM_PTP_SLAVE_EN.f (g TIM_PTP_SLAVE_EN.f))
  else if off = 0x50020 then
    let diff := (g POS_AX_EN.f ^^^ s.rd POS_AX_EN.f) ||| bits m 4 4 ||| bits m 8 4
    (bitsOf 4 diff).foldl (fun t n => newRun n t)
      (((s.wr POS_AX_EN.f (g POS_AX_EN.f)).wr POS_AX_PD.f (g POS_AX_PD.f)).wr POS_AX_INV.f (g POS_AX_INV.f))
  else if 0x50040 ≤ off && off < 0x50080 && off % 16 = 0 then
    let n := (off - 0x50040) / 16
    if touches m (POS_AXn_DIAM_UM.f n) || touches m (POS_AXn_PPR.f n) then
      writeAxle n (g (POS_AXn_DIAM_UM.f n)) (g (POS_AXn_PPR.f n)) s
    else s
  else if off = 0x50100 then (if touches m POS_LP_SYS.f then writeLineSys (g POS_LP_SYS.f) s else s)
  else s

/-- Words of block `LEG` that enable lines and controllers (R340). -/
def writeLegWord (off v m : Nat) (s : State) : State :=
  let a := off - 0x300000
  let en (f : Fld) (port : Nat) (t : State) : State := if touches m f then writeLegCfg port (s.masked v m f) t else t
  if a < 0x400 && a % 0x100 = 0 then
    let c := a / 0x100
    en (LEG_MVBc_EN_B.f c) (81 + 2 * c) (en (LEG_MVBc_EN_A.f c) (80 + 2 * c) s)
  else if a = 0x400 then
    (List.range 4).foldl (fun t i =>
      if bit m i then writeLegCfg (88 + i) (bits v i 1) t else t) s
  else if 0x1000 ≤ a && a < 0x1C00 && a % 0x100 = 0 then en (LEG_CANk_CFG_EN.f ((a - 0x1000) / 0x100)) (92 + (a - 0x1000) / 0x100) s
  else if 0x2000 ≤ a && a < 0x2C00 && a % 0x100 = 0 then
    en (LEG_SERs_CFG_EN.f ((a - 0x2000) / 0x100)) (104 + (a - 0x2000) / 0x100) s
  else s

/-- Words of block `FLD`: a channel's configuration and safety words (R402, R408, R410). -/
def writeFldWord (off v m : Nat) (s : State) : State :=
  let c := (off - 0x380000) / 0x100
  let w := off % 0x100
  let mix (old : Nat) : Nat := (old &&& (2 ^ 64 - 1 ^^^ m)) ||| (v &&& m)
  let (w0, w1, w2) := s.fieldWords c
  let g (r : Row) : Nat := s.masked v m (r.f c)
  if 0x390000 ≤ off then s
  else if w = 0 then writeFieldWords c (mix w0) w1 w2 s
  else if w = 8 then writeFieldWords c w0 (mix w1) w2 s
  else if w = 0x10 then writeFieldWords c w0 w1 (mix w2) s
  else if w = 0x20 then writeSafe c (g FC_SAFE_LEVEL) (g FC_SAFE_LATCH) (g FC_WDT_MS) s
  else s

/-- Words of block `MAC` (R308, R338). -/
def writeMacWord (n w v m : Nat) (s : State) : State :=
  let g (r : Row) : Nat := s.masked v m (r.f n)
  if w = 0 then (if touches m (MAC_n_CFG_EN.f n) then writeMacCfg n (g MAC_n_CFG_EN) s else s)
  else if w = 0x40 && 64 ≤ n && n < 80 then
    writePlca n (g MAC_n_PLCA_EN) (g MAC_n_PLCA_ID) (g MAC_n_PLCA_COUNT) (g MAC_n_PLCA_TO) (g MAC_n_PLCA_BURST)
      (g MAC_n_PLCA_BTMR) s
  else s

/-- Words of block `LAD` (R446, R447, R456). -/
def writeLadWord (off v m : Nat) (s : State) : State :=
  let g (f : Fld) : Nat := s.masked v m f
  if off = 0x30000 then (if touches m LAD_PERF_FLOOR.f then writePerfFloor (g LAD_PERF_FLOOR.f) s else s)
  else if 0x30100 ≤ off then
    let d := (off - 0x30100) / 8
    let s1 := if touches m (LAD_Dd_CFG.f d) then writeDomainCfg d (g (LAD_Dd_CFG.f d)) s else s
    if touches m (LAD_Dd_FLOOR.f d) then writeFloor d (g (LAD_Dd_FLOOR.f d)) s1 else s1
  else s

/-- A vehicle ID committed to the installation record (R479): it takes effect at the next start. -/
def writeVehId (v : Nat) (s : State) : State := recordVehId (s.wr GLB_VEH_ID_SET.f (v % 2 ^ 64))

/-- What a word's write does beyond setting its fields. -/
def writeSpecial (off v m : Nat) (s : State) : State :=
  let g (f : Fld) : Nat := s.masked v m f
  if off = 0x130 then writeVehId (g GLB_VEH_ID_SET.f) s
  else if off = 0x140010 then
    (if s.rd TCY_STATE.f < 5 then { s with eng := { s.eng with selftest := g STL_SELFTEST_EN.f == 1 } } else s)
  else if off = 0x20000 then (if touches m PWR_PREFER.f then writePrefer (g PWR_PREFER.f) s else s)
  else if 0x30000 ≤ off && off < 0x40000 then writeLadWord off v m s
  else if 0x40000 ≤ off && off < 0x60000 then writeTimePos off v m s
  else if 0x60000 ≤ off && off < 0x60080 then
    let x := (off - 0x60000) / 0x40
    if off % 0x40 = 8 then writeRingEn (x == 1) (g (SCH_Hx_TX_EN.f x)) (s.rd (SCH_Hx_RX_EN.f x)) s
    else if off % 0x40 = 0x18 then writeRingEn (x == 1) (s.rd (SCH_Hx_TX_EN.f x)) (g (SCH_Hx_RX_EN.f x)) s
    else s
  else if 0x80000 ≤ off && off < 0x80400 && off % 0x100 = 0 then
    let p := (off - 0x80000) / 0x100
    if touches m (BKB_PEp_CTL_SPEED.f p) || touches m (BKB_PEp_CTL_EXT.f p) then
      writeSpeed p (g (BKB_PEp_CTL_SPEED.f p)) (g (BKB_PEp_CTL_EXT.f p)) s
    else s
  else if 0x141000 ≤ off && off < 0x142000 then
    let e := (off - 0x141000) / 8
    if touches m (STL_ENGe_CFG.f e) then writeEngineCfg e (g (STL_ENGe_CFG.f e)) s else s
  else if 0x300000 ≤ off && off < 0x310000 then writeLegWord off v m s
  else if 0x380000 ≤ off && off < 0x3C0000 then writeFldWord off v m s
  else if off = 0x3C0000 then writeReqEn (g RED_REQ_EN.f) (g RED_HEALTH_MASK.f) s
  else match macAt off with
    | some (n, w) => writeMacWord n w v m s
    | none => s

/-- Write one word that has passed its checks, with the mask (R63). -/
def writeWord (c : PrivClass) (off v m : Nat) (s : State) : State :=
  if windowBase ≤ off then windowWrite c ((off - windowBase) / 32) (s.windowValue ((off - windowBase) / 32) v m) s
  else (fieldsAt off).foldl (fun t p => writeField v m p t) (writeSpecial off v m s)

/-- Note a written word for the resume record (R468): the latest value of each. -/
def noteWritten (off : Nat) (s : State) : State :=
  if windowBase ≤ off then s
  else { s with sto := { s.sto with written := putKey Prod.fst (off, s.plainWord off) s.sto.written } }

/-- Write one word and note it. -/
def writeNoted (c : PrivClass) (w : Nat × Nat × Nat) (s : State) : State :=
  noteWritten w.1 (writeWord c w.1 w.2.1 w.2.2 (wakeWord w.1 s))

/-- The words of a write with a nonzero mask, with their offsets (R481). -/
def maskedWords (offset : Nat) (words : List (Nat × Nat)) : List (Nat × Nat × Nat) :=
  ((List.zip (List.range words.length) words).map (fun (p : Nat × Nat × Nat) =>
    (offset + 8 * p.1, p.2.1 % 2 ^ 64, p.2.2 % 2 ^ 64))).filter (fun w => w.2.2 != 0)

/-- The first failure of a write by the three kinds of R63: status and error data. -/
def State.writeFault (s : State) (c : PrivClass) (offset count : Nat) (ws : List (Nat × Nat × Nat)) : Option (Nat × List Byte) :=
  let inside := ws.filter (fun w => w.1 < spaceEnd)
  match inside.find? (fun w => !privOk c s.sys.stage (w.1 - w.1 % 8)) with
  | some w => some (stPrivDenied, toBE 4 w.1)
  | none =>
    if offset % 8 != 0 || count = 0 || count > 4093 then some (stRange, toBE 4 offset)
    else match inside.find? (fun w => s.rangeBad w.1 w.2.1 w.2.2) with
      | some w => some (stRange, toBE 4 w.1)
      | none =>
        if spaceEnd < offset + 8 * count then some (stRange, toBE 4 (badOffset offset count 4093))
        else match ws.findSome? (fun w => s.stateBad w.1 w.2.1 w.2.2) with
          | some u => some (stConflict, toBE 2 u)
          | none => none

/-- `PARAM_WRITE` (R62 to R64): all of it or nothing. -/
def cmdParamWrite (h : CmdHdr) (offset : Nat) (words : List (Nat × Nat)) (s : State) : State :=
  command 0x0208 h (toBE 4 offset ++ toBE 2 words.length ++ zeros 2
      ++ (words.map (fun (w : Nat × Nat) => toBE 8 w.1 ++ toBE 8 w.2)).flatten) (fun s =>
    let c := classOf h.via.port
    let ws := maskedWords offset words
    match s.writeFault c offset words.length ws with
    | some (st, d) => ⟨s, st, d⟩
    | none => ansOk (settleDomains (ws.foldl (fun t w => writeNoted c w t) s))) s

/-- The meaning of `PARAM_WRITE`. -/
def execParamWrite (h : CmdHdr) (offset : Nat) (words : List (Nat × Nat)) (s : State) : Outcome :=
  act (whenServing (cmdParamWrite h offset words)) s

/-- A masked write of one word as hardware takes it once privilege has passed (R7, R10): a word that fails its checks changes
nothing. -/
def registerWrite (offset value mask : Nat) (s : State) : State :=
  let v := value % 2 ^ 64
  let m := mask % 2 ^ 64
  if offset % 8 != 0 || spaceEnd ≤ offset || m = 0 || s.rangeBad offset v m || (s.stateBad offset v m).isSome then s
  else settleDomains (writeNoted .host (offset, v, m) s)

/-- The meaning of `REGISTER_WRITE`: a word that has no behaviour of its own beyond its access code. -/
def execRegisterWrite (offset value mask : Nat) (s : State) : Outcome :=
  act (whenUp (registerWrite offset value mask)) s

/-- The meaning of `GLB_VEH_ID_SET`: accepted in stage 5 only, from SAFETY only (R479). -/
def execGlbVehIdSet (c : PrivClass) (vehId : Nat) (s : State) : Outcome :=
  act (whenServing (fun s => if s.sys.stage = 5 && c == .safety then noteWritten 0x130 (writeVehId vehId s) else s)) s

end Sys2Proof.Machine
end

