-- ==== Sys2Proof/Machine/Sections.lean ====
section
/-!
DEFINITION. Image sections (R473, R474): how each is loaded, the checks of its owning chapter, and what follows when it is
applied.  A load works on a candidate state; nothing of it is kept unless every check passes.
-/
namespace Sys2Proof.Machine
open Sys2Proof

/-! Records. -/

/-- A slot entry (Table 04-4) as an image holds it: the ingress carries the upstream neighbour's egress instant. -/
def slotOf (b : List Byte) : Slot :=
  { num := beAt b 0 2, origin := beAt b 2 2, len := beAt b 4 2, period := byteAt b 6, phase := byteAt b 7,
    valid := bit (byteAt b 8) 0, originate := bit (byteAt b 8) 1, publish := beAt b 10 2, msg := beAt b 12 4,
    egress := (List.range 4).map (fun p => beAt b (16 + 4 * p) 4),
    ingress := (List.range 4).map (fun p => beAt b (32 + 4 * p) 4) }

/-- The node fills the ingress with its own delay (R114). -/
def State.withDelays (s : State) (x : Slot) : Slot :=
  let at_ (p : Nat) : Nat :=
    let e := x.ingress.getD p noTime
    if e = noTime then noTime else e + s.endDelayNs p
  { x with ingress := (List.range 4).map at_ }

/-- The lane table entry (Table 03-4) at a place of its table. -/
def laneEntOf (n : Nat) (b : List Byte) : LaneEnt :=
  { index := n, slot := beAt b 0 2, lane := byteAt b 2, originate := bit (byteAt b 3) 0, skew := beAt b 4 2 }

/-- A binding rule (Table 08-3). -/
def ruleOf (b : List Byte) : BindRule :=
  { kind := byteAt b 0, ordinal := byteAt b 1, cls := beAt b 2 2, uid := beAt b 8 8 }

/-- A binding rule keeps to its table. -/
def ruleOk (b : List Byte) : Bool :=
  let r := ruleOf b
  b.length == 16 && r.kind ≤ 6 && zeroIn b 4 4
    && (if r.kind = 2 || r.kind = 3 then 1 ≤ r.ordinal && r.ordinal ≤ 128 else r.ordinal == 0)
    && (2 ≤ r.kind && r.kind ≤ 4 || r.cls == 0) && (r.kind == 1 || r.uid == 0)

/-- A message descriptor (Table 08-2). -/
def descOf (b : List Byte) : MsgDesc :=
  let f := byteAt b 10
  { msg := beAt b 0 4, first := beAt b 4 3 % 2 ^ 18, count := beAt b 7 3, safety := bit f 0, cls := bits f 1 2,
    window := byteAt b 11, safetyId := beAt b 12 4 }

/-- A message descriptor keeps to its table. -/
def descFormOk (b : List Byte) : Bool :=
  let d := descOf b
  b.length == 16 && beAt b 4 3 < 2 ^ 18 && 1 ≤ d.count && d.first + d.count ≤ 2 ^ 18 && byteAt b 10 < 8
    && (if d.safety then 1 ≤ d.window else d.window == 0 && d.safetyId == 0)

/-- A routing entry (Table 10-2); the node writes `RT_NODE` itself. -/
def routeEntry (b : List Byte) : Route :=
  let v := beAt b 6 2
  { da := beAt b 0 6, vid := v % 4096, valid := bit v 12, anyVid := bit v 13, strip := bit v 14, ports := beAt b 8 8,
    local_ := byteAt b 16, queue := byteAt b 17 % 8, override := bit (byteAt b 17) 3, rule := byteAt b 18,
    msgNum := beAt b 20 2, node := 0 }

/-- A routing entry keeps to its table. -/
def routeFormOk (b : List Byte) : Bool :=
  b.length == 32 && !bit (beAt b 6 2) 15 && byteAt b 16 < 32 && byteAt b 17 < 16 && zeroIn b 19 1 && zeroIn b 22 2
    && zeroIn b 26 6

/-- An egress header (R317). -/
def egressEntry (b : List Byte) : EgressHdr :=
  { da := beAt b 0 6, valid := bit (byteAt b 6) 0, tag := bit (byteAt b 6) 1, queue := byteAt b 7 % 8, tci := beAt b 8 2,
    etype := beAt b 10 2 }

/-- An egress header keeps to its table. -/
def egressFormOk (b : List Byte) : Bool := b.length == 32 && byteAt b 6 < 4 && byteAt b 7 < 8 && zeroIn b 12 20

/-! Words that sections own (Table 16-7). -/

/-- Section `sec` owns a field. -/
def owns (sec : Nat) (r : Row) (f : Fld) : Bool :=
  let o := f.off
  let rw := accOf r f == .rw
  match sec with
  | 1 => o == 0xA0000 || o == 0xA0008 || (o == 0xA0010 && f.lsb == 0)
  | 3 => o == 0xB0028 && f.lsb < 32
  | 6 => o == 0x100000 && f.lsb == 8
  | 7 => (o == 0x140000 && f.lsb == 0) || (o == 0x140010 && f.lsb == 16) || (0x140030 ≤ o && o < 0x140050)
  | 9 => (0x280008 ≤ o && o < 0x280040 && !(o == 0x280018 && f.lsb == 32))
      || (match macAt o with | some (_, w) => w == 0x10 && (f.lsb == 0 || f.lsb == 32) | none => false)
  | 10 => (0x300000 ≤ o && o < 0x310000 && rw) || (0x310000 ≤ o && o < 0x340000)
  | 12 => (0x380000 ≤ o && o < 0x390000 && rw) || (o == 0x390100 && rw)
  | 13 => (o == 0x3C0000 && f.lsb == 10) || (o == 0x3C0040 && rw)
  | 14 => o == 0x30020 && f.lsb == 8
  | _ => false

/-- Load the fields of one word that a section owns; none when the word holds none of them, a value is out of its range, or a
bit outside every field is set. -/
def loadWord (sec off v : Nat) (s : State) : Option State :=
  let fs := fieldsAt off
  let mine := fs.filter (fun (p : Row × Fld) => owns sec p.1 p.2)
  let covered := (fs.map (fun (p : Row × Fld) => bits v p.2.lsb p.2.width * 2 ^ p.2.lsb)).foldl (· + ·) 0
  let bad (p : Row × Fld) : Bool :=
    let x := bits v p.2.lsb p.2.width
    x < p.1.lo || p.1.hi < x
  if off % 8 != 0 || mine.isEmpty || covered != v || mine.any bad then none
  else some (mine.foldl (fun t (p : Row × Fld) => t.wr p.2 (bits v p.2.lsb p.2.width)) s)

/-! Legacy controllers: bus 0 MVB, 1 WTB, 2 CAN, 3 RS-485. -/

/-- The controller that an offset of block `LEG` belongs to. -/
def ctrlOf (off : Nat) : Nat × Nat :=
  let a := off - 0x300000
  if a < 0x400 then (0, a / 0x100)
  else if a < 0x1000 then (1, 0)
  else if a < 0x2000 then (2, (a - 0x1000) / 0x100)
  else if a < 0x10000 then (3, (a - 0x2000) / 0x100)
  else if a < 0x20000 then (0, (a - 0x10000) / 0x2000)
  else if a < 0x30000 then (2, (a - 0x20000) / 0x400)
  else (3, (a - 0x30000) / 0x400)

/-- The controllers that a legacy section names. -/
def namedCtrls (l : List Item) : List (Nat × Nat) :=
  (l.filterMap (fun i => match i with | .word off _ => some (ctrlOf off) | _ => none)).eraseDups

/-- An offset of block `LEG` holds an RW field or a table entry. -/
def legOwned (off : Nat) : Bool :=
  let a := off - 0x300000
  let w := a % 0x100
  0x300000 ≤ off && off < 0x340000 &&
    (if a < 0x400 then w < 0x10 else if a < 0x1000 then a < 0x410 else if a < 0x2000 then w < 0x18
     else if a < 0x10000 then w < 0x10 else true)

/-- A named controller's tables and fields return to their reset values before those of the section are loaded. -/
def clearCtrls (l : List (Nat × Nat)) (s : State) : State :=
  { s with regs := s.regs.filter (fun (p : Nat × Nat) => !(legOwned (p.1 / 64) && l.contains (ctrlOf (p.1 / 64)))) }

/-- `LEG_MVBc_PORTS` counts the valid entries. -/
def countPorts (s : State) : State :=
  (List.range 4).foldl (fun t c => t.wr (LEG_MVBc_PORTS.f c)
    ((List.range 1024).filter (fun i => t.on (MP_VALID.f c i))).length) s

/-- Restart a controller that a load has replaced (R364); `old` is the state before the load. -/
def restartCtrl (old : State) (c : Nat × Nat) (s : State) : State :=
  match c.1 with
  | 0 => restartMvb c.2 old s
  | 1 => restartWtb old s
  | 2 => restartCan c.2 old s
  | _ => restartSerial c.2 old s

/-! Loading. -/

/-- Change the slot bank in force. -/
def State.setSlotBank (s : State) (g : SlotBank → SlotBank) : State :=
  if s.on TCY_SLOT_BANK.f then { s with tcy := { s.tcy with bankB := g s.tcy.bankB } }
  else { s with tcy := { s.tcy with bankA := g s.tcy.bankA } }

/-- Change the binding bank in force. -/
def State.setBinding (s : State) (g : BindBank → BindBank) : State :=
  if s.sig.bank then { s with sig := { s.sig with bindB := g s.sig.bindB } }
  else { s with sig := { s.sig with bindA := g s.sig.bindA } }

/-- Change the routing bank in force. -/
def State.setRoutes (s : State) (g : List Route → List Route) : State :=
  if s.net.bank then { s with net := { s.net with routesB := g s.net.routesB } }
  else { s with net := { s.net with routesA := g s.net.routesA } }

/-- Put a rule at its index, with unused rules before it. -/
def putRule (i : Nat) (r : BindRule) (l : List BindRule) : List BindRule :=
  let pad := l ++ List.replicate (i + 1 - l.length) { kind := 0, ordinal := 0, cls := 0, uid := 0 }
  putAt i r pad

/-- Load one record of a section into a candidate; none when it does not belong there or breaks its table. -/
def loadItem (sec : Nat) (it : Item) (s : State) : Option State :=
  match sec, it with
  | 2, .sched id => if id < 2 ^ 16 then some (s.setSlotBank (fun b => { b with sched := id })) else none
  | 2, .slot bs =>
    let x := slotOf bs
    if bs.length != 64 || (s.slot x.num).isSome then none
    else if !x.valid then some s
    else some (s.setSlotBank (fun b => { b with slots := b.slots ++ [s.withDelays x] }))
  | 2, .lane pe t n bs =>
    let e := laneEntOf n bs
    if bs.length != 16 || 4 ≤ pe || 5 ≤ t || !(e.lane < 4 || e.lane == 255) || 1024 ≤ n then none
    else if e.lane = 255 && e.slot = n then some s
    else some { s with bkb := { s.bkb with tables := modifyAt (5 * pe + t) (· ++ [e]) s.bkb.tables } }
  | 3, .demand cls len period phase publish msg =>
    let old := match getKey Prod.fst cls s.hst.demands with | some p => p.2 | none => []
    if 2 ^ 16 ≤ cls || len < 66 || 4162 < len || period = 0 || 64 < period || period ≤ phase || 2 ^ 16 ≤ publish
        || bits publish 7 4 != 0 || 2 ^ 16 ≤ msg || 32 ≤ old.length then none
    else
      let d : Demand := { len := len, period := period, phase := phase, publish := publish, msg := msg }
      some { s with hst := { s.hst with demands := putKey Prod.fst (cls, old ++ [d]) s.hst.demands } }
  | 4, .rule i bs =>
    if 256 ≤ i || !ruleOk bs then none else some { s with sig := { s.sig with rules := putRule i (ruleOf bs) s.sig.rules } }
  | 4, .desc bs =>
    if descFormOk bs then some (s.setBinding (fun b => { b with descs := b.descs ++ [descOf bs] })) else none
  | 5, .map i bs => if i < 2 ^ 18 && bs.length == 64 then some (s.setRecord i bs) else none
  | 7, .layout u k bs =>
    if 32 ≤ u || 128 ≤ k || bs.length != 32 then none
    else some ((List.range 4).foldl (fun t w => t.wr (STL_PLu_k_Ww.f u k w) (beAt bs (8 * w) 8)) s)
  | 8, .route bs =>
    if routeFormOk bs then
      let r := routeEntry bs
      some (if r.valid then s.setRoutes (· ++ [r]) else s)
    else none
  | 8, .egress i bs =>
    if i < 1024 && egressFormOk bs then
      some { s with net := { s.net with egress := putKey Prod.fst (i, egressEntry bs) s.net.egress } }
    else none
  | 11, .event i bs => if i < 4096 && bs.length == 64 && (evBad bs).isNone then some s else none
  | 13, .guarded c => if c < 256 then some s else none
  | 15, .recSignal i least =>
    if i < 2 ^ 18 && least < 2 ^ 16 then
      some { s with sto := { s.sto with signals := s.sto.signals ++ [{ index := i, least := least * 100000, last := none }] } }
    else none
  | 16, .preset off v m =>
    if off % 8 = 0 && off < spaceEnd && v < 2 ^ 64 && m < 2 ^ 64 then some s else none
  | n, .word off v => if v < 2 ^ 64 then loadWord n off v s else none
  | _, _ => none

/-- Load records one after another. -/
def loadItems (sec : Nat) : List Item → State → Option State
  | [], s => some s
  | i :: l, s => match loadItem sec i s with | some t => loadItems sec l t | none => none

/-- What a section replaces as a whole is emptied before it is loaded; words and event entries that it does not give stand. -/
def emptySection (sec : Nat) (l : List Item) (s : State) : State :=
  match sec with
  | 2 => { s.setSlotBank (fun _ => { SlotBank.reset with ready := true }) with
             bkb := { s.bkb with tables := List.replicate 20 [] } }
  | 3 => { s with hst := { s.hst with demands := [] } }
  | 4 => { s.setBinding (fun _ => { descs := [], nodes := [] }) with sig := { (s.setBinding (fun _ =>
             { descs := [], nodes := [] })).sig with rules := [] } }
  | 5 => { s with sig := { s.sig with map := [], mapFaults := [] } }
  | 7 => { s with regs := s.regs.filter (fun (p : Nat × Nat) => !(0x150000 ≤ p.1 / 64 && p.1 / 64 < 0x170000)) }
  | 8 => { s.setRoutes (fun _ => []) with net := { (s.setRoutes (fun _ => [])).net with egress := [] } }
  | 9 => { s with net := { s.net with retired := [] } }
  | 10 => clearCtrls (namedCtrls l) s
  | 15 => { s with sto := { s.sto with signals := [] } }
  | _ => s

/-- The count of valid layouts that each publish unit shows (Table 09-7). -/
def countLayouts (s : State) : State :=
  (List.range 32).foldl (fun t u => t.wr (STL_PUBu_LAYOUTS.f u)
    ((List.range 128).filter (fun k => s.layoutOn (128 * u + k))).length) s

/-- Resolve what a load leaves to the node: rules and routing entries against the CURRENT directory (R242, R313), and the
counts that words show. -/
def settleLoad (mask : Nat) (s : State) : State :=
  let nodes := s.resolved s.hst.current (s.rd HST_NODE_NUM.f)
  let s1 := if bit mask 4 then s.setBinding (fun b => { b with nodes := nodes }) else s
  let s2 := if bit mask 8 then s1.setRoutes (resolveRoutes nodes) else s1
  let s3 := (s2.wr MAC_RT_ENTRIES.f (s2.routes s2.net.bank).length).wr MAC_EH_ENTRIES.f
    (s2.net.egress.filter (fun e => e.2.valid)).length
  let s4 := s3.wr GLB_REC_SIGNALS.f s3.sto.signals.length
  let s5 := (if bit mask 2 then s4.wr TCY_SCHED_ID.f s4.slotBank.sched else s4).when (bit mask 7) countLayouts
  let cells := (s5.layouts.map (fun l => cellsFor (s5.layoutSize l))).foldl (· + ·) 0
  countPorts { s5 with net := { s5.net with pubCells := cells } }

/-- A set of sections: number and records. -/
abbrev Sections := List (Nat × List Item)

/-- The selectors of the banked tables a set names turn to their shadow banks, into which it is loaded;
a bank that is rewritten is no longer faulty (R14). -/
def turnBanks (mask : Nat) (s : State) : State :=
  let s1 := if bit mask 2 then s.wr TCY_SLOT_BANK.f (1 - s.rd TCY_SLOT_BANK.f) else s
  let s2 := if bit mask 4 then { s1 with sig := { s1.sig with bank := !s1.sig.bank } } else s1
  let s3 := if bit mask 8 then { s2 with net := { s2.net with bank := !s2.net.bank } } else s2
  let lanes := if bit mask 2 then [] else s3.bkb.faulty
  { s3 with bkb := { s3.bkb with faulty := lanes },
            sig := { s3.sig with faulty := s3.sig.faulty.filter (fun b => !(bit mask 4 && b == s3.sig.bank)) },
            net := { s3.net with faulty := s3.net.faulty.filter (fun b => !(bit mask 8 && b == b2n s3.net.bank)) } }

/-- Load every section of a set: the candidate, or the number of the first section that breaks its form. -/
def loadSections : Sections → State → State × Option Nat
  | [], s => (s, none)
  | (n, l) :: rest, s =>
    match loadItems n l (emptySection n l s) with
    | some t => loadSections rest t
    | none => (s, some n)

/-! Checks of the owning chapters, over a loaded candidate. -/

/-- An end is THROUGH in the train that a slot bank is planned for: frames arrive at it. -/
def plannedThrough (slots : List Slot) (p : Nat) : Bool := slots.any (fun x => x.ingress.getD p noTime != noTime)

/-- The check of R138 that the slot bank in force fails: a bank without a valid slot 0 fails check 4.  The vehicles that appear
are those of the CURRENT directory, whose node numbers the bank's origins are.  DEDUCED, log entry 82. -/
def State.slotCheck (s : State) : Option Nat :=
  let slots := s.slotBank.slots
  let origins := (slots.map (fun x => x.origin)).eraseDups.length
  let lead := match s.slot 0 with | some x => x.origin | none => 0
  let vehicles := ((s.hst.current.map (fun r => r.vehicle)).filter (· != 0)).eraseDups.length
  s.bankCheck s.cycleCfg slots s.bkb.tables lead origins vehicles (plannedThrough slots)

/-- Descriptors (R239): sources that exist, no ID twice, ranges that do not overlap. -/
def State.descsOk (s : State) : Bool :=
  let l := s.binding.descs
  l.length ≤ 32768 && l.all (fun d => s.srcMsgOk d.msg) && (l.map (fun d => d.msg)).eraseDups.length == l.length
    && l.all (fun a => l.all (fun b => a.msg == b.msg || a.first + a.count ≤ b.first || b.first + b.count ≤ a.first))

/-- Records that a descriptor covers pass the checks of R269, their alternatives name the same source (R266), and no fan-out
exceeds 32 layouts (R291). -/
def State.mapOk (s : State) : Bool :=
  s.sig.map.all (fun (p : Nat × List Byte) => match s.binding.covering p.1 with
    | none => true
    | some d => (s.smeFault p.2 false).isNone && (smeOf p.2).srcMsg == d.msg
        && (s.recordsOf p.1).all (fun r => r == p.1 || ((s.smeFault (s.record r) true).isNone
          && (smeOf (s.record r)).srcMsg == d.msg)))
    && s.binding.descs.all (fun d => (s.fanoutOf d).length ≤ 32)

/-- A publish layout keeps to Table 09-3, and its size fits its destination (R317, R343). -/
def State.layoutOk (s : State) (l : Nat) : Bool :=
  let w (i : Nat) : Nat := s.layoutWord l i
  let m := s.layoutMsg l
  let size := s.layoutSize l
  let p := portOf m
  let n := numOf m
  let mode := bits (w 0) 8 8
  let fits : Bool :=
    if msgSpace m = 3 then
      bits m 16 8 == 0 && (match getKey Prod.fst (s.rd HST_CLASS.f) s.hst.demands with
        | some x => x.2.any (fun d => d.msg == n && d.len == size + 66)
        | none => false)
    else if msgSpace m != 1 || !s.portMsgOk m true then false
    else if p < 80 then
      (match getKey Prod.fst n s.net.egress with
       | some e => 14 + 4 * b2n e.2.tag + size + 4 ≤ s.maxLen p
       | none => false)
    else if p < 88 then
      (match s.mvbEntry ((p - 80) / 2) n true with
       | some i => size == fcodeBytes (s.rd (MP_FCODE.f ((p - 80) / 2) i))
       | none => false)
    else if p = 88 then size == s.rd LEG_WTB_FRAME_SIZE.f
    else if p < 104 then
      (match s.canEntry (p - 92) n true with
       | some i => size == s.rd (CM_LEN.f (p - 92) i)
       | none => false)
    else match s.serEntry (p - 104) n true with
      | some i => size == s.rd (SE_LEN_MIN.f (p - 104) i)
      | none => false
  fits && 1 ≤ size && size ≤ 4096 && bits mode 0 2 ≤ 1 && bits mode 2 5 == 0 && bits (w 0) 1 7 == 0
    && (if s.layoutMode l = 0 then s.srcMsgOk (s.layoutTrigger l) && s.layoutOffset l == 0
        else s.layoutTrigger l == 0 && s.layoutOffset l < s.rd TCY_CYCLE_NS.f)
    && (s.layoutSafety l || s.layoutSafetyId l == 0) && w 3 == 0 && bits (w 2) 0 32 == 0

/-- The layouts that the active slot bank uses. -/
def State.layoutsUsed (s : State) : List Nat :=
  (s.slotBank.slots.filter (fun x => x.originate && x.num != 0)).map (fun x => 128 * bits x.publish 11 5 + bits x.publish 0 7)

/-- Engines that a fen needs are at most its 16. -/
def State.needsOk (s : State) : Bool := (List.range 32).all (fun f => s.rd (STL_FENf_NEED.f (f / 8) (f % 8)) ≤ 16)

/-- Routing entries with different keys, at most 8,192 (R310). -/
def State.routesOk (s : State) : Bool :=
  let l := s.routes s.net.bank
  let key (r : Route) : Nat := r.da * 2 ^ 13 + (if r.anyVid then 4096 else r.vid)
  l.length ≤ 8192 && (l.map key).eraseDups.length == l.length

/-- Reservations within the buffer (R328). -/
def State.resOk (s : State) : Bool := s.resSum + s.rd MAC_BUF_RETIRED.f ≤ s.rd MAC_BUF_TOTAL.f

/-- The cost in ns of a poll (R345): master frame, reply timeout and slave frame; bit times of 2/3 µs are taken as 667 ns. -/
def State.pollNs (s : State) (c fcode : Nat) : Nat :=
  22000 + [21300, 42700, 64000, 85300].getD (s.rd (LEG_MVBc_TREPLY.f c)) 0 + [33, 49, 81, 153, 297].getD fcode 0 * 667

/-- An MVB controller's table and fields (R345, R346). -/
def State.mvbOk (s : State) (c : Nat) : Bool :=
  let l := (List.range 1024).filter (fun i => s.on (MP_VALID.f c i))
  let bp := if s.rd (LEG_MVBc_BP.f c) = 1 then 2000000 else 1000000
  let cyc := s.rd TCY_CYCLE_NS.f
  let cost (j : Nat) : Nat := ((s.pollsOf c j).map (fun (x : Nat × Nat) => s.pollNs c x.1)).foldl (· + ·) 0
  l.all (fun i => s.rd (MP_FCODE.f c i) ≤ 4 && s.rd (MP_PERIOD.f c i) ≤ 10
      && s.rd (MP_PHASE.f c i) < 2 ^ s.rd (MP_PERIOD.f c i))
    && (l.map (fun i => s.rd (MP_ADDR.f c i))).eraseDups.length == l.length
    && (List.range 1024).all (fun j => cost j ≤ bp - 100000)
    && (!s.on (LEG_MVBc_ALIGN.f c) || cyc % bp == 0 || bp % cyc == 0)
    && s.rd (LEG_MVBc_OFFSET_US.f c) * 1000 < bp

/-- Data lengths of a CAN frame. -/
def canLenOk (fdf : Bool) (n : Nat) : Bool := n ≤ 8 || (fdf && [12, 16, 20, 24, 32, 48, 64].contains n)

/-- A CAN controller's table and timing (R355, R356). -/
def State.canOk (s : State) (k : Nat) : Bool :=
  let l := (List.range 128).filter (fun i => s.on (CM_VALID.f k i))
  let key (i : Nat) : Nat := s.rd (CM_ID.f k i) * 4 + 2 * s.rd (CM_IDE.f k i) + s.rd (CM_TX.f k i)
  l.all (fun i => canLenOk (s.on (CM_FDF.f k i)) (s.rd (CM_LEN.f k i))
      && (s.on (CM_IDE.f k i) || s.rd (CM_ID.f k i) < 2048))
    && (l.map key).eraseDups.length == l.length && !canTimingBad s k 0 0

/-- A serial port's table (Table 11-9). -/
def State.serOk (s : State) (x : Nat) : Bool :=
  ((List.range 64).filter (fun i => s.on (SE_VALID.f x i))).all (fun i =>
    let a := s.rd (SE_LEN_MIN.f x i)
    let b := s.rd (SE_LEN_MAX.f x i)
    1 ≤ a && a ≤ b && b ≤ 256 && (!s.on (SE_TX.f x i) || a == b))

/-- Every legacy controller that a section names. -/
def State.legOk (s : State) (l : List (Nat × Nat)) : Bool :=
  l.all (fun c => match c.1 with
    | 0 => s.mvbOk c.2
    | 1 => s.rd LEG_WTB_ROLE.f ≤ 2
    | 2 => s.canOk c.2
    | _ => s.serOk c.2)

/-- Channel configuration and safety words (R408, R410). -/
def State.fieldOk (s : State) : Bool :=
  (List.range 256).all (fun c =>
    let w := s.fieldWords c
    fieldWordsOk w.1 w.2.1 w.2.2 && s.rd (FC_SAFE_LEVEL.f c) != 3)

/-- The channels a redundancy section guards. -/
def guardedList (l : List Item) : List Nat := l.filterMap (fun i => match i with | .guarded c => some c | _ => none)

/-- A guarded list that `GUARDED_SET` would take (R432). -/
def State.guardedOk (s : State) (l : List Nat) : Bool :=
  l.length ≤ 32 && l.eraseDups.length == l.length && l.all (fun c => s.on (FC_PAIRED.f c) && outMode (s.fmode c))

/-- Preset words with a nonzero mask. -/
def presetWords (l : List Item) : List (Nat × Nat × Nat) :=
  (l.filterMap (fun i => match i with | .preset o v m => some (o, v, m) | _ => none)).filter (fun w => w.2.2 != 0)

/-- Presets pass as one `PARAM_WRITE` of HOST class (R473). -/
def State.presetsOk (s : State) (ws : List (Nat × Nat × Nat)) : Bool := (s.writeFault .host 0 1 ws).isNone

/-- Records of a section in a set. -/
def itemsOf (l : Sections) (n : Nat) : List Item := match l.find? (fun p => p.1 == n) with | some p => p.2 | none => []

/-- A set names one of some sections. -/
def names (mask : Nat) (l : List Nat) : Bool := l.any (bit mask)

/-- A refusal of a set: status, section, and the number of the check where its chapter numbers its checks. -/
structure Refused where
  status : Nat
  section_ : Nat
  check : Option Nat
  deriving DecidableEq, Repr

/-- A refusal with `RANGE`. -/
def refuseRange (n : Nat) (check : Option Nat := none) : Refused := { status := stRange, section_ := n, check := check }

/-- The first refusal among the checks of the owning chapters, in ascending section number, taken over the sections named and
those in force (R474): a section is checked when it is named, or when one that its checks look at is. -/
def State.sectionFault (old s : State) (mask : Nat) (l : Sections) : Option Refused :=
  let fail (deps : List Nat) (n : Nat) (ok : Bool) : Option Refused :=
    if names mask deps && !ok then some (refuseRange n) else none
  let cyc := if bit mask 1 then (cycleCheck s.cycleCfg).map (fun k => refuseRange 1 (some k)) else none
  let slot := if bit mask 2 || (bit mask 1 && !s.slotBank.slots.isEmpty) then s.slotCheck.map (fun k => refuseRange (if bit mask 2 then 2 else 1) (some k)) else none
  let gone := old.layoutsUsed.any (fun x => old.layoutOn x && !s.layoutOn x && s.layoutsUsed.contains x)
  let inUse := if bit mask 7 && gone then some { status := stConflict, section_ := 7, check := none } else none
  let first := [cyc, slot, fail [4, 10] 4 s.descsOk, fail [3, 4, 5, 7, 8, 10] 5 s.mapOk, inUse,
    fail [1, 3, 7, 8, 10] 7 (s.layouts.all s.layoutOk), fail [7] 7 s.needsOk, fail [8] 8 s.routesOk, fail [9] 9 s.resOk,
    fail [10] 10 (s.legOk (namedCtrls (itemsOf l 10))), fail [12] 12 s.fieldOk,
    fail [13] 13 (s.guardedOk (guardedList (itemsOf l 13))), fail [14] 14 (s.rd LAD_FSCHED.f ≤ 5),
    fail [15] 15 (s.sto.signals.length ≤ 65536), fail [16] 16 (s.presetsOk (presetWords (itemsOf l 16)))]
  first.findSome? id

/-! Effects. -/

/-- Channels whose configuration a field section gives take it through the same writes as `FIELD_CONFIG` and
`FIELD_SAFE_SET` (R417). -/
def applyField (new s : State) : State :=
  let one (t : State) (c : Nat) : State :=
    let w := new.fieldWords c
    let g (r : Row) : Nat := new.rd (r.f c)
    let t1 := if t.fieldWords c == w then t else writeFieldWords c w.1 w.2.1 w.2.2 t
    if t1.rd (FC_SAFE_LEVEL.f c) == g FC_SAFE_LEVEL && t1.rd (FC_SAFE_LATCH.f c) == g FC_SAFE_LATCH
        && t1.rd (FC_WDT_MS.f c) == g FC_WDT_MS then t1
    else writeSafe c (g FC_SAFE_LEVEL) (g FC_SAFE_LATCH) (g FC_WDT_MS) t1
  (List.range 256).foldl one (s.wr FLD_HOLD_MS.f (new.rd FLD_HOLD_MS.f))

/-- Write the event entries of a section. -/
def applyEvents (l : List Item) (s : State) : State :=
  l.foldl (fun t i => match i with | .event n bs => writeEvent n bs t | _ => t) (evaluateAll false s)

/-- A slot bank that a load has put in force: the lane tables with it (R98), and what was released before (R118). -/
def slotInForce (s : State) : State :=
  clearPublished ((List.range 4).foldl (fun t p => swapLanes p t) s)

/-- `LAD_FSCHED` shallower than the step in force: the clock rises to it (R461). -/
def fschedInForce (s : State) : State :=
  if s.rd LAD_FSCHED.f < s.rd LAD_FSTEP.f then s.wr LAD_FSTEP.f (s.rd LAD_FSCHED.f) else s

/-- Layouts that a publish section has replaced start from an empty image. -/
def imagesInForce (old s : State) : State :=
  let same (l : Nat) : Bool := (List.range 4).all (fun w => old.layoutWord l w == s.layoutWord l w)
  { s with eng := { s.eng with images := s.eng.images.filter (fun (p : Nat × List Byte) => same p.1),
                               chunks := s.eng.chunks.filter (fun x => same x.layout),
                               releases := s.eng.releases.filter (fun x => same x.layout) } }

/-- What is loaded as plain data of a set: all but the sections whose fields act when they are written. -/
def plainSections (l : Sections) : Sections := l.filter (fun p => !([11, 12, 13, 16].contains p.1))

/-- The gate fields of a redundancy section. -/
def gateWords (l : Sections) : Sections :=
  [(13, (itemsOf l 13).filter (fun i => match i with | .word _ _ => true | _ => false))]

/-- Apply a set that has passed its checks.  `new` is the candidate; `boot` says that it is the start (R474), at which the
banks in force are loaded as they stand. -/
def applyLoaded (boot : Bool) (mask : Nat) (l : Sections) (new s0 : State) : State :=
  let s := settleLoad mask (loadSections (plainSections l) (if boot then s0 else turnBanks mask s0)).1
  let s1 := s.when (bit mask 2 && !boot) slotInForce
  let s2 := (s1.when (bit mask 4) (fun t => unsyncSafety s0.binding (syncBinding t))).when (bit mask 7)
    (fun t => settleFens (imagesInForce s0 t))
  let s3 := (s2.when (bit mask 9) State.syncShared).syncCells 255
  let s4 := (namedCtrls (itemsOf l 10)).foldl (fun t c => restartCtrl s0 c t) s3
  let s5 := (s4.when (bit mask 12) (applyField new)).when (bit mask 11) (applyEvents (itemsOf l 11))
  let s6 := s5.when (bit mask 13) (fun t => setGuarded (guardedList (itemsOf l 13)) (loadSections (gateWords l) t).1)
  let s7 := s6.when (bit mask 14) fschedInForce
  s7.when (bit mask 16) (fun t => (presetWords (itemsOf l 16)).foldl (fun u w => writeWord .host w.1 w.2.1 w.2.2 u) t)

/-- Try a set of sections: what it leaves, or its refusal with nothing changed (R474). -/
def applySections (boot : Bool) (mask : Nat) (l : Sections) (s : State) : State × Option Refused :=
  let (new, broken) := loadSections l (if boot then s else turnBanks mask s)
  match broken with
  | some n => (s, some (refuseRange n))
  | none =>
    let cand := settleLoad mask new
    match State.sectionFault s cand mask l with
    | some r => (s, some r)
    | none => (applyLoaded boot mask l cand s, none)

end Sys2Proof.Machine
end

