-- ==== Sys2Proof/Machine/Store.lean ====
section
/-!
DEFINITION. The configuration store and start-up (spec/16, R462 to R474): images and their staging, commit and selection,
`CONFIG_APPLY`, `NODE_RESET`, the internal release, the image check, recovery, and the way out of Bog (R452, R453).
-/
namespace Sys2Proof.Machine
open Sys2Proof

/-! Images (R469, R470). -/

/-- Header fields of Table 16-6. -/
def imgSections (b : List Byte) : Nat := beAt b 6 2
def imgVersion (b : List Byte) : Nat := beAt b 16 4
def imgLength (b : List Byte) : Nat := beAt b 20 4
def imgKey (b : List Byte) : Nat := byteAt b 24

/-- Directory entry k: number, offset, length. -/
def dirEntry (b : List Byte) (k : Nat) : Nat × Nat × Nat :=
  let o := 64 + 16 * k
  (byteAt b o, beAt b (o + 4) 4, beAt b (o + 8) 4)

/-- The directory of an image. -/
def directory (b : List Byte) : List (Nat × Nat × Nat) := (List.range (imgSections b)).map (dirEntry b)

/-- The header and the directory are well formed (R469). -/
def headerOk (b : List Byte) : Bool :=
  let n := imgSections b
  let from_ := 64 + 16 * n
  beAt b 0 4 == 0x4E47494D && beAt b 4 2 == 1 && 1 ≤ n && n ≤ 17 && imgKey b ≤ 3 && zeroIn b 25 39
    && from_ + 64 ≤ imgLength b && imgLength b ≤ 48 * 2 ^ 20 && b.length == imgLength b
    && (List.range n).all (fun k => zeroIn b (65 + 16 * k) 1 && zeroIn b (76 + 16 * k) 4)
    && (directory b).all (fun d => d.1 ≤ 16 && from_ ≤ d.2.1 && d.2.1 + d.2.2 + 64 ≤ imgLength b)
    && ((directory b).map Prod.fst).eraseDups.length == n

/-- The sections of an image as a mask. -/
def imgMask (b : List Byte) : Nat := ((directory b).map (fun d => 2 ^ d.1)).foldl (· + ·) 0

/-- The body of a section; nothing where the image has none. -/
def sectionBody (b : List Byte) (n : Nat) : List Byte :=
  match (directory b).find? (fun d => d.1 == n) with | some d => slice b d.2.1 d.2.2 | none => []

/-- The sections of an image that a mask names, in ascending bit order; firmware is no configuration. -/
def imgSet (b : List Byte) (mask : Nat) : Sections :=
  (((List.range 17).drop 1).filter (fun n => bit mask n && bit (imgMask b) n)).map
    (fun n => (n, Config.sectionItems n (sectionBody b n)))

/-- Reasons of R470 that the header gives: 1 header, 2 target, 3 key, 4 version. -/
def State.headerReason (s : State) (b : List Byte) : Option Nat :=
  if !headerOk b then some 1
  else if beAt b 8 8 != s.rd GLB_ID.f then some 2
  else if bit s.sto.revoked (imgKey b) then some 3
  else if imgVersion b < s.sto.minVersion then some 4
  else none

/-- The sections of an image are taken by their owning chapters over the fields of a node that starts (R470, R474). -/
def sectionsTaken (base : State) (b : List Byte) : Bool :=
  (applySections true (imgMask b) (imgSet b (imgMask b)) base).2.isNone

/-- The content of a slot. -/
def State.slotBytes (s : State) (slot : Nat) : List Byte := if slot = 0 then s.sto.slotA else s.sto.slotB

/-- A slot is valid. -/
def State.slotValid (s : State) (slot : Nat) : Bool := if slot = 0 then s.sto.validA else s.sto.validB

/-- Set a slot's validity, with its word. -/
def setValid (slot : Nat) (v : Bool) (s : State) : State :=
  if slot = 0 then { s.wrB GLB_SLOTA_VALID.f v with sto := { s.sto with validA := v } }
  else { s.wrB GLB_SLOTB_VALID.f v with sto := { s.sto with validB := v } }

/-- Put an image into a slot. -/
def putSlot (slot : Nat) (b : List Byte) (s : State) : State :=
  if slot = 0 then { s with sto := { s.sto with slotA := b } } else { s with sto := { s.sto with slotB := b } }

/-- The slot the node runs from; none in recovery. -/
def State.runs (s : State) (slot : Nat) : Bool := s.sys.stage != 5 && s.rd GLB_RUN_SLOT.f == slot

/-! Staging (R472). -/

/-- A commit to a slot is pending (R46). -/
def State.committing (s : State) (slot : Nat) : Bool := s.cmd.longs.any (fun l => l.opcode == 0x0203 && l.arg == slot)

/-- `IMAGE_STAGE_BEGIN` (R472, R61). -/
def cmdImageStageBegin (h : CmdHdr) (slot length : Nat) (s : State) : State :=
  command 0x0201 h (toBE 1 slot ++ toBE 4 length) (fun s =>
    if slot > 1 then ansRange s 0
    else if length < 28 || 48 * 2 ^ 20 < length then ansRange s 1
    else if s.runs slot || s.committing slot then ansConflict s
    else
      ansOk { s with sto := { s.sto with staging := some { slot := slot, length := length, writes := [], bad := false } } }) s

/-- The meaning of `IMAGE_STAGE_BEGIN`. -/
def execImageStageBegin (h : CmdHdr) (slot length : Nat) (s : State) : Outcome :=
  act (whenServing (cmdImageStageBegin h slot length)) s

/-- `IMAGE_STAGE_DATA` (R472); with no staging open every offset lies beyond the opened length. -/
def cmdImageStageData (h : CmdHdr) (offset : Nat) (data : List Byte) (s : State) : State :=
  command 0x0202 h (toBE 4 offset ++ data) (fun s =>
    match s.sto.staging with
    | none => ansRange s 0
    | some g =>
      if g.length < offset + data.length then ansRange s 0
      else ansOk { s with sto := { s.sto with staging := some { g with writes := g.writes ++ [(offset, data)] } } }) s

/-- The meaning of `IMAGE_STAGE_DATA`. -/
def execImageStageData (h : CmdHdr) (offset : Nat) (data : List Byte) (s : State) : Outcome :=
  act (whenServing (cmdImageStageData h offset data)) s

/-- Lay bytes over others at an offset. -/
def overlay (b : List Byte) (w : Nat × List Byte) : List Byte := b.take w.1 ++ w.2 ++ b.drop (w.1 + w.2.length)

/-- The staged image: later data over earlier; bytes that nothing has written are open. -/
def stagedBytes (g : Staging) : List Byte := g.writes.foldl overlay ((List.range g.length).map Config.stagingByte)

/-- The staged image passes every check but that of its signature. -/
def State.stagedGood (s : State) : Bool :=
  match s.sto.staging with
  | some g => !s.on GLB_FACTORY_FAULT.f && !g.bad && (s.headerReason (stagedBytes g)).isNone
      && sectionsTaken State.reset (stagedBytes g)
  | none => false

/-- `IMAGE_COMMIT` (R472): the slot reads invalid while a commit may write it; its second argument keeps what it was. -/
def cmdImageCommit (h : CmdHdr) (slot : Nat) (s : State) : State :=
  command 0x0203 h (toBE 1 slot) (fun s =>
    if slot > 1 then ansRange s 0
    else if s.runs slot || s.committing slot || s.pair.noMram then ansConflict s
    else acceptLong h 0x0203 slot (b2n (s.slotValid slot)) (fun t => if t.stagedGood then setValid slot false t else t) s) s

/-- The meaning of `IMAGE_COMMIT`. -/
def execImageCommit (h : CmdHdr) (slot : Nat) (s : State) : Outcome := act (whenServing (cmdImageCommit h slot)) s

/-- The oldest pending commit ends: `signed` is what the check of the signature gave, `compared` what the read-back gave.  While
the core starts no MRAM write, the slot is not written and the commit waits (R13). -/
def commitDone (signed compared : Bool) (s : State) : State :=
  match s.cmd.longs.find? (fun l => l.opcode == 0x0203) with
  | none => s
  | some l =>
    let img := match s.sto.staging with | some g => stagedBytes g | none => []
    if !s.stagedGood || !signed then cmdDone l stAuthFail [] (setValid l.arg (l.arg2 != 0) s)
    else if s.pair.noMram then s
    else if compared then cmdDone l stOk (toBE 4 (imgVersion img)) (setValid l.arg true (putSlot l.arg img s))
    else cmdDone l stAuthFail [] (setValid l.arg false (putSlot l.arg [] s))

/-- The meaning of `IMAGE_COMMIT_COMPLETE`. -/
def execImageCommitComplete (signed compared : Bool) (s : State) : Outcome :=
  act (whenServing (commitDone signed compared)) s

/-- `IMAGE_SELECT` (R472): a boot selection record (Table 16-5). -/
def cmdImageSelect (h : CmdHdr) (slot fallback : Nat) (s : State) : State :=
  command 0x0204 h (toBE 1 slot ++ toBE 1 fallback) (fun s =>
    if slot > 1 then ansRange s 0
    else if fallback > 1 then ansRange s 1
    else if s.committing slot || !s.slotValid slot || s.pair.noMram then ansConflict s
    else ansOk (startRecord 1 (toBE 1 slot ++ toBE 1 fallback)
      ((s.wr GLB_SEL_SLOT.f slot).wr GLB_SEL_FALLBACK.f fallback))) s

/-- The meaning of `IMAGE_SELECT`. -/
def execImageSelect (h : CmdHdr) (slot fallback : Nat) (s : State) : Outcome :=
  act (whenServing (cmdImageSelect h slot fallback)) s

/-- `IMAGE_INFO` (R60). -/
def cmdImageInfo (h : CmdHdr) (slot : Nat) (s : State) : State :=
  command 0x0205 h (toBE 1 slot) (fun s =>
    if slot > 1 then ansRange s 0
    else
      let b := s.slotBytes slot
      ansOk s (toBE 1 (b2n (s.slotValid slot)) ++ toBE 4 (imgVersion b) ++ toBE 4 (imgLength b) ++ toBE 2 (imgSections b))) s

/-- The meaning of `IMAGE_INFO`. -/
def execImageInfo (h : CmdHdr) (slot : Nat) (s : State) : Outcome := act (whenServing (cmdImageInfo h slot)) s

/-! `CONFIG_APPLY` (R474). -/

/-- The image whose sections a `CONFIG_APPLY` takes. -/
def State.applyImage (s : State) (other : Bool) : List Byte :=
  let run := s.rd GLB_RUN_SLOT.f
  s.slotBytes (if other then 1 - run else run)

/-- The other slot may give sections: valid, no commit pending to it, the running firmware (R474, R478). -/
def State.otherUsable (s : State) : Bool :=
  let o := 1 - s.rd GLB_RUN_SLOT.f
  s.slotValid o && !s.committing o && sectionBody (s.applyImage true) 0 == sectionBody (s.applyImage false) 0

/-- A selector that a mask's banked sections would turn is armed already (R17, R137). -/
def State.bankArmed (s : State) (mask : Nat) : Bool :=
  (names mask [2, 4, 8] && s.hst.swapAt.isSome) || (bit mask 2 && s.tcy.switch.isSome)
    || s.sto.applyAt.any (fun a => [2, 4, 8].any (fun n => bit a.mask n && bit mask n))

/-- The profile an image activates. -/
def profileOf (l : List Item) (dflt : Nat) : Nat :=
  (l.filterMap (fun i => match i with | .word off v => if off == 0x100000 then some (bits v 8 3) else none | _ => none)
    ).getLast?.getD dflt

/-- Arm a `CONFIG_APPLY`: with a profile section it arms the profile switch too (R267). -/
def armApply (a : ApplyAt) (s : State) : State :=
  let s1 := { s with sto := { s.sto with applyAt := s.sto.applyAt ++ [a] } }
  if bit a.mask 6 && s.switchable && bit (imgMask (s.applyImage a.other)) 6 then
    let l := itemsOf (imgSet (s.applyImage a.other) (2 ^ 6)) 6
    armProfile (profileOf l (s.rd SIG_PROFILE_RESET.f)) a.cycle 2 0 s1
  else s1

/-- `CONFIG_APPLY` (R474). -/
def cmdConfigApply (h : CmdHdr) (mask cycle : Nat) (s : State) : State :=
  command 0x0206 h (toBE 4 mask ++ toBE 4 cycle) (fun s =>
    let other := bit mask 31
    let m := mask % 2 ^ 31
    if bit mask 0 || 2 ^ 17 ≤ m then ansRange s 0
    else if !cycleAhead cycle s.cycle || (other && !s.otherUsable) || s.bankArmed m || (bit m 6 && s.on SIG_PROFILE_ARMED.f)
    then ansConflict s
    else acceptLong h 0x0206 cycle mask
      (fun t => armApply { id := s.cmd.nextLong, cycle := cycle, mask := m, other := other } t) s) s

/-- The meaning of `CONFIG_APPLY`. -/
def execConfigApply (h : CmdHdr) (mask cycle : Nat) (s : State) : Outcome := act (whenServing (cmdConfigApply h mask cycle)) s

/-- The end of one `CONFIG_APPLY`. -/
def applyEnd (a : ApplyAt) (status : Nat) (data : List Byte) (s : State) : State :=
  match s.cmd.longs.find? (fun l => l.id == a.id) with
  | some l => cmdDone l status data s
  | none => s

/-- Sections in `GLB_CFG_SOURCE` that come from the other slot from now on. -/
def cfgSource (old mask : Nat) (other : Bool) : Nat :=
  if other then old ||| mask else old &&& (2 ^ 32 - 1 ^^^ mask)

/-- Shadow banks that an apply has written over are no longer those a Hoist has built (R18, R157): the node is back in
run-ahead. -/
def spoilShadows (mask : Nat) (s : State) : State :=
  if !names mask [2, 4, 8] then s
  else
    let s1 := s.setSlotShadow { s.slotShadow with ready := if bit mask 2 then false else s.slotShadow.ready && s.rd HST_STATE.f == 0 }
    if s1.rd HST_STATE.f == 2 then s1.wr HST_STATE.f 1 else s1

/-- What an apply does to the profile: `SIG_PROFILE_RESET` becomes the active one at the boundary (R267). -/
def applyProfile (s : State) : State :=
  if s.on SIG_PROFILE_ARMED.f then s
  else flipProfile (armProfile (s.rd SIG_PROFILE_RESET.f) s.cycle 2 0 s)

/-- An armed switch of a refused apply falls away. -/
def dropProfile (a : ApplyAt) (s : State) : State :=
  if bit a.mask 6 && s.on SIG_PROFILE_ARMED.f && s.sig.profSource == 2 then disarmProfile s else s

/-- The boundary a `CONFIG_APPLY` names has come: every named section, or none (R474). -/
def applyNow (s0 : State) (a : ApplyAt) : State :=
  let s := { s0 with sto := { s0.sto with applyAt := s0.sto.applyAt.filter (fun x => x.id != a.id) } }
  let img := s.applyImage a.other
  let missing := (List.range 17).find? (fun n => bit a.mask n && !bit (imgMask img) n)
  match missing with
  | some n => applyEnd a stRange (toBE 4 n) (dropProfile a s)
  | none =>
    let r := applySections false a.mask (imgSet img a.mask) s
    match r.2 with
    | some f =>
      let data := if f.status = stConflict then toBE 2 0 else toBE 4 f.section_ ++ (match f.check with
        | some k => toBE 2 k
        | none => [])
      applyEnd a f.status data (dropProfile a s)
    | none =>
      let s1 := r.1.wr GLB_CFG_SOURCE.f (cfgSource (s.rd GLB_CFG_SOURCE.f) a.mask a.other)
      let s2 := spoilShadows a.mask (if bit a.mask 6 then applyProfile s1 else s1)
      applyEnd a stOk (toBE 4 a.mask) s2

/-- Every `CONFIG_APPLY` of the cycle that starts, oldest first. -/
def applyDue (s : State) : State := (s.sto.applyAt.filter (fun a => a.cycle == s.cycle)).foldl applyNow s

/-! Start-up (R462, R464, R470, R471). -/

/-- The boot selection of the journal (R468): slot and fallback; with no record they are the board's. -/
def State.bootRecord (s : State) : Nat × Bool :=
  match (s.sto.journal.filter (fun r => r.typ == 1)).getLast? with
  | some r => (byteAt r.body 0 % 2, byteAt r.body 1 != 0)
  | none => (b2n Config.bootSlotB, Config.bootFallback)

/-- Note a slot found invalid at a start (R470). -/
def noteInvalid (slot reason : Nat) (s : State) : State :=
  let s1 := setValid slot false (faultLog 0 slot reason (s.inc GLB_BOOT_FAILS.f))
  { s1 with sto := { s1.sto with imageFaults := s1.sto.imageFaults ++ [(slot, reason, imgVersion (s.slotBytes slot))] } }

/-- Raise what the start has found (R467, R470): failing blocks of an identity record are open. -/
def raiseStart (s : State) : State :=
  let s1 := s.sto.imageFaults.foldl
    (fun (t : State) (f : Nat × Nat × Nat) => t.raise 0x0201 0 (toBE 1 f.1 ++ toBE 1 f.2.1 ++ toBE 4 f.2.2)) s
  let one (t : State) (k : Nat) : State :=
    let (o, t1) := takeFree 32 t
    let (n, t2) := takeFree 16 t1
    t2.raise 0x0203 0x5004 (toBE 1 k ++ toBE 4 o ++ toBE 2 n)
  let s2 := s1.sto.idFaults.foldl one s1
  { s2 with sto := { s2.sto with imageFaults := [], idFaults := [] } }

/-- OPER of the units that have no word of their own, and of the ports, at a start. -/
def startOpers (s : State) : State :=
  let s1 := (List.range 81).foldl (fun t n => setMacOper n (macOper t n) t) s
  let s2 := (List.range 4).foldl (fun t p => t.setOper (unitId 3 p) (t.peOper p)) s1
  let s3 := (List.range 4).foldl (fun t i => t.setOper (unitId 1 (88 + i)) (t.legOper (88 + i))) s2
  let s4 := [0, 1].foldl (fun t d => t.setOper (unitId 0x0A d) 2) s3
  let s5 := [2, 3, 4, 5].foldl (fun t r => t.setOper (unitId 0x0B r) 2) s4
  (s5.setOper (unitId 0x0B 0) (1 + b2n s5.sys.refLostA)).setOper (unitId 0x0B 1) (1 + b2n s5.sys.refLostB)

/-- Recovery, stage 5 (R471): no section, no port but `SS`, and `MT` under R41. -/
def enterRecovery (s : State) : State :=
  let s1 := { s with sys := { s.sys with stage := 5, started := false }, sto := { s.sto with checking := none } }
  let s2 := rehealth (s1.wr GLB_RECOVERY.f 1)
  raiseStart (s2.sto.idFaults.foldl (fun t k => faultLog 1 k 0 t) s2)

/-- The words that straps and identity give at the internal release (R465, R466, R479). -/
def latchBoard (b : BoardLevels) (s : State) : State :=
  let install := b.installOk || s.sto.installOk
  let veh := if !install then 0 else if s.sto.installOk then s.sto.vehId else b.vehId
  let uid := if b.factoryOk then b.uid else 0
  let mac := if b.factoryOk then b.mac else 0
  let s1 := ((((s.wr GLB_STRAP_BOOT.f b.boot).wr GLB_STRAP_COLD.f b.cold).wr GLB_STRAP_PAIR.f b.pair).wr GLB_STRAP_MAINT.f
    b.maint).wr GLB_STRAP_JTAG.f b.jtag
  let s2 := (((((s1.wr GLB_UID.f uid).wr HST_UID.f uid).wr GLB_MAC_ADDR.f mac).wr HST_VEH_ID.f veh).wr GLB_VEH_ID_SET.f
    veh).wrB GLB_FACTORY_FAULT.f (!b.factoryOk)
  let ids := (if b.factoryOk then [] else [0]) ++ (if install then [] else [1])
  { s2.wrB GLB_INSTALL_FAULT.f (!install) with
      sto := { s2.sto with factoryOk := b.factoryOk, uid := uid, mac := mac, revoked := b.revoked, minVersion := b.minVersion,
                           vehId := veh, idFaults := ids } }

/-- What the core brings up with its straps and identity known: the role of the straps, the die links, the seed of the
contest (R127, R465). -/
def coreUp (s : State) : State :=
  let jtag := s.rd GLB_STRAP_JTAG.f == 3
  let s1 := (s.wrB TCY_COLD_CAP.f (2 ≤ s.rd GLB_STRAP_COLD.f && !jtag)).wrB RED_PAIR.f (2 ≤ s.rd GLB_STRAP_PAIR.f)
  let s2 := ((((s1.wr (GLB_LINKl_UP.f 2) 1).wr (GLB_LINKl_UP.f 3) 1).wr (GLB_LINKl_UP.f 4) 1).wr PWR_LINK_UP.f 1)
  let s3 : State := { s2 with tcy := { s2.tcy with lfsr := lfsrSeed s2.sto.uid },
                              rab := { s2.rab with notices := [0xFF] },
                              pair := { s2.pair with prefer := 0 } }
  startOpers (syncPwr s3)

/-- The internal release (R462): straps are latched, identity is read, and the image check of the selected slot begins, or
recovery. -/
def release_ (b : BoardLevels) (s : State) : State :=
  if s.sys.power != 2 then s
  else
    let cause := s.sys.resetCause
    let s1 := { s with sys := { s.sys with power := 3, stage := 2, started := false }, clk := State.reset.clk }
    let s2 := coreUp (latchBoard b s1)
    let sel := s2.bootRecord
    let s3 := ((s2.wr GLB_RESET_CAUSE.f cause).wr GLB_SEL_SLOT.f sel.1).wrB GLB_SEL_FALLBACK.f sel.2
    let s4 := (s3.wrB GLB_SLOTA_VALID.f s3.sto.validA).wrB GLB_SLOTB_VALID.f s3.sto.validB
    let first := if b.boot % 4 = 0 then sel else ((b.boot - 1) % 2, true)
    if !s4.sto.idFaults.isEmpty || b.boot % 4 = 3 then enterRecovery s4
    else { s4 with sto := { s4.sto with checking := some first } }

/-- The meaning of `INTERNAL_RELEASE`. -/
def execInternalRelease (b : BoardLevels) (s : State) : Outcome := act (release_ b) s

/-- Stage 3 on a slot (Table 16-2): its sections have been applied. -/
def enterRun (slot : Nat) (fellBack : Bool) (s : State) : State :=
  let img := s.slotBytes slot
  let s1 := (((setValid slot true s).wr GLB_RUN_SLOT.f slot).wrB GLB_FELL_BACK.f fellBack).wr GLB_IMAGE_VERSION.f (imgVersion img)
  let s2 := (s1.wr GLB_IMAGE_SECTIONS.f (imgMask img)).wr GLB_BOOT_MS.f (Nat.min 65535 (s.clk.up / 1000000))
  let s3 := s2.wr SIG_PROFILE.f (s2.rd SIG_PROFILE_RESET.f)
  let s4 := { s3 with sys := { s3.sys with stage := 3, started := true }, sto := { s3.sto with checking := none } }
  let s5 := settleDomains (rehealth (startOpers s4))
  let s6 := if s5.lad.restartDue then
      raiseThermal 3 true { s5 with lad := { s5.lad with restartDue := false } } else s5
  raiseStart s6

/-- The check of a slot's image is complete: `result` 0 its signature verifies, 1 it does not, more an uncorrectable read. -/
def slotReason (s : State) (b : List Byte) (result : Nat) : Option Nat :=
  if 2 ≤ result then some 6
  else match s.headerReason b with
    | some r => some r
    | none => if result = 1 then some 0 else if sectionsTaken s b then none else some 5

/-- A firmware restart checks the firmware it runs again (Table 16-1); sections stay as they are. -/
def restartDone (result : Nat) (s : State) : State :=
  if result = 0 then
    rehealth { s with sys := { s.sys with stage := 3, faultCode := 0 }, sto := { s.sto with checking := none } }
  else enterRecovery s

/-- The image check completes: the node boots, falls back, or enters recovery. -/
def checkDone (slot result : Nat) (s : State) : State :=
  match s.sto.checking with
  | none => s
  | some (k, fallback) =>
    if k != slot then s
    else if s.sys.started then restartDone result s
    else
      let img := s.slotBytes slot
      match slotReason s img result with
      | none =>
        enterRun slot (!s.sto.imageFaults.isEmpty) (applySections true (imgMask img) (imgSet img (imgMask img)) s).1
      | some r =>
        let s1 := noteInvalid slot r s
        if fallback then { s1 with sto := { s1.sto with checking := some (1 - slot, false) } } else enterRecovery s1

/-- The meaning of `IMAGE_CHECK_DONE`. -/
def execImageCheckDone (slot result : Nat) (s : State) : Outcome := act (whenReleased (checkDone slot result)) s

/-! `NODE_RESET` (R463). -/

/-- A port of the rings is reset (R54): rings and event path close; commands already taken, those open on the bridge among them,
end without an answer and are counted. -/
def ringReset (hb : Bool) (s : State) : State :=
  let x := hx hb
  let p := if hb then CmdPort.hb else CmdPort.ha
  let s1 := [CMD_Hx_RING_EN, CMD_Hx_EVT_EN, CMD_Hx_RING_HEAD, CMD_Hx_RING_TAIL, CMD_Hx_EVT_WRITE, CMD_Hx_EVT_READ].foldl
    (fun (t : State) (r : Row) => t.wr (r.f x) 0) s
  let s2 := s1.setEp hb { s1.ep hb with phase := true }
  let cut (l : Long) : Long := if l.via.port == p then { l with abandoned := true } else l
  let waits := (if hb then s2.cmd.waitHB else s2.cmd.waitHA).length
  let s3 := { s2 with cmd := { s2.cmd with longs := s2.cmd.longs.map cut } }
  let s4 := if hb then { s3 with cmd := { s3.cmd with waitHB := [] } } else { s3 with cmd := { s3.cmd with waitHA := [] } }
  resetRings hb (portReset p (s4.incBy (CMD_Hx_LOST.f x) (waits + s4.openCount p)))

/-- Kind 0: the firmware restarts (Table 16-1).  Long commands end without `CMD_DONE`, packets that wait and a staged image
(R472) are forgotten, and
`HA`, `HB` and `MT` count as reset. -/
def firmwareRestart (s : State) : State :=
  let s1 := portReset .mt (ringReset true (ringReset false s))
  let prof := s1.on SIG_PROFILE_ARMED.f && s1.sig.profSource == 2
  let s2 := if prof then disarmProfile s1 else s1
  let sto := s2.cutCommits
  let s3 := { s2 with cmd := { s2.cmd with waitSS := [], waitHA := [], waitHB := [], waitMT := [], waitTrain := [], longs := [],
                                           ssCache := [], mtCache := [], mtParts := [] },
                      sto := { sto with applyAt := [], staging := none, checking := some (s2.rd GLB_RUN_SLOT.f, false) },
                      sys := { s2.sys with stage := 1 } }
  rehealth ((s3.wr GLB_RESET_CAUSE.f 3).syncPending)

/-- A reset of a kind: in recovery no image firmware runs that could restart alone, so either kind is a full one. -/
def resetKind (kind : Nat) (s : State) : State :=
  let s1 := s.emit (.nodeReset kind)
  if kind = 0 && s1.sys.stage == 3 then firmwareRestart s1 else coreReset 2 (if kind = 0 then 3 else 2) s1

/-- `NODE_RESET` (R463): the reply leaves before the reset. -/
def cmdNodeReset (h : CmdHdr) (kind : Nat) (s : State) : State :=
  let own := opClasses 0x0209 |>.any (fun c => c.contains (classOf h.via.port))
  let runs := own && h.target ≤ 128 && !((h.target != 0 || h.epochCheck) && !s.epochOk h.epoch) && s.isLocal h && kind ≤ 1
  let t := command 0x0209 h (toBE 1 kind) (fun s => if kind > 1 then ansRange s 0 else ansOk s) s
  if runs then resetKind kind t else t

/-- The meaning of `NODE_RESET`. -/
def execNodeReset (h : CmdHdr) (kind : Nat) (s : State) : Outcome := act (whenServing (cmdNodeReset h kind)) s

/-! Out of Bog (R452, R453). -/

/-- Parameter words of a resume record (Table 16-5). -/
def resumeWords (b : List Byte) : List (Nat × Nat) :=
  (List.range ((b.length - 44) / 12)).map (fun k => (beAt b (44 + 12 * k) 4, beAt b (48 + 12 * k) 8))

/-- Write the words of a resume record and note them again. -/
def restoreWords (l : List (Nat × Nat)) (s : State) : State :=
  l.foldl (fun t (w : Nat × Nat) => noteWritten w.1 (writeWord .safety w.1 w.2 (2 ^ 64 - 1) t)) s

/-- The node comes up with its resume record: no image is checked, the clock resumes (R453). -/
def resume (body : List Byte) (seconds : Nat) (s : State) : State :=
  let slot := byteAt body 10
  let img := s.slotBytes slot
  let now := beAt body 0 10 + seconds * 1000000000
  let s1 := { s with sys := { s.sys with power := 3, stage := 2, started := false }, clk := { now := now, frac := 0, up := 0 } }
  let ids (t : State) : State :=
    (((t.wr GLB_UID.f t.sto.uid).wr HST_UID.f t.sto.uid).wr GLB_MAC_ADDR.f t.sto.mac).wr HST_VEH_ID.f t.sto.vehId
  let s2 := coreUp ((ids s1).wr GLB_VEH_ID_SET.f s1.sto.vehId)
  let sel := s2.bootRecord
  let s3 := ((s2.wr GLB_RESET_CAUSE.f 5).wr GLB_SEL_SLOT.f sel.1).wrB GLB_SEL_FALLBACK.f sel.2
  let s4 := (s3.wrB GLB_SLOTA_VALID.f s3.sto.validA).wrB GLB_SLOTB_VALID.f s3.sto.validB
  let s5 := (applySections true (imgMask img) (imgSet img (imgMask img)) s4).1
  settleDomains (restoreWords (resumeWords body) (enterRun slot false s5))

/-- A wake indication in Bog from an enabled source (R452): the wake signal goes out on the lane-0 ports, and the node comes up
with its resume record, or starts as from a reset when the digest differs or the record overflowed (R453, R468). -/
def wakeUp (source pes seconds : Nat) (s : State) : State :=
  if s.sys.power != 1 || source > 5 || !bit s.lad.wakeMask source then s
  else
    let s1 := ((s.wr LAD_WAKE_CAUSE.f (source + 1)).wr LAD_WAKE_PE.f (if source = 5 then pes else 0)).wr LAD_LAST_BOG_S.f seconds
    let s2 := s1.emit (.pin .wakeSignal 1)
    match (s2.sto.journal.filter (fun r => r.typ == 2)).getLast? with
    | none => coreReset 2 0 s2
    | some r =>
      let same := beAt r.body 11 32 == Config.imageDigest (s2.slotBytes (byteAt r.body 10)) % 2 ^ 256
      if same && byteAt r.body 43 == 0 then resume r.body seconds s2 else coreReset 2 0 s2

/-- The meaning of `WAKE_INDICATION`. -/
def execWakeIndication (source pes seconds : Nat) (s : State) : Outcome := act (wakeUp source pes seconds) s

end Sys2Proof.Machine
end

