-- ==== Sys2Proof/Machine/Boundary.lean ====
section
/-!
DEFINITION. What comes with the cycle itself: the boundary at which armed selectors flip (R15, R105, R108), and the start of
the message phase (R106, R125).
-/
namespace Sys2Proof.Machine
open Sys2Proof

/-- A profile switch armed for the cycle that starts (R268). -/
def profileBoundary (s : State) : State :=
  if s.on SIG_PROFILE_ARMED.f && s.rd SIG_PROFILE_CYCLE.f == s.cycle then flipProfile s else s

/-- The Hoist swap of the cycle that starts, and the semaphores of nodes that have left with it (R160, R376). -/
def hoistBoundary (s : State) : State :=
  let t := swapBoundary s
  if t.tcy.overlap == some s.cycle && s.tcy.overlap != some s.cycle then releaseDeparted t else t

/-- The overlap cycle ends for directory, duplicate state and bridge. -/
def overlapBoundary (s : State) : State :=
  let t := overlapEnd s
  if s.tcy.overlap.isSome && t.tcy.overlap.isNone then bridgeOverlapEnd t else t

/-- What a node that still keeps its cycle after the swaps does as the cycle starts. -/
def openCycle (s : State) : State :=
  let s1 := succession s
  presentImages (if s1.isLead then leadCycle s1 else s1)

/-- A cycle boundary: the cycle number advances, and everything armed for the cycle that starts takes effect (R15, R111, R160,
R163, R184, R268, R450, R474).  A node that goes to sleep or leaves the train does nothing more in it. -/
def boundary (s : State) : State :=
  if !s.keepsCycle || s.clk.now < s.tcy.start + s.rd TCY_CYCLE_NS.f then s
  else
    let s1 := if s.isLead then designate s.cycle s else s
    let s2 := applyStep (nextCycle (clearWaiting s1))
    let s3 := (List.range 4).foldl (fun t p => flipLanes (s2.upAt s2.tcy.start) p t) (applyDue s2)
    let s4 := leadBoundary (hoistBoundary (overlapBoundary (applySwitch (profileBoundary s3))))
    let s5 := yieldRestart s4
    let s6 := sleepBoundary s5
    if s6.sys.power != 3 || !s6.keepsCycle then s6 else openCycle s6

/-- The meaning of `CYCLE_BOUNDARY`. -/
def execCycleBoundary (s : State) : Outcome := act (whenRunning boundary) s

/-- The position report of a capable node, and of the Lead, once per message phase (R202, R203). -/
def reportPhase (s : State) : State :=
  if !(s.on POS_ODO_CAP.f || s.isLead) || s.originSilent then s
  else
    let b := positionReport s
    takeReport (reportOf (s.rd HST_NODE_NUM.f) b) s.isLead (originate 2 b 7 chainControl [false, true] false none s)

/-- The message phase opens: Hoist control, the position report and the bridge's packets are sent or queued. -/
def messagePhase (s : State) : State :=
  if !s.keepsCycle || s.tcy.phaseDone || !s.inMsgPhase then s
  else bridgePhase (reportPhase (hoistPhase { s with tcy := { s.tcy with phaseDone := true } }))

/-- The meaning of `MESSAGE_PHASE_START`. -/
def execMessagePhaseStart (s : State) : Outcome := act (whenRunning messagePhase) s

end Sys2Proof.Machine
end

