-- ==== Sys2Proof/Machine/MemErr.lean ====
section
/-!
DEFINITION. Memory errors (R14, Table 01-3, R333), reference clocks (R20), and mismatches of CFG and OPER (R31).
-/
namespace Sys2Proof.Machine
open Sys2Proof

/-! Uncorrectable errors. -/

/-- A cell of an account is retired: the account shrinks by one (R333). -/
def retireCell (a : Nat) (s : State) : State :=
  let s1 := s.inc MAC_BUF_RETIRED.f
  if a = 4 || a = 5 then { s1 with net := { s1.net with retired := putKey Prod.fst (a, s1.hostLost a + 1) s1.net.retired } }
  else match acctField a with
    | some f => s1.wr f (s1.rd f - 1)
    | none => s1

/-- Take one cell of an account out of a holding. -/
def lessCell (a : Nat) (l : List (Nat × Nat)) : List (Nat × Nat) :=
  (l.map (fun (p : Nat × Nat) => if p.1 = a then (p.1, p.2 - 1) else p)).filter (fun p => p.2 != 0)

/-- Drop every copy of a held frame that has not left, each counted on its MAC (R334): on its wire, in queues, bound to an event,
or waiting for a slot egress.  A message released to a slot and held there is discarded. -/
def dropEcc (id : Nat) (s : State) : State :=
  let s0 := ((s.net.sending ++ s.net.backoff).filter (fun c => c.buf == id)).foldl
    (fun t c => dropCopy c 58 (clearAttempts c.mac (endSending c.mac t))) s
  let s1 := (s0.net.queue.filter (fun c => c.buf == id)).foldl (fun t c => dropCopy c 58 (t.dequeue c)) s0
  let bound := s1.sch.bound.filter (fun b => b.buf == id)
  let s2 := { s1 with sch := { s1.sch with bound := s1.sch.bound.filter (fun b => b.buf != id) } }
  let lostCopy (t : State) (c : Egress × Nat) : State :=
    unref id (match c.1 with
      | .port m => stat m 58 1 t
      | .plane y => match (t.originOut y).bind (fun p => t.egressMac p (t.rd HST_NODE_NUM.f)) with
        | some m => stat m 58 1 t
        | none => t)
  let s3 := bound.foldl (fun t b => syncBound b.event (b.copies.foldl lostCopy t)) s2
  let lost (t : State) (w : SlotOut) : State :=
    let l := t.slotLane w.pe w.slot
    unref id (dropWaiting w (if l < 4 then stat (4 * w.pe + l) 58 1 t else t))
  let s4 := (s3.tcy.waiting.filter (fun w => w.buf == id)).foldl lost s3
  let n := (s4.eng.slots.filter (fun p => p.buf == id)).length
  let s5 := { s4 with eng := { s4.eng with slots := s4.eng.slots.filter (fun p => p.buf != id) } }
  (List.range n).foldl (fun t _ => unref id t) s5

/-- An uncorrectable error in a cell of a held frame. -/
def cellError (id : Nat) (s : State) : State :=
  match s.heldOf id with
  | none => s
  | some h => match h.cells.head? with
    | none => s
    | some p =>
      let s1 := s.setHeld id (fun x => { x with cells := lessCell p.1 x.cells })
      ((dropEcc id (retireCell p.1 s1)).syncShared).syncCells h.mac

/-- A bank of a table is marked faulty, and `TABLE_FAULT` is raised (R14, R18).  The profile selector, two banks of 64 bits,
is not among the memories whose faulty bank stops traffic. -/
def tableError (table bank pe : Nat) (s : State) : State :=
  let report (t : State) : State := tableFault (if table = 2 then unitId 3 pe else 0) table bank 0 0 t
  match table with
  | 0 => report { s with net := { s.net with faulty := bank :: s.net.faulty.filter (· != bank) } }
  | 1 => report (if bank = 1 then { s with tcy := { s.tcy with bankB := { s.tcy.bankB with faulty := true } } }
      else { s with tcy := { s.tcy with bankA := { s.tcy.bankA with faulty := true } } })
  | 2 => report { s with bkb := { s.bkb with faulty := (pe, bank) :: s.bkb.faulty.filter (· != (pe, bank)) } }
  | 3 => report { s with sig := { s.sig with faulty := (bank == 1) :: s.sig.faulty.filter (· != (bank == 1)) } }
  | 4 => report s
  | _ => s

/-- An error in an identity record as it is read after the internal release: the node stays in recovery (R466). -/
def identityError (rec_ : Nat) (s : State) : State :=
  if s.sys.started || s.sys.stage == 5 then s
  else
    let s1 := if rec_ = 0 then
        { ((s.wr GLB_UID.f 0).wr HST_UID.f 0).wr GLB_MAC_ADDR.f 0 |>.wr GLB_FACTORY_FAULT.f 1 with
            sto := { s.sto with factoryOk := false, uid := 0, mac := 0 } }
      else { (s.wr HST_VEH_ID.f 0).wr GLB_INSTALL_FAULT.f 1 with sto := { s.sto with installOk := false } }
    enterRecovery { s1 with sto := { s1.sto with idFaults := [rec_ % 2] } }

/-- A journal block that cannot be read is skipped (R468). -/
def journalError (seq : Nat) (s : State) : State :=
  if s.sto.journal.any (fun r => r.seq == seq) then
    { s.inc GLB_JOURNAL_SKIPS.f with sto := { s.sto with journal := s.sto.journal.filter (fun r => r.seq != seq) } }
  else s

/-- The number of a memory in Table 01-3. -/
def memoryOf : MemPlace → Nat
  | .cell _ => 0
  | .mapEntry _ => 1
  | .value _ => 2
  | .table _ _ _ => 3
  | .engine _ _ => 4
  | .deque _ => 5
  | .event _ => 6
  | .record _ => 7
  | .staged _ => 7
  | .slot _ => 8
  | .journal _ => 8
  | .identity _ => 8

/-- What an uncorrectable error leads to (Table 01-3). -/
def memoryError (p : MemPlace) (s : State) : State :=
  match p with
  | .cell id => whenRunning (cellError id) s
  | .mapEntry i => whenRunning (fun t => { t with sig := { t.sig with mapFaults := i :: t.sig.mapFaults.filter (· != i) } }) s
  | .value i => whenRunning (fun t => { t with sig := { t.sig with valueFaults := i :: t.sig.valueFaults.filter (· != i) } }) s
  | .table t b pe => if t ≤ 4 && b ≤ 1 && pe ≤ 3 then whenRunning (tableError t b pe) s else s
  | .engine e registers => if e < 512 then whenRunning (engineFault e (if registers then 2 else 1)) s else s
  | .deque e => if e < 512 then whenRunning (engineFault e 3) s else s
  | .event i => whenRunning (faultEvent i) s
  | .record q => { s with sto := { s.sto with ring := s.sto.ring.map (fun r => if r.seq == q then { r with damaged := true } else r) } }
  | .staged _ => { s with sto := { s.sto with staging := s.sto.staging.map (fun g => { g with bad := true }) } }
  | .slot k => (match s.sto.checking with | some (n, _) => if n == k then checkDone k 2 s else s | none => s)
  | .journal q => journalError q s
  | .identity r => whenReleased (identityError r) s

/-- An access finds an uncorrectable error: it is counted for its memory. -/
def uncorrectable (p : MemPlace) (s : State) : State :=
  if s.sys.power < 2 then s else memoryError p (s.inc (GLB_MEMm_UNCORR.f (memoryOf p)))

/-- The meaning of `UNCORRECTABLE_ERROR`. -/
def execUncorrectableError (place : MemPlace) (s : State) : Outcome := act (uncorrectable place) s

/-- A corrected error is counted and changes nothing else (R14); memory 5 has parity only, and no error of it is corrected.  One in
the DRAM or the MRAM while its domain stands below Run is counted when the domain next returns to Run (R485). -/
def corrected (memory : Nat) (s : State) : State :=
  if s.sys.power < 2 || memory > 8 || memory == 5 then s
  else if memory ≥ 7 && s.rd (LAD_Dd_RUNG.f (171 + memory)) != 0 then
    { s with lad := { s.lad with corrected := modifyAt (memory - 7) (· + 1) s.lad.corrected } }
  else s.inc (GLB_MEMm_CORR.f memory)

/-- The meaning of `CORRECTED_ERROR`. -/
def execCorrectedError (memory : Nat) (s : State) : Outcome := act (corrected memory) s

/-! Reference clocks (R20): 0 `REFCLK_A`, on which the timebase PLL stands, 1 `REFCLK_B`, on which the system PLL stands. -/

/-- A reference clock is lost. -/
def State.clockLost (s : State) (ref_ : Nat) : Bool := if ref_ = 0 then s.sys.refLostA else s.sys.refLostB

/-- Mark a reference clock lost or present. -/
def setClockLost (ref_ : Nat) (v : Bool) (s : State) : State :=
  if ref_ = 0 then { s with sys := { s.sys with refLostA := v } } else { s with sys := { s.sys with refLostB := v } }

/-- A reference clock misses edges or leaves ±200 ppm: its PLL switches to the other one, or both hold over. -/
def refclkLost (ref_ : Nat) (s : State) : State :=
  if ref_ > 1 || s.clockLost ref_ then s
  else
    let s1 := (setClockLost ref_ true s).setOper (unitId 0x0B ref_) 2
    s1.raise 0x0302 (unitId 0x0B ref_) (toBE 1 (if s.clockLost (1 - ref_) then 2 else 1 - ref_))

/-- The meaning of `REFCLK_LOST`. -/
def execRefclkLost (ref_ : Nat) (s : State) : Outcome := act (whenReleased (refclkLost ref_)) s

/-- A lost reference clock returns. -/
def refclkReturn (ref_ : Nat) (s : State) : State :=
  if ref_ > 1 || !s.clockLost ref_ then s
  else
    let s1 := (setClockLost ref_ false s).setOper (unitId 0x0B ref_) 1
    s1.raise 0x0302 (unitId 0x0B ref_) (toBE 1 (1 - ref_)) true

/-- The meaning of `REFCLK_RETURN`. -/
def execRefclkReturn (ref_ : Nat) (s : State) : Outcome := act (whenReleased (refclkReturn ref_)) s

/-! Mismatch (R31). -/

/-- An inconsistent combination of CFG and OPER has lasted 100 µs. -/
def enterMismatch (u : Nat) (s : State) : State :=
  if s.consistent u || s.sys.mismatch.contains u then s
  else raiseMismatch u false { s with sys := { s.sys with mismatch := s.sys.mismatch ++ [u] } }

/-- The meaning of `STATE_MISMATCH`. -/
def execStateMismatch (unit : Nat) (s : State) : Outcome := act (whenRunning (enterMismatch unit)) s

end Sys2Proof.Machine
end

