-- ==== Sys2Proof/Machine/Ring.lean ====
section
/-!
DEFINITION. What a backbone frame does when it arrives on a lane (spec/03, R73 to R84; spec/04, R120, R121; spec/10,
R315): checks, windows, duplicate discard, delivery and forwarding.
-/
namespace Sys2Proof.Machine
open Sys2Proof

/-! Duplicate discard (R82, R84). -/

/-- What R82 says of a copy: delivered, a duplicate, or stale. -/
inductive DupVerdict
  | deliver | duplicate | stale
  deriving DecidableEq, Repr

/-- The verdict on a sequence number and the key's state after it. -/
def Dup.judge (d : Dup) (seq : Nat) : DupVerdict × Dup :=
  let ahead := (seq + 2 ^ 32 - d.high) % 2 ^ 32
  let back := (d.high + 2 ^ 32 - seq) % 2 ^ 32
  if 1 ≤ ahead && ahead < 2 ^ 31 then
    (.deliver, { d with high := seq, seen := if ahead < 1024 then (d.seen * 2 ^ ahead + 1) % 2 ^ 1024 else 1 })
  else if back ≤ 1023 then
    (if bit d.seen back then (.duplicate, d) else (.deliver, { d with seen := setBit d.seen back true }))
  else (.stale, d)

/-- Judge a copy of a key and keep the key's state. -/
def judgeDup (origin epoch seq : Nat) (s : State) : DupVerdict × State :=
  let isKey (d : Dup) : Bool := d.origin == origin && d.epoch == epoch
  match s.bkb.dups.find? isKey with
  | none =>
    let d : Dup := { origin := origin, epoch := epoch, high := seq, seen := 1 }
    (.deliver, { s with bkb := { s.bkb with dups := s.bkb.dups ++ [d] } })
  | some d =>
    let (v, d1) := d.judge seq
    (v, { s with bkb := { s.bkb with dups := s.bkb.dups.map (fun x => if isKey x then d1 else x) } })

/-- Count a copy that R82 discards. -/
def countDup (mac : Nat) (v : DupVerdict) (s : State) : State :=
  match v with
  | .deliver => s
  | .duplicate => stat mac 27 1 (s.inc BKB_DUP_DISC.f)
  | .stale => stat mac 27 1 (s.inc BKB_STALE_DISC.f)

/-- The frame of the origin this node is: under its own number and epoch, and in the overlap cycle under those replaced. -/
def State.isOwn (s : State) (f : BbFrame) : Bool :=
  s.ownFrame f || (f.epoch == s.rd HST_PREV_EPOCH.f && s.tcy.overlap == some s.cycle && s.prevNode != 0 && f.origin == s.prevNode)

/-! The receive window (R121). -/

/-- The expected ingress of a slot at a plane-end, in ns from the cycle start; none when the frame does not pass. -/
def State.ingressOf (s : State) (slot p : Nat) : Option Nat :=
  if !s.slotsOn then none
  else match s.slot slot with
    | some x => if x.ingress.getD p noTime == noTime then none else some (x.ingress.getD p noTime)
    | none => none

/-- The error of an arrival against an expected ingress: against this cycle, or the next when that is nearer. -/
def State.windowError (s : State) (e time : Nat) : Int :=
  let d : Int := (time : Int) - s.tcy.start - e
  let next := d - (s.rd TCY_CYCLE_NS.f : Nat)
  if next.natAbs < d.natAbs then next else d

/-- A slot frame or ring Pennant is within its window, or it is counted and perhaps reported. -/
def windowCheck (rx : RxBb) (s : State) : Bool × State :=
  let p := rx.mac / 4
  let out (t : State) : State := stat rx.mac 26 1 (countWindow rx.frame.origin t)
  match s.keepsCycle, s.ingressOf rx.frame.slot p with
  | true, some e =>
    let d := s.windowError e rx.time
    if d.natAbs ≤ s.rd TCY_SLOT_GUARD_NS.f then (true, s) else (false, noteReport p d (out s))
  | _, _ => (false, out s)

/-! Forwarding (R77, R78, R125). -/

/-- The end a frame that came by a plane-end runs toward (0 E1, 1 E2). -/
def towardOf (pe : Nat) : Nat := if pe < 2 then 1 else 0

/-- The frame one hop further. -/
def hopped (f : BbFrame) : BbFrame := { f with hops := (f.hops + 1) % 65536 }

/-- The hop limit stops a frame here. -/
def State.hopLimited (s : State) (f : BbFrame) : Bool := f.hops + 1 ≥ s.rd BKB_HOP_LIMIT.f

/-- The queue a forwarded message-phase frame waits in (R326): 7 for remote access and position reports. -/
def forwardQueue (f : BbFrame) : Nat :=
  if f.kind == 6 || (f.kind == 2 && beAt f.body 0 2 == 0x0301) then 7 else Config.originQueue f.origin % 8

/-- The accounts it draws on (Table 10-7). -/
def forwardChain (mac : Nat) (f : BbFrame) : List Nat :=
  if f.kind == 6 || (f.kind == 2 && beAt f.body 0 2 == 0x0301) then chainControl else chainBestEffort mac (forwardQueue f)

/-- Offer a held message-phase frame to the lane of its egress. -/
def forwardMessage (id out : Nat) (f : BbFrame) (s : State) : State :=
  match s.egressMac out f.origin with
  | some m => offer { plainCopy id m (forwardQueue f) s.clk.up with over_ := some (.bb (hopped f)) } s
  | none => s.inc (BKB_PEp_LANEDROP.f out)

/-! Delivery. -/

/-- A position report is read by the timebase (R202, R203). -/
def deliverReport (f : BbFrame) (s : State) : State :=
  let r := reportOf f.origin f.body
  takeReport r (r.uid == s.rd TCY_LEAD_UID.f && r.uid != 0) s

/-- A message-phase frame held as `id` is delivered. -/
def deliverRing (rx : RxBb) (id : Nat) (s : State) : State :=
  let f := rx.frame
  if f.kind == 6 then takeBridge f s
  else if beAt f.body 0 2 == 0x0301 && f.body.length ≥ 2 then deliverReport f s
  else deliverCarried rx.mac id f.epoch rx.time (s.lastByte rx.mac rx.len rx.time) f.body s

/-- The logical IDs that a wire identifier may stand for (R243): its message number under each rule bound to its node in the
active binding bank, of those a descriptor describes. -/
def State.slotMessages (s : State) (wireId : Nat) : List Nat :=
  let b := s.binding
  if s.sig.faulty.contains s.sig.bank then [] else
  let rules := (List.range b.nodes.length).filter (fun k => b.nodes.getD k 0 == wireId / 65536 && wireId / 65536 != 0)
  (rules.map (fun k => 0x02000000 + k * 65536 + wireId % 65536)).filter (fun m => (b.descOf m).isSome)

/-- A slot frame held as `id` is delivered (R119, R243): its process data become an instance of each message it stands for. -/
def deliverSlot (rx : RxBb) (id : Nat) (s0 : State) : State :=
  let f := rx.frame
  let s := takeReports f s0
  let st := byteAt f.body 6
  match s.slot f.slot with
  | some x =>
    if bit st 0 && !bit st 1 then
      let ids := s.slotMessages x.msg
      if ids.isEmpty then s.inc SIG_NO_BINDING.f
      else ids.foldl (fun t m =>
        deliverMsg m (slice f.body 32 (beAt f.body 4 2)) (compact rx.time) f.origin [] (some id) t.tagNow
          (t.lastByte rx.mac rx.len rx.time) (addRef id t)) s
    else s
  | none => s

/-- The duplicate state of an epoch is kept: the current one, and in the overlap cycle the one replaced (R84). -/
def State.keepsDup (s : State) (epoch : Nat) : Bool := s.epochOk epoch

/-- Judge a forwarded frame by R82 and deliver it where it passes; a frame of an epoch without duplicate state is delivered to
nothing, and so is the node's own. -/
def judgeRing (rx : RxBb) (deliver : State → State) (s : State) : State :=
  let f := rx.frame
  let good (t : State) : State := countRx rx.mac rx.len 1 false t
  if s.isOwn f || !s.keepsDup f.epoch then good s
  else
    let (v, s1) := judgeDup f.origin f.epoch f.seq s
    match v with
    | .deliver => deliver (good s1)
    | _ => countDup rx.mac v s1

/-- A message-phase frame of the ring: held, delivered once, forwarded (R77, R315, R370). -/
def ringMessage (rx : RxBb) (out : Option Nat) (s : State) : State :=
  let f := rx.frame
  match enterBuffer (.bb f) (forwardChain rx.mac f) rx.mac 1 none s with
  | none => stat rx.mac 25 1 s
  | some (id, s1) =>
    let s2 := judgeRing rx (deliverRing rx id) s1
    let s3 := match out with
      | none => s2
      | some p => if s.hopLimited f then stat rx.mac 29 1 (s2.inc BKB_HOPLIM_DISC.f) else forwardMessage id p f s2
    unref id s3

/-- Put a held slot frame or Pennant in line for its egress. -/
def waitEgress (id out : Nat) (rx : RxBb) (delay : Nat) (s : State) : State :=
  let w : SlotOut :=
    { slot := rx.frame.slot, pe := out, frame := { hopped rx.frame with planeY := out % 2 == 1 }, rxTime := some rx.time,
      rxDelay := delay, buf := id }
  { addRef id s with tcy := { s.tcy with waiting := s.tcy.waiting ++ [w] } }

/-- A slot frame of the ring within its window (R119, R120). -/
def ringSlot (rx : RxBb) (out : Option Nat) (s : State) : State :=
  let f := rx.frame
  match enterBuffer (.bb f) chainScheduled rx.mac 1 none s with
  | none => stat rx.mac 25 1 (s.inc MAC_SCHED_NOBUF.f)
  | some (id, s1) =>
    let s2 := judgeRing rx (deliverSlot rx id) s1
    let s3 := match out with
      | none => s2
      | some p => if s.hopLimited f then stat rx.mac 29 1 (s2.inc BKB_HOPLIM_DISC.f) else waitEgress id p rx 0 s2
    unref id s3

/-- A Pennant reaches the cycle unit when R82 lets it, or its epoch has no duplicate state here. -/
def judgePennant (rx : RxBb) (s : State) : State :=
  let f := rx.frame
  if !s.isOwn f && !s.keepsDup f.epoch then takePennant rx (countRx rx.mac rx.len 1 false s)
  else judgeRing rx (takePennant rx) s

/-- A ring Pennant within its window, or exempt from it (R112, R120, R135): a successor's goes on at once. -/
def ringPennant (rx : RxBb) (delay : Nat) (out : Option Nat) (s : State) : State :=
  let f := rx.frame
  let s1 := judgePennant rx s
  match out with
  | none => s1
  | some p =>
    if s.hopLimited f then stat rx.mac 29 1 (s1.inc BKB_HOPLIM_DISC.f)
    else if bit (beAt f.body 14 2) 4 then
      let corr := growCorrection (pnCorrection f.body) delay (s1.clk.now - rx.time)
      sendLocal p { hopped f with planeY := p % 2 == 1, body := setCorrection f.body 68 corr } s1
    else match enterBuffer (.bb f) chainScheduled rx.mac 1 none s1 with
      | none => stat rx.mac 25 1 (s1.inc MAC_SCHED_NOBUF.f)
      | some (id, s2) => unref id (waitEgress id p rx delay s2)

/-- A frame of the node's own comes back to its point of insertion (R77). -/
def returned (rx : RxBb) (s : State) : State := countRx rx.mac rx.len 1 false (s.inc BKB_RETURNED.f)

/-- A forwarded frame of kind 0x0, 0x1, 0x2 or 0x6 on a plane (R77): removed at home, else judged and passed on.
A Pennant without a valid delay is discarded under R178 before its window is judged (DESIGN CHOICE, log entry 84). -/
def ringReceive (rx : RxBb) (s : State) : State :=
  let f := rx.frame
  let pe := rx.mac / 4
  let (out, passes) := s.pathOut (pe % 2 == 1) (towardOf pe)
  let own := s.isOwn f
  let windowed := f.kind == 1 || (f.kind == 0 && !bit (beAt f.body 14 2) 4)
  let go (t : State) : State :=
    if own && passes then returned rx t
    else if f.kind == 0 then ringPennant rx ((t.laneDelay rx.mac).getD 0) out t
    else if f.kind == 1 then ringSlot rx out t
    else ringMessage rx out t
  if f.kind == 0 && (s.laneDelay rx.mac).isNone then s.inc TIM_PN_NODELAY.f
  else if windowed then
    let (ok, s1) := windowCheck rx s
    if ok then go s1 else s1
  else go s

/-- A frame the backbone takes off the lane where it arrives: link-local frames and Hoist control frames.  A link-local
frame of another kind is for nobody. -/
def localReceive (rx : RxBb) (s0 : State) : State :=
  let f := rx.frame
  let s := countRx rx.mac rx.len 1 false s0
  match f.kind with
  | 0 => if (s.laneDelay rx.mac).isNone then s.inc TIM_PN_NODELAY.f else takePennant rx s
  | 3 => takeStartup rx s
  | 4 => takeHoist (rx.mac / 4) f s
  | 5 => takeProvisional (rx.mac / 4) f s
  | 7 => receiveDx rx s
  | 8 => takeLsf rx.mac f s
  | _ => s

/-- An errored frame (R81, R95): it counts toward degradation, and voids a delay exchange it belonged to (R177). -/
def erroredReceive (rx : RxBb) (k : Nat) (s : State) : State :=
  let s1 := erroredFrame rx.mac rx.time (stat rx.mac k 1 s)
  if rx.frame.kind == 7 then receiveDx rx s1 else s1

/-- The Ethernet header is that of its kind of frame (R73). -/
def addressed (f : BbFrame) : Bool :=
  f.etherType == bbEtherType && f.dst == (if f.linkLocal then dstLinkLocal else dstForwarded)

/-- A backbone frame arrives on a lane. -/
def receiveBb (rx : RxBb) (s0 : State) : State :=
  if !s0.laneOn rx.mac || !(s0.lane rx.mac).trained then s0
  else
    let s := wake rx.mac s0
    let f := rx.frame
    match rxError rx.len 4200 rx.fcsOk rx.symOk with
    | some k =>
      if k == 20 then stat rx.mac 20 1 (s.inc BKB_HDR_DISC.f)
      else if k == 21 then erroredReceive rx 21 (s.inc BKB_HDR_DISC.f)
      else if k == 16 || k == 17 || k == 19 then erroredReceive rx k s
      else stat rx.mac k 1 s
    | none =>
      if f.version != 1 || f.kind > 8 || !addressed f then stat rx.mac 22 1 (s.inc BKB_HDR_DISC.f)
      else if !s.through (rx.mac / 4) && !f.linkLocal && f.kind != 4 then
        stat rx.mac 28 1 (s.inc BKB_LOOPED_DISC.f)
      else if f.linkLocal || f.kind == 3 || f.kind == 4 || f.kind == 5 || f.kind == 7 || f.kind == 8 then localReceive rx s
      else ringReceive rx s

/-- A frame as one of a kind. -/
def rxAsKind (rx : RxBb) (kind : Nat) : RxBb := { rx with frame := { rx.frame with kind := kind } }

/-- A frame as a Hoist control frame of a type. -/
def rxAsHoist (rx : RxBb) (typ : Nat) : RxBb :=
  { rx with frame := { rx.frame with kind := 4, body := toBE 1 typ ++ rx.frame.body.drop 1 } }

/-- A frame as a delay exchange frame of a type. -/
def rxAsDelay (rx : RxBb) (typ : Nat) : RxBb :=
  { rx with frame := { rx.frame with kind := 7, body := toBE 1 typ ++ rx.frame.body.drop 1 } }

/-- A frame as a position report. -/
def rxAsReport (rx : RxBb) : RxBb :=
  { rx with frame := { rx.frame with kind := 2, body := toBE 2 0x0301 ++ rx.frame.body.drop 2 } }

/-- The meaning of `BACKBONE_FRAME_RECEIVE`. -/
def execBackboneFrameReceive (rx : RxBb) (s : State) : Outcome := act (whenRunning (receiveBb rx)) s

/-- The meaning of `LANE_STATE_FRAME_RECEIVE`: a frame of kind 0x8. -/
def execLaneStateFrameReceive (rx : RxBb) (s : State) : Outcome := act (whenRunning (receiveBb (rxAsKind rx 8))) s

/-- The meaning of `PENNANT_RECEIVE`: a frame of kind 0x0. -/
def execPennantReceive (rx : RxBb) (s : State) : Outcome := act (whenRunning (receiveBb (rxAsKind rx 0))) s

/-- The meaning of `STARTUP_FRAME_RECEIVE`: a frame of kind 0x3. -/
def execStartupFrameReceive (rx : RxBb) (s : State) : Outcome := act (whenRunning (receiveBb (rxAsKind rx 3))) s

/-- The meaning of `PROVISIONAL_FRAME_RECEIVE`: a frame of kind 0x5. -/
def execProvisionalFrameReceive (rx : RxBb) (s : State) : Outcome := act (whenRunning (receiveBb (rxAsKind rx 5))) s

/-- The meaning of `BRIDGE_FRAME_RECEIVE`: a frame of kind 0x6. -/
def execBridgeFrameReceive (rx : RxBb) (s : State) : Outcome := act (whenRunning (receiveBb (rxAsKind rx 6))) s

/-- The meaning of `POSITION_REPORT_RECEIVE`: a frame of kind 0x2 and type 0x0301. -/
def execPositionReportReceive (rx : RxBb) (s : State) : Outcome := act (whenRunning (receiveBb (rxAsReport rx))) s

/-- The meaning of `TRIGGER_FRAME`: a Hoist control frame of its type, as in the rows that follow. -/
def execTriggerFrame (rx : RxBb) (s : State) : Outcome := act (whenRunning (receiveBb (rxAsHoist rx hcTrigger))) s

/-- The meaning of `TOPOLOGY_FRAME`. -/
def execTopologyFrame (rx : RxBb) (s : State) : Outcome := act (whenRunning (receiveBb (rxAsHoist rx hcTopology))) s

/-- The meaning of `RECORD_FRAME`. -/
def execRecordFrame (rx : RxBb) (s : State) : Outcome := act (whenRunning (receiveBb (rxAsHoist rx hcRecord))) s

/-- The meaning of `PROPOSAL_FRAME`. -/
def execProposalFrame (rx : RxBb) (s : State) : Outcome := act (whenRunning (receiveBb (rxAsHoist rx hcProposal))) s

/-- The meaning of `READY_FRAME`. -/
def execReadyFrame (rx : RxBb) (s : State) : Outcome := act (whenRunning (receiveBb (rxAsHoist rx hcReady))) s

/-- The meaning of `REFUSE_FRAME`. -/
def execRefuseFrame (rx : RxBb) (s : State) : Outcome := act (whenRunning (receiveBb (rxAsHoist rx hcRefuse))) s

/-- The meaning of `COMMIT_FRAME`. -/
def execCommitFrame (rx : RxBb) (s : State) : Outcome := act (whenRunning (receiveBb (rxAsHoist rx hcCommit))) s

/-- The meaning of `STRIKE_FRAME`. -/
def execStrikeFrame (rx : RxBb) (s : State) : Outcome := act (whenRunning (receiveBb (rxAsHoist rx hcStrike))) s

/-- The meaning of `YIELD_FRAME`. -/
def execYieldFrame (rx : RxBb) (s : State) : Outcome := act (whenRunning (receiveBb (rxAsHoist rx hcYield))) s

/-- The meaning of `SLEEP_ACK_FRAME`. -/
def execSleepAckFrame (rx : RxBb) (s : State) : Outcome := act (whenRunning (receiveBb (rxAsHoist rx hcSleepAck))) s

/-- The meaning of `DELAY_REQUEST_RECEIVE`: a delay exchange frame of its type, as in the two rows that follow. -/
def execDelayRequestReceive (rx : RxBb) (s : State) : Outcome := act (whenRunning (receiveBb (rxAsDelay rx 1))) s

/-- The meaning of `DELAY_RESPONSE_RECEIVE`. -/
def execDelayResponseReceive (rx : RxBb) (s : State) : Outcome := act (whenRunning (receiveBb (rxAsDelay rx 2))) s

/-- The meaning of `DELAY_FOLLOW_UP_RECEIVE`. -/
def execDelayFollowUpReceive (rx : RxBb) (s : State) : Outcome := act (whenRunning (receiveBb (rxAsDelay rx 3))) s

end Sys2Proof.Machine
end

