-- ==== Sys2Proof/Machine/Cmd.lean ====
section
/-!
DEFINITION. The command processor and its transports (spec/02): identity and state commands, packets as they are taken and
checked (R34 to R46), the reply caches (R49), rings (R50 to R55), `SS` (R56, R57) and `MT` (R58).
-/
namespace Sys2Proof.Machine
open Sys2Proof

/-! Identity, unit states, subscription (R31, R60). -/

/-- `ID_READ` (Table 02-6). -/
def cmdIdRead (h : CmdHdr) (s : State) : State :=
  command 0x0101 h [] (fun s =>
    ansOk s (toBE 8 (s.rd GLB_ID.f) ++ toBE 8 (s.rd GLB_UID.f) ++ toBE 8 (s.rd HST_VEH_ID.f))) s

/-- The meaning of `ID_READ`. -/
def execIdRead (h : CmdHdr) (s : State) : Outcome := act (whenServing (cmdIdRead h)) s

/-- `INFO_READ` (Table 02-6). -/
def cmdInfoRead (h : CmdHdr) (s : State) : State :=
  command 0x0102 h [] (fun s =>
    let straps := [GLB_STRAP_BOOT, GLB_STRAP_COLD, GLB_STRAP_PAIR, GLB_STRAP_MAINT, GLB_STRAP_JTAG].flatMap
      (fun (r : Row) => toBE 1 (s.rd r.f))
    ansOk s (toBE 1 (s.rd GLB_RUN_SLOT.f) ++ toBE 4 (s.rd GLB_IMAGE_VERSION.f) ++ straps ++ toBE 2 (s.rd HST_NODE_NUM.f)
      ++ toBE 2 (s.rd HST_EPOCH.f) ++ toBE 8 (compact s.clk.up))) s

/-- The meaning of `INFO_READ`. -/
def execInfoRead (h : CmdHdr) (s : State) : Outcome := act (whenServing (cmdInfoRead h)) s

/-- A unit identifier of Table 01-10. -/
def unitOk (u : Nat) : Bool :=
  let last := [0, 128, 81, 4, 512, 32, 32, 256, 8, 184, 5, 6].getD (u / 2048) 0
  u % 2048 < last

/-- The mismatch byte of a unit (R31, Table 02-6). -/
def State.mismatchByte (s : State) (u : Nat) : Nat :=
  if s.sys.mismatch.contains u then 2 else if s.consistent u then 0 else 1

/-- When a unit's OPER last changed, compact; zero when it never has. -/
def State.operTime (s : State) (u : Nat) : Nat :=
  match getKey Prod.fst u s.sys.operTimes with | some p => p.2 | none => 0

/-- `UNIT_STATE_READ` (R30, R60, R68). -/
def cmdUnitStateRead (h : CmdHdr) (unit : Nat) (s : State) : State :=
  command 0x0103 h (toBE 2 unit) (fun s =>
    if !unitOk unit then ansRange s 0
    else
      ansOk s (toBE 1 (s.cfgOf unit) ++ toBE 1 (s.operOf unit) ++ toBE 1 (s.mismatchByte unit) ++ zeros 1
        ++ toBE 8 (s.operTime unit))) s

/-- The meaning of `UNIT_STATE_READ`. -/
def execUnitStateRead (h : CmdHdr) (unit : Nat) (s : State) : Outcome := act (whenServing (cmdUnitStateRead h unit)) s

/-- `MISMATCH_LIST` (R31). -/
def cmdMismatchList (h : CmdHdr) (s : State) : State :=
  command 0x0104 h [] (fun s =>
    ansOk s (toBE 2 s.sys.mismatch.length
      ++ s.sys.mismatch.flatMap (fun u => toBE 2 u ++ toBE 1 (s.cfgOf u) ++ toBE 1 (s.operOf u)))) s

/-- The meaning of `MISMATCH_LIST`. -/
def execMismatchList (h : CmdHdr) (s : State) : Outcome := act (whenServing (cmdMismatchList h)) s

/-- `ECHO` (Table 02-6). -/
def cmdEcho (h : CmdHdr) (data : List Byte) (s : State) : State := command 0x0105 h data (fun s => ansOk s data) s

/-- The meaning of `ECHO`. -/
def execEcho (h : CmdHdr) (data : List Byte) (s : State) : Outcome := act (whenServing (cmdEcho h data)) s

/-- `EVENT_SUBSCRIBE` (R58): the one destination of events on `MT`. -/
def cmdEventSubscribe (h : CmdHdr) (ip udp groups : Nat) (s : State) : State :=
  command 0x0B05 h (toBE 4 ip ++ toBE 2 udp ++ toBE 2 groups) (fun s =>
    ansOk { s with cmd := { s.cmd with mtDest := some (ip % 2 ^ 32, udp % 2 ^ 16, groups % 2 ^ 16) } }) s

/-- The meaning of `EVENT_SUBSCRIBE`. -/
def execEventSubscribe (h : CmdHdr) (ip udp groups : Nat) (s : State) : Outcome :=
  act (whenServing (cmdEventSubscribe h ip udp groups)) s

/-! A packet as the processor takes it (R34 to R39). -/

/-- The header that a packet's bytes give, missing bytes zero (R39). -/
def headerOf (p : Packet) : CmdHdr :=
  let b := fitBytes 24 p.bytes
  { via := p.via, posted := bit (byteAt b 3) 1, epochCheck := bit (byteAt b 3) 2, seq := beAt b 6 2, target := beAt b 8 2,
    epoch := beAt b 10 2, originNode := beAt b 14 2, originPort := byteAt b 16 }

/-- The opcode that a packet's bytes give. -/
def opcodeOf (p : Packet) : Nat := beAt (fitBytes 24 p.bytes) 4 2

/-- The trailer of a packet. -/
def trailerOf (p : Packet) : Nat := fromBE (lastN 4 p.bytes)

/-- Checks 1 to 5 of R38 as far as they do not need the opcode. -/
def packetFault (b : List Byte) : Option Nat :=
  if b.length < 28 || 65536 < b.length then some stBadLength
  else if beAt b 0 2 != 0xCE4E || byteAt b 2 != 1 then some stBadVersion
  else if 28 + beAt b 12 2 != b.length then some stBadLength
  else if fromBE (lastN 4 b) != crc32c (b.take (b.length - 4)) then some stBadCrc
  else if bit (byteAt b 3) 0 then some stBadOpcode
  else none

/-- Check 8 of R38: `PARAM_LEN` is one that Table 02-6 allows for the opcode. -/
def paramLenOk (op : Nat) (p : List Byte) : Bool :=
  let n := p.length
  match op with
  | 0x0105 => n ≤ 65504
  | 0x0202 => 5 ≤ n && n ≤ 65508
  | 0x0208 => n == 8 + 16 * beAt p 4 2 && 8 ≤ n
  | 0x0304 => 1 ≤ n && n == 1 + 2 * byteAt p 0
  | 0x0902 => 1 ≤ n && n == 1 + byteAt p 0
  | _ =>
    if op ∈ [0x0101, 0x0102, 0x0104, 0x0301, 0x0303, 0x0306, 0x0308, 0x0503, 0x0606, 0x0801, 0x0804, 0x0901, 0x0903,
        0x0A03] then n == 0
    else if op ∈ [0x0203, 0x0205, 0x0209, 0x0501, 0x0502, 0x0706, 0x0803, 0x0805, 0x0A02, 0x0C02] then n == 1
    else if op ∈ [0x0103, 0x0204, 0x0402, 0x0403, 0x0505, 0x0B02, 0x0B04, 0x0C01, 0x0C04] then n == 2
    else if op ∈ [0x0702, 0x0704, 0x0802, 0x0A01] then n == 3
    else if op ∈ [0x0504, 0x0506, 0x0B01] then n == 4
    else if op ∈ [0x0201, 0x0305, 0x0603, 0x0605] then n == 5
    else if op ∈ [0x0207, 0x0601, 0x0705] then n == 6
    else if op ∈ [0x0206, 0x0B05] then n == 8
    else if op ∈ [0x0302, 0x0602] then n == 12
    else if op = 0x0404 then n == 13
    else if op = 0x0B03 then n == 14
    else if op = 0x0307 then n == 16
    else if op = 0x0C03 then n == 22
    else if op = 0x0701 then n == 33
    else if op = 0x0401 || op = 0x0703 then n == 64
    else if op = 0x0604 then n == 69
    else false

/-- Values and masks of a `PARAM_WRITE`. -/
def writePairs (p : List Byte) : List (Nat × Nat) :=
  (List.range (beAt p 4 2)).map (fun k => (beAt p (8 + 16 * k) 8, beAt p (16 + 16 * k) 8))

/-- Opcodes of the groups 0x01 to 0x03 by their low byte. -/
def runLow (op : Nat) (h : CmdHdr) (p : List Byte) : Option (State → State) :=
  match op with
  | 0x0101 => some (cmdIdRead h)
  | 0x0102 => some (cmdInfoRead h)
  | 0x0103 => some (cmdUnitStateRead h (beAt p 0 2))
  | 0x0104 => some (cmdMismatchList h)
  | 0x0105 => some (cmdEcho h p)
  | 0x0201 => some (cmdImageStageBegin h (byteAt p 0) (beAt p 1 4))
  | 0x0202 => some (cmdImageStageData h (beAt p 0 4) (p.drop 4))
  | 0x0203 => some (cmdImageCommit h (byteAt p 0))
  | 0x0204 => some (cmdImageSelect h (byteAt p 0) (byteAt p 1))
  | 0x0205 => some (cmdImageInfo h (byteAt p 0))
  | 0x0206 => some (cmdConfigApply h (beAt p 0 4) (beAt p 4 4))
  | 0x0207 => some (cmdParamRead h (beAt p 0 4) (beAt p 4 2))
  | 0x0208 => some (cmdParamWrite h (beAt p 0 4) (writePairs p))
  | 0x0209 => some (cmdNodeReset h (byteAt p 0))
  | 0x0301 => some (cmdTimeRead h)
  | 0x0302 => some (cmdTimeStep h (beAt p 0 4) (beAt p 4 8))
  | 0x0303 => some (cmdTimeReintegrate h)
  | 0x0304 => some (cmdRefPriority h ((List.range (byteAt p 0)).map (fun k => beAt p (1 + 2 * k) 2)))
  | 0x0305 => some (cmdServoLimit h (byteAt p 0) (beAt p 1 4))
  | 0x0306 => some (cmdPositionRead h)
  | 0x0307 => some (cmdBaliseCorrect h (beAt p 0 8) (beAt p 8 8))
  | 0x0308 => some (cmdPhaseRead h)
  | _ => none

/-- Opcodes of the groups 0x04 to 0x06. -/
def runMid (op : Nat) (h : CmdHdr) (p : List Byte) : Option (State → State) :=
  match op with
  | 0x0401 => some (cmdEventAdd h p)
  | 0x0402 => some (cmdEventRemove h (beAt p 0 2))
  | 0x0403 => some (cmdEventRead h (beAt p 0 2))
  | 0x0404 => some (cmdDisturbWindow h (byteAt p 0) (beAt p 1 8) (beAt p 9 4))
  | 0x0501 => some (cmdHoistRequest h (byteAt p 0))
  | 0x0502 => some (cmdDirectoryRead h (byteAt p 0))
  | 0x0503 => some (cmdCycleStatus h)
  | 0x0504 => some (cmdTrainSleep h (beAt p 0 4))
  | 0x0505 => some (cmdLaneForce h (byteAt p 0) (byteAt p 1))
  | 0x0506 => some (cmdScheduleSwitch h (beAt p 0 4))
  | 0x0601 => some (cmdSignalRead h (beAt p 0 4) (beAt p 4 2))
  | 0x0602 => some (cmdSignalWrite h (beAt p 0 4) (beAt p 4 8))
  | 0x0603 => some (cmdSmeRead h (beAt p 0 4) (byteAt p 4))
  | 0x0604 => some (cmdSmeWrite h (beAt p 0 4) (byteAt p 4) (p.drop 5))
  | 0x0605 => some (cmdProfileSwitch h (byteAt p 0) (beAt p 1 4))
  | 0x0606 => some (cmdProfileRead h)
  | _ => none

/-- Opcodes of the groups 0x07 to 0x09. -/
def runField (op : Nat) (h : CmdHdr) (p : List Byte) : Option (State → State) :=
  match op with
  | 0x0701 => some (cmdFieldConfig h (byteAt p 0) (p.drop 1))
  | 0x0702 => some (cmdFieldRead h (byteAt p 0) (beAt p 1 2))
  | 0x0703 => some (cmdFieldSet h (p.take 32) (p.drop 32))
  | 0x0704 => some (cmdLoopSet h (byteAt p 0) (beAt p 1 2))
  | 0x0705 => some (cmdFieldSafeSet h (byteAt p 0) (byteAt p 1) (beAt p 2 4))
  | 0x0706 => some (cmdFieldFaultClear h (byteAt p 0))
  | 0x0801 => some (cmdLadderStatus h)
  | 0x0802 => some (cmdLadderFloor h (beAt p 0 2) (byteAt p 2))
  | 0x0803 => some (cmdFeedPrefer h (byteAt p 0))
  | 0x0804 => some (cmdThermalRead h)
  | 0x0805 => some (cmdPerfFloor h (byteAt p 0))
  | 0x0901 => some (cmdPairStatus h)
  | 0x0902 => some (cmdGuardedSet h ((p.drop 1).map (fun x => x.toNat)))
  | 0x0903 => some (cmdFailoverRequest h)
  | _ => none

/-- Opcodes of the groups 0x0A to 0x0C. -/
def runHigh (op : Nat) (h : CmdHdr) (p : List Byte) : Option (State → State) :=
  match op with
  | 0x0A01 => some (cmdSemAcquire h (byteAt p 0) (beAt p 1 2))
  | 0x0A02 => some (cmdSemRelease h (byteAt p 0))
  | 0x0A03 => some (cmdBridgeStatus h)
  | 0x0B01 => some (cmdStatsRead h (beAt p 0 2) (byteAt p 2) (byteAt p 3))
  | 0x0B02 => some (cmdStatsClear h (beAt p 0 2))
  | 0x0B03 => some (cmdRecorderRead h (beAt p 0 8) (beAt p 8 4) (beAt p 12 2))
  | 0x0B04 => some (cmdSelftest h (beAt p 0 2))
  | 0x0B05 => some (cmdEventSubscribe h (beAt p 0 4) (beAt p 4 2) (beAt p 6 2))
  | 0x0C01 => some (cmdPortEnable h (byteAt p 0) (byteAt p 1))
  | 0x0C02 => some (cmdPortStatus h (byteAt p 0))
  | 0x0C03 => some (cmdWakePatternSet h (byteAt p 0) (byteAt p 1) (slice p 2 16) (beAt p 18 4))
  | 0x0C04 => some (cmdPhyTest h (byteAt p 0) (byteAt p 1))
  | _ => none

/-- The command of an opcode with its parameters; none for an unknown opcode. -/
def commandOf (op : Nat) (h : CmdHdr) (p : List Byte) : Option (State → State) :=
  if op < 0x0400 then runLow op h p
  else if op < 0x0700 then runMid op h p
  else if op < 0x0A00 then runField op h p
  else runHigh op h p

/-- Check and execute a packet (R38). -/
def runPacket (p : Packet) (s : State) : State :=
  let h := headerOf p
  let op := opcodeOf p
  let params := slice p.bytes 24 (p.bytes.length - 28)
  match packetFault p.bytes with
  | some st => deliverReply p.via (mkReply h op st []) s
  | none => match (if paramLenOk op params then commandOf op h params else none) with
    | some f => f s
    | none => commandCore op h params (fun t => ⟨t, stBadLength, []⟩) s

/-! The reply caches (R49). -/

/-- The cached replies of a packet's source. -/
def State.cacheOf (s : State) (v : Via) : List Cached :=
  match v.port with
  | .ss => s.cmd.ssCache
  | .mt => (match s.cmd.mtCache.find? (fun m => m.ip == v.room && m.udp == v.slot) with | some m => m.cached | none => [])
  | _ => []

/-- The reply that a repeated packet gets. -/
def State.cachedReply (s : State) (p : Packet) : Option Reply :=
  if p.bytes.length < 28 then none
  else ((s.cacheOf p.via).find? (fun c => c.seq == (headerOf p).seq && c.opcode == opcodeOf p && c.trailer == trailerOf p)).map
    (fun c => c.reply)

/-- An `MT` source's latest command is this one: a ninth source takes the place of the one whose latest is oldest. -/
def touchSource (v : Via) (s : State) : State :=
  if v.port == .mt then
    let mine (m : MtSource) : Bool := m.ip == v.room && m.udp == v.slot
    let m := (s.cmd.mtCache.find? mine).getD { ip := v.room, udp := v.slot, cached := [] }
    { s with cmd := { s.cmd with mtCache := lastN 8 (s.cmd.mtCache.filter (fun x => !mine x) ++ [m]) } }
  else s

/-- The reply that a packet of `SS` or `MT` has just been given, none while it has gone to the bridge or ends without one. -/
def newReply (v : Via) (old new : State) : Option Reply :=
  match v.port with
  | .ss => (new.cmd.ssReplies.drop old.cmd.ssReplies.length).head?
  | .mt => new.out.findSome? (fun o => match o with | .reply w r _ => if w == v then some r else none | _ => none)
  | _ => none

/-- The requests that a packet has just given the bridge keep the trailer it came with, reserved bits and all (R49). -/
def keepTrailer (p : Packet) (old new : State) : State :=
  { new with rab := { new.rab with open_ := new.rab.open_.map (fun q =>
      if old.rab.nextOrd ≤ q.ord then { q with trailer := trailerOf p } else q) } }

/-- Keep the reply to a packet in the cache of its source (R49). -/
def rememberReply (p : Packet) (r : Reply) (s : State) : State :=
  remember p.via { seq := (headerOf p).seq, opcode := opcodeOf p, trailer := trailerOf p, reply := r } s

/-- Take a packet: a repeated one is answered from the cache, any other is executed and its reply kept. -/
def takeCommand (p : Packet) (s0 : State) : State :=
  let s := touchSource p.via s0
  match s.cachedReply p with
  | some r => deliverReply p.via r s
  | none =>
    let t := runPacket p s
    match newReply p.via s t with
    | some r => rememberReply p r t
    | none => keepTrailer p s t

/-- The packets that wait on a path of the round robin: 0 `HA`, 1 `HB`, 2 `MT`, 3 TRAIN. -/
def CmdUnit.waiting (c : CmdUnit) (k : Nat) : List Packet :=
  match k with | 0 => c.waitHA | 1 => c.waitHB | 2 => c.waitMT | _ => c.waitTrain

/-- Take the oldest off such a path; the next turn is the path after it. -/
def CmdUnit.popWait (c : CmdUnit) (k : Nat) : CmdUnit :=
  let c1 := { c with turn := (k + 1) % 4 }
  match k with
  | 0 => { c1 with waitHA := c.waitHA.drop 1 }
  | 1 => { c1 with waitHB := c.waitHB.drop 1 }
  | 2 => { c1 with waitMT := c.waitMT.drop 1 }
  | _ => { c1 with waitTrain := c.waitTrain.drop 1 }

/-- The free command processor takes the next packet (R44): `SS` first, then the other paths in turn. -/
def commandTake (s : State) : State :=
  match s.cmd.waitSS with
  | p :: rest => takeCommand p { s with cmd := { s.cmd with waitSS := rest } }
  | [] =>
    let order := (List.range 4).map (fun i => (s.cmd.turn + i) % 4)
    match order.find? (fun k => !(s.cmd.waiting k).isEmpty) with
    | none => s
    | some k => match s.cmd.waiting k with
      | p :: _ => takeCommand p { s with cmd := s.cmd.popWait k }
      | [] => s

/-- The meaning of `COMMAND_TAKE`. -/
def execCommandTake (s : State) : Outcome := act (whenServing commandTake) s

/-! `SS` (R56, R57). -/

/-- The path of `SS` packets. -/
def viaSS : Via :=
  { port := .ss, slot := 0, room := 0, addr := 0, node := 0, epoch := 0, rport := 0, tag := 0, xid := 0 }

/-- The status byte (R56). -/
def State.ssStatus (s : State) : Byte :=
  BitVec.ofNat 8 (b2n (!s.cmd.ssReplies.isEmpty) + 2 * b2n (!s.cmd.ssEvents.isEmpty) + 4 * b2n s.cmd.ssOverrun
    + 8 * b2n s.cmd.ssFrameErr + 0xA0)

/-- `EVT_N` is driven low (R57); it is high-impedance otherwise. -/
def State.evtNLow (s : State) : Bool :=
  s.sys.power == 3 && s.on CMD_SS_CTL_EVTN_EN.f && (!s.cmd.ssReplies.isEmpty || !s.cmd.ssEvents.isEmpty)

/-- MISO of a transaction with a dummy byte, of which the spec gives no value. -/
def misoAfterDummy (status : Byte) (rest : List Byte) (s : State) : State :=
  let (d, t) := takeFree 8 s
  t.emit (.miso (status :: BitVec.ofNat 8 d :: rest))

/-- `WRITE_PACKET`: taken, answered `BUSY` before the node serves (Table 16-9), or discarded with `RX_OVERRUN`. -/
def writePacket (bytes : List Byte) (s : State) : State :=
  let p : Packet := { via := viaSS, bytes := bytes }
  let s1 := s.emit (.miso (s.ssStatus :: zeros bytes.length))
  let busy := s.cmd.ssReplies.length + s.cmd.waitSS.length + s.openCount .ss
  if 4 ≤ busy then
    let t := s1.inc CMD_SS_LOST.f
    { t with cmd := { t.cmd with ssOverrun := true } }
  else if s.sys.stage == 3 || s.sys.stage == 5 then { s1 with cmd := { s1.cmd with waitSS := s1.cmd.waitSS ++ [p] } }
  else match s1.cachedReply p with
    | some r => deliverReply viaSS r s1
    | none =>
      let r := mkReply (headerOf p) (opcodeOf p) stBusy []
      rememberReply p r (deliverReply viaSS r s1)

/-- The meaning of `WRITE_PACKET`. -/
def execWritePacket (bytes : List Byte) (s : State) : Outcome := act (whenReleased (writePacket bytes)) s

/-- `READ_REPLY`: the reply leaves the queue only when it has been read to its last byte. -/
def readReply (complete : Bool) (s : State) : State :=
  match s.cmd.ssReplies with
  | [] => misoAfterDummy s.ssStatus (toBE 3 0) s
  | r :: rest =>
    let t := misoAfterDummy s.ssStatus (toBE 3 (replyLen r) ++ replyBytes r) s
    if complete then { t with cmd := { t.cmd with ssReplies := rest } } else t

/-- The meaning of `READ_REPLY`. -/
def execReadReply (complete : Bool) (s : State) : Outcome := act (whenReleased (readReply complete)) s

/-- `READ_EVENT`: the record leaves the queue only when it has been read to its last byte. -/
def readEvent (complete : Bool) (s : State) : State :=
  match s.cmd.ssEvents with
  | [] => misoAfterDummy s.ssStatus (toBE 1 0) s
  | e :: rest =>
    let t := misoAfterDummy s.ssStatus (toBE 1 1 ++ eventBytes e) s
    if complete then { t with cmd := { t.cmd with ssEvents := rest } } else t

/-- The meaning of `READ_EVENT`. -/
def execReadEvent (complete : Bool) (s : State) : Outcome := act (whenReleased (readEvent complete)) s

/-- `READ_STATUS`: the counts of both queues; it clears `RX_OVERRUN` and `FRAME_ERROR`. -/
def readStatus (s : State) : State :=
  let t := misoAfterDummy s.ssStatus (toBE 1 s.cmd.ssEvents.length ++ toBE 1 s.cmd.ssReplies.length) s
  { t with cmd := { t.cmd with ssOverrun := false, ssFrameErr := false } }

/-- The meaning of `READ_STATUS`. -/
def execReadStatus (s : State) : Outcome := act (whenReleased readStatus) s

/-- An unknown first byte sets `FRAME_ERROR`; the known ones are transactions of their own. -/
def ssUnknown (first : Nat) (s : State) : State :=
  if 1 ≤ first && first ≤ 4 then s
  else
    let t := s.emit (.miso [s.ssStatus])
    { t with cmd := { t.cmd with ssFrameErr := true } }

/-- The meaning of `SS_UNKNOWN_TRANSACTION`. -/
def execSsUnknownTransaction (first : Nat) (s : State) : Outcome := act (whenReleased (ssUnknown first)) s

/-! `MT` (R41, R58). -/

/-- The path of a datagram's packet. -/
def viaMt (ip udp : Nat) : Via :=
  { port := .mt, slot := udp, room := ip, addr := 0, node := 0, epoch := 0, rport := 0, tag := 0, xid := 0 }

/-- A whole datagram to the node's port is a packet; one to another port is ignored. -/
def takeDatagram (ip udp dst : Nat) (b : List Byte) (s : State) : State :=
  if dst != s.rd CMD_MT_UDP_PORT.f then s
  else { s with cmd := { s.cmd with waitMT := s.cmd.waitMT ++ [{ via := viaMt ip udp, bytes := b }] } }

/-- The bytes of fragments from an offset to the end of the datagram, none while one is missing; with fuel. -/
def assemble (frags : List (Nat × List Byte)) (total : Nat) : Nat → Nat → Option (List Byte)
  | 0, pos => if pos = total then some [] else none
  | n + 1, pos =>
    if pos = total then some []
    else match frags.find? (fun f => f.1 == pos && !f.2.isEmpty) with
      | some f => (assemble frags total n (pos + f.2.length)).map (fun r => f.2 ++ r)
      | none => none

/-- A fragment joins the others of its datagram; a fifth datagram in pieces finds no room and is discarded. -/
def takeFragment (d : MtFrame) (s : State) : State :=
  let mine (x : MtPart) : Bool := x.ip == d.ip && x.ident == d.ident
  let others := s.cmd.mtParts.filter (fun x => !mine x)
  let have_ := s.cmd.mtParts.find? mine
  if have_.isNone && others.length ≥ 4 then s
  else
    let x := have_.getD { ip := d.ip, ident := d.ident, frags := [], udp := 0, dstUdp := 0, total := none }
    let y : MtPart :=
      { x with frags := putKey Prod.fst (d.offset, d.bytes) x.frags,
               udp := if d.offset = 0 then d.udp else x.udp, dstUdp := if d.offset = 0 then d.dstUdp else x.dstUdp,
               total := if d.more then x.total else some (d.offset + d.bytes.length) }
    match y.total.bind (fun n => assemble y.frags n y.frags.length 0) with
    | some b => takeDatagram y.ip y.udp y.dstUdp b { s with cmd := { s.cmd with mtParts := others } }
    | none => { s with cmd := { s.cmd with mtParts := others ++ [y] } }

/-- An IP frame arrives on `MT`: with `MAINT_EN` low it is discarded and counted; ARP and ICMP echo are answered. -/
def mtReceive (d : MtFrame) (s : State) : State :=
  if !s.maintEn then s.inc CMD_DISCARD_MT.f
  else if s.sys.stage == 3 && !s.on (MAC_n_CFG_EN.f 80) then s
  else if (takeCells s chainControl 255 (cellsFor (d.bytes.length + 46)) []).isNone then stat 80 25 1 s
  else
    let t := wake 119 s
    match d.kind with
    | 1 => if fromBE d.bytes == t.rd CMD_MT_IPV4.f then t.emit (.mtAnswer 0 d.ip (toBE 6 (t.rd GLB_MAC_ADDR.f))) else t
    | 2 => t.emit (.mtAnswer 1 d.ip d.bytes)
    | 3 => if d.offset = 0 && !d.more then takeDatagram d.ip d.udp d.dstUdp d.bytes t else takeFragment d t
    | _ => t

/-- The meaning of `MT_DATAGRAM_RECEIVE`: `MT` is off before the node serves. -/
def execMtDatagramReceive (d : MtFrame) (s : State) : Outcome := act (whenServing (mtReceive d)) s

/-- An incomplete datagram is discarded. -/
def mtTimeout (ip ident : Nat) (s : State) : State :=
  { s with cmd := { s.cmd with mtParts := s.cmd.mtParts.filter (fun x => !(x.ip == ip && x.ident == ident)) } }

/-- The meaning of `MT_REASSEMBLY_TIMEOUT`. -/
def execMtReassemblyTimeout (ip ident : Nat) (s : State) : Outcome := act (whenServing (mtTimeout ip ident)) s

/-! Rings and BAR0 (R50 to R55, R486 to R488). -/

/-- The offset of an endpoint's own ring control words. -/
def ringBlock (hb : Bool) : Nat := 0x10000 + 0x40 * hx hb

/-- A tail outside the ring sets `RING_ERR` and raises vector 3 (R51). -/
def judgeTail (hb : Bool) (s : State) : State :=
  let x := hx hb
  if 2 ^ s.rd (CMD_Hx_RING_LOG2.f x) ≤ s.rd (CMD_Hx_RING_TAIL.f x) then
    (s.wr (CMD_Hx_RING_ERR.f x) 1).emit (.msix hb 3)
  else s

/-- An endpoint writes one of its own words through BAR0: each covered field under R7. -/
def ringWord (hb : Bool) (off v m : Nat) (s : State) : State :=
  let t := (fieldsAt off).foldl (fun u p => writeField v m p u) s
  if off = ringBlock hb + 0x10 && touches m (CMD_Hx_RING_TAIL.f (hx hb)) then judgeTail hb t else t

/-- A BAR0 write (R50, R487, R488): its own ring control words in whole words or halves; everything else is discarded and
counted. -/
def bar0Write (hb : Bool) (offset size value : Nat) (s : State) : State :=
  let base := ringBlock hb
  let word := offset / 8 * 8
  let own := base ≤ offset && offset < base + 0x30 && ((size == 8 && offset % 8 == 0) || (size == 4 && offset % 4 == 0))
  if !(s.ep hb).link then s
  else if !s.usable || !own then s.inc CMD_BAR0_WRITES.f
  else if size = 8 then ringWord hb word (value % 2 ^ 64) (2 ^ 64 - 1) s
  else
    let sh := 8 * (offset % 8)
    ringWord hb word (value % 2 ^ 32 * 2 ^ sh) ((2 ^ 32 - 1) * 2 ^ sh) s

/-- The meaning of `BAR0_WRITE`. -/
def execBar0Write (hb : Bool) (offset size value : Nat) (s : State) : Outcome :=
  act (whenReleased (bar0Write hb offset size value)) s

/-- The meaning of `CMD_HA_RING_TAIL`: the doorbell of either endpoint. -/
def execCmdHaRingTail (hb : Bool) (tail : Nat) (s : State) : Outcome :=
  act (whenReleased (bar0Write hb (ringBlock hb + 0x10) 8 (tail % 2 ^ 16))) s

/-- The meaning of `CMD_HA_EVT_READ`: records up to the index are free again. -/
def execCmdHaEvtRead (hb : Bool) (index : Nat) (s : State) : Outcome :=
  act (whenReleased (bar0Write hb (ringBlock hb + 0x28) 8 (index % 2 ^ 16))) s

/-- A packet joins those that wait on an endpoint. -/
def queueRing (hb : Bool) (p : Packet) (s : State) : State :=
  if hb then { s with cmd := { s.cmd with waitHB := s.cmd.waitHB ++ [p] } }
  else { s with cmd := { s.cmd with waitHA := s.cmd.waitHA ++ [p] } }

/-- A packet that host memory does not yield to its end: nothing is executed, and the write-back carries `DONE` and `DMA_ERR`
(Table 02-4).  There is no reply whose status it could copy: that value is free. -/
def fetchFailed (hb : Bool) (slot : Nat) (s : State) : State :=
  let (st, t) := takeFree 16 s
  (t.emit (.ringWriteBack hb slot 0 st 5)).emit (.msix hb 0)

/-- The next entry of a command ring is fetched and judged (R51): `entry` are its 32 bytes, `packet` what host memory yields at
its `PKT_ADDR`. -/
def ringFetch (hb : Bool) (entry packet : List Byte) (s : State) : State :=
  let x := hx hb
  let size := 2 ^ s.rd (CMD_Hx_RING_LOG2.f x)
  let head := s.rd (CMD_Hx_RING_HEAD.f x) % size
  let tail := s.rd (CMD_Hx_RING_TAIL.f x)
  if !(s.ep hb).link || !s.on (CMD_Hx_RING_EN.f x) || size ≤ tail || head = tail then s
  else
    let len := leAt entry 16 4
    let room := leAt entry 20 4
    let via : Via :=
      { port := if hb then .hb else .ha, slot := head, room := room, addr := leAt entry 8 8, node := 0, epoch := 0,
        rport := 0, tag := 0, xid := 0 }
    let t := s.wr (CMD_Hx_RING_HEAD.f x) ((head + 1) % size)
    if room < 28 || 65536 < room then (t.emit (.ringWriteBack hb head 0 stBadLength 1)).emit (.msix hb 0)
    else if len < 28 || 65536 < len then deliverReply via (mkReply (headerOf { via := via, bytes := [] }) 0 stBadLength []) t
    else if packet.length < len then fetchFailed hb head t
    else queueRing hb { via := via, bytes := fitBytes len packet } t

/-- The meaning of `COMMAND_RING_FETCH`. -/
def execCommandRingFetch (hb : Bool) (entry packet : List Byte) (s : State) : Outcome :=
  act (whenUp (ringFetch hb entry packet)) s

/-- The meaning of `PCIE_RESET` (R54). -/
def execPcieReset (hb : Bool) (s : State) : Outcome := act (whenReleased (ringReset hb)) s

/-- A PCIe link comes up or goes down (R441): its domain is in use while it is up. -/
def pcieLink (hb up : Bool) (s : State) : State := settleDomains (s.setEp hb { s.ep hb with link := up })

/-- The meaning of `PCIE_LINK_CHANGE`. -/
def execPcieLinkChange (hb up : Bool) (s : State) : Outcome := act (whenReleased (pcieLink hb up)) s

/-- The firmware advances its count, which runs modulo 2^32 (DESIGN CHOICE, log 78: R55 gives no end of it); a node that was unhealthy for want of it is so no longer (R55, R424). -/
def heartbeat (s : State) : State :=
  let t := { s with sys := { s.sys with beats := (s.sys.beats + 1) % 2 ^ 32 } }
  if t.pair.fwLate then rehealth { t with pair := { t.pair with fwLate := false } } else t

/-- The meaning of `FIRMWARE_HEARTBEAT`. -/
def execFirmwareHeartbeat (s : State) : Outcome := act (whenServing heartbeat) s

end Sys2Proof.Machine
end

