-- ==== Sys2Proof/Machine/Demand.lean ====
section
/-!
DEFINITION. The next demand of a power domain (R443), and the descent and ascent that keep to it (R444, R445).
-/
namespace Sys2Proof.Machine
open Sys2Proof

/-- The exit latency of a rung in ns (Table 15-2). -/
def exitLatency (r : Nat) : Nat :=
  match r with | 0 => 0 | 1 => 400 | 2 => 4000 | 3 => 40000 | 4 => 400000 | _ => 4000000

/-- The earliest of some instants after `now`. -/
def earliest (now : Int) (l : List Int) : Option Int :=
  (l.filter (now < ·)).foldl (fun best t => match best with
    | none => some t
    | some b => some (if t < b then t else b)) none

/-- The first instant after `now` of a row of instants with a period, one of which is `base`. -/
def nextInRow (base period now : Int) : Int := now + (period - (now - base) % period)

/-- What the cycle asks of a backbone lane: the next cycle start, the message phase start, and the egress instants and ingress
windows of the slots of this cycle.  Those of later cycles lie beyond the next cycle start. -/
def State.laneDemand (s : State) (d : Nat) : List Int :=
  let p := d / 4
  let start : Int := s.tcy.start
  let slots := (s.slotBank.slots.filter (fun x => x.selected s.cycle))
  let out := (slots.filter (fun x => s.slotLane p x.num == d % 4)).filterMap (fun x => (s.slotAt x.num p).map Int.ofNat)
  let in_ := (slots.filter (fun x => x.ingress.getD p noTime != noTime)).map (fun x =>
    start + (x.ingress.getD p noTime : Nat) - (s.rd TCY_SLOT_GUARD_NS.f : Nat))
  if s.keepsCycle then
    [start + (s.rd TCY_CYCLE_NS.f : Nat), (s.msgStart : Int)] ++ (if s.slotsOn then out ++ in_ else [])
  else []

/-- The domains that the action of a time entry touches, with how much ahead of its target (R221): the banks of the channels a
field action drives, the endpoints that take a host event. -/
def actionDomains (b : List Byte) : List (Nat × Int) :=
  match evAction b with
  | 1 => (evField b).map (fun x => (160 + x.1 / 32, 3000))
  | 5 => [(116, 0), (117, 0)]
  | _ => []

/-- What the armed time entries ask of a domain. -/
def State.entryDemand (s : State) (d : Nat) : List Int :=
  (s.sch.entries.filter (fun e => s.evState e.index == 1 && evBase e.bytes == 0)).flatMap (fun e =>
    ((actionDomains e.bytes).filter (fun x => x.1 == d)).map (fun x => (s.localOf e.target : Int) - x.2))

/-- The next basic period start of an MVB controller: aligned to the cycle, or in the row of its own periods (R346). -/
def State.nextPeriod (s : State) (c : Nat) : Int :=
  let bp : Int := if s.rd (LEG_MVBc_BP.f c) = 1 then 2000000 else 1000000
  let cyc : Int := (s.rd TCY_CYCLE_NS.f : Nat)
  let now : Int := s.clk.now
  let st := s.rd TCY_STATE.f
  if s.on (LEG_MVBc_ALIGN.f c) && (st == 5 || st == 6) && (cyc % bp == 0 || bp % cyc == 0) then
    nextInRow (s.tcy.start + 1000 * (s.rd (LEG_MVBc_OFFSET_US.f c) : Nat)) bp now
  else nextInRow (now - ((s.clk.up - s.leg.starts.getD c 0 : Nat) : Int)) bp now

/-- What the legacy controllers ask of a port: the basic periods of an MVB controller. -/
def State.mvbDemand (s : State) (d : Nat) : List Int :=
  if 80 ≤ d && d < 88 && s.mvbOn ((d - 80) / 2) then [s.nextPeriod ((d - 80) / 2)] else []

/-- A domain serves a layout: the fen of its publish unit, or the port its message leaves by. -/
def State.serves (s : State) (d l : Nat) : Bool :=
  d == 128 + l / 128 || (msgSpace (s.layoutMsg l) == 1 && portOf (s.layoutMsg l) == d)

/-- The mode 1 release points of the layouts that a domain serves (R291): in the cycle, or each ms of the local clock while no
cycle runs. -/
def State.releaseDemand (s : State) (d : Nat) : List Int :=
  (s.layouts.filter (fun l => s.layoutMode l == 1 && s.serves d l)).map (fun l =>
    if s.keepsCycle then
      nextInRow ((s.tcy.start : Int) + (s.layoutOffset l : Nat)) (Int.ofNat (Nat.max 1 (s.rd TCY_CYCLE_NS.f))) s.clk.now
    else nextInRow 0 1000000 s.clk.now)

/-- The launches that a port knows of (R232). -/
def State.launchDemand (s : State) (d : Nat) : List Int :=
  match macOfPort d with
  | some n => (s.launchesAhead n).map Int.ofNat
  | none => []

/-- The next demand of a domain in local ns (R443); none while nothing known touches it. -/
def State.nextDemand (s : State) (d : Nat) : Option Int :=
  earliest s.clk.now ((if d < 16 then s.laneDemand d else []) ++ s.launchDemand d ++ s.entryDemand d ++ s.mvbDemand d
    ++ s.releaseDemand d)

/-- The next demand lies further ahead than the exit latency of a rung and the margin (R444). -/
def State.demandClear (s : State) (d r : Nat) : Bool :=
  match s.nextDemand d with
  | some t => (s.clk.now : Int) + (exitLatency r : Nat) + (s.rd LAD_MARGIN_NS.f : Nat) < t
  | none => true

/-- An idle domain descends one rung (R444): no deeper than its kind limit and its floor, and not so deep that it could not stand
in Run at its next demand.  A domain asked to stand in Peat (R447) goes on without regard to its floor. -/
def descend (d : Nat) (s : State) : State :=
  let q := s.rd (LAD_Dd_RUNG.f d)
  if d > 183 || q + 1 > s.deepest d || !s.demandClear d (q + 1) then s else moveDomain d (q + 1) s

/-- The meaning of `DOMAIN_DESCENT`. -/
def execDomainDescent (domain : Nat) (s : State) : Outcome := act (whenRunning (descend domain)) s

/-- A domain returns to Run ahead of its next demand, by the exit latency of its rung and the margin (R445). -/
def ascend (d : Nat) (s : State) : State :=
  let q := s.rd (LAD_Dd_RUNG.f d)
  if d > 183 || q = 0 || s.demandClear d q then s else moveDomain d 0 s

/-- The meaning of `DOMAIN_ASCENT`. -/
def execDomainAscent (domain : Nat) (s : State) : Outcome := act (whenRunning (ascend domain)) s

end Sys2Proof.Machine
end

