-- ==== Sys2Proof/Machine/Dispatch.lean ====
section
/-!
DEFINITION. The arms of `exec`: for each command of the table, its meaning.
-/
namespace Sys2Proof.Machine
open Sys2Proof

/-- The effect of a command on everything but the queue of waiting commands. -/
def exec (i : Instr) (s : State) : Host.Outcome State Fault Refusal :=
  match i with
  | .idRead h => Sys2Proof.Machine.execIdRead h s
  | .infoRead h => Sys2Proof.Machine.execInfoRead h s
  | .unitStateRead h unit => Sys2Proof.Machine.execUnitStateRead h unit s
  | .mismatchList h => Sys2Proof.Machine.execMismatchList h s
  | .echo h data => Sys2Proof.Machine.execEcho h data s
  | .imageStageBegin h slot length => Sys2Proof.Machine.execImageStageBegin h slot length s
  | .imageStageData h offset data => Sys2Proof.Machine.execImageStageData h offset data s
  | .imageCommit h slot => Sys2Proof.Machine.execImageCommit h slot s
  | .imageCommitComplete signed compared => Sys2Proof.Machine.execImageCommitComplete signed compared s
  | .imageSelect h slot fallback => Sys2Proof.Machine.execImageSelect h slot fallback s
  | .imageInfo h slot => Sys2Proof.Machine.execImageInfo h slot s
  | .configApply h mask cycle => Sys2Proof.Machine.execConfigApply h mask cycle s
  | .paramRead h offset count => Sys2Proof.Machine.execParamRead h offset count s
  | .paramWrite h offset words => Sys2Proof.Machine.execParamWrite h offset words s
  | .registerWrite offset value mask => Sys2Proof.Machine.execRegisterWrite offset value mask s
  | .nodeReset h kind => Sys2Proof.Machine.execNodeReset h kind s
  | .timeRead h => Sys2Proof.Machine.execTimeRead h s
  | .timeStep h cycle step => Sys2Proof.Machine.execTimeStep h cycle step s
  | .timeReintegrate h => Sys2Proof.Machine.execTimeReintegrate h s
  | .refPriority h units => Sys2Proof.Machine.execRefPriority h units s
  | .servoLimit h freeze ppb => Sys2Proof.Machine.execServoLimit h freeze ppb s
  | .positionRead h => Sys2Proof.Machine.execPositionRead h s
  | .baliseCorrect h position time => Sys2Proof.Machine.execBaliseCorrect h position time s
  | .phaseRead h => Sys2Proof.Machine.execPhaseRead h s
  | .eventAdd h entry => Sys2Proof.Machine.execEventAdd h entry s
  | .eventRemove h index => Sys2Proof.Machine.execEventRemove h index s
  | .eventRead h index => Sys2Proof.Machine.execEventRead h index s
  | .disturbWindow h mask start duration => Sys2Proof.Machine.execDisturbWindow h mask start duration s
  | .hoistRequest h reason => Sys2Proof.Machine.execHoistRequest h reason s
  | .directoryRead h which => Sys2Proof.Machine.execDirectoryRead h which s
  | .cycleStatus h => Sys2Proof.Machine.execCycleStatus h s
  | .trainSleep h cycle => Sys2Proof.Machine.execTrainSleep h cycle s
  | .laneForce h pe mask => Sys2Proof.Machine.execLaneForce h pe mask s
  | .scheduleSwitch h cycle => Sys2Proof.Machine.execScheduleSwitch h cycle s
  | .signalRead h index count => Sys2Proof.Machine.execSignalRead h index count s
  | .signalWrite h index value => Sys2Proof.Machine.execSignalWrite h index value s
  | .signalWindowWrite c index value => Sys2Proof.Machine.execSignalWindowWrite c index value s
  | .smeRead h index profile => Sys2Proof.Machine.execSmeRead h index profile s
  | .smeWrite h index profile entry => Sys2Proof.Machine.execSmeWrite h index profile entry s
  | .profileSwitch h profile cycle => Sys2Proof.Machine.execProfileSwitch h profile cycle s
  | .profileRead h => Sys2Proof.Machine.execProfileRead h s
  | .fieldConfig h channel config => Sys2Proof.Machine.execFieldConfig h channel config s
  | .fieldRead h first count => Sys2Proof.Machine.execFieldRead h first count s
  | .fieldSet h mask levels => Sys2Proof.Machine.execFieldSet h mask levels s
  | .loopSet h channel code => Sys2Proof.Machine.execLoopSet h channel code s
  | .fieldSafeSet h channel safe watchdog => Sys2Proof.Machine.execFieldSafeSet h channel safe watchdog s
  | .fieldFaultClear h channel => Sys2Proof.Machine.execFieldFaultClear h channel s
  | .ladderStatus h => Sys2Proof.Machine.execLadderStatus h s
  | .ladderFloor h domain rung => Sys2Proof.Machine.execLadderFloor h domain rung s
  | .feedPrefer h feed => Sys2Proof.Machine.execFeedPrefer h feed s
  | .pwrPrefer c feed => Sys2Proof.Machine.execPwrPrefer c feed s
  | .thermalRead h => Sys2Proof.Machine.execThermalRead h s
  | .perfFloor h floor => Sys2Proof.Machine.execPerfFloor h floor s
  | .pairStatus h => Sys2Proof.Machine.execPairStatus h s
  | .guardedSet h channels => Sys2Proof.Machine.execGuardedSet h channels s
  | .failoverRequest h => Sys2Proof.Machine.execFailoverRequest h s
  | .failoverTimeout => Sys2Proof.Machine.execFailoverTimeout s
  | .semAcquire h index hold => Sys2Proof.Machine.execSemAcquire h index hold s
  | .semRelease h index => Sys2Proof.Machine.execSemRelease h index s
  | .bridgeStatus h => Sys2Proof.Machine.execBridgeStatus h s
  | .statsRead h unit first count => Sys2Proof.Machine.execStatsRead h unit first count s
  | .statsClear h unit => Sys2Proof.Machine.execStatsClear h unit s
  | .recorderRead h start signal records => Sys2Proof.Machine.execRecorderRead h start signal records s
  | .selftest h unit => Sys2Proof.Machine.execSelftest h unit s
  | .eventSubscribe h ip udp groups => Sys2Proof.Machine.execEventSubscribe h ip udp groups s
  | .portEnable h port enable => Sys2Proof.Machine.execPortEnable h port enable s
  | .portStatus h port => Sys2Proof.Machine.execPortStatus h port s
  | .wakePatternSet h mac pattern mask crc => Sys2Proof.Machine.execWakePatternSet h mac pattern mask crc s
  | .phyTest h port mode => Sys2Proof.Machine.execPhyTest h port mode s
  | .commandTake => Sys2Proof.Machine.execCommandTake s
  | .writePacket bytes => Sys2Proof.Machine.execWritePacket bytes s
  | .readReply complete => Sys2Proof.Machine.execReadReply complete s
  | .readEvent complete => Sys2Proof.Machine.execReadEvent complete s
  | .readStatus => Sys2Proof.Machine.execReadStatus s
  | .ssUnknownTransaction first => Sys2Proof.Machine.execSsUnknownTransaction first s
  | .mtDatagramReceive d => Sys2Proof.Machine.execMtDatagramReceive d s
  | .mtReassemblyTimeout ip ident => Sys2Proof.Machine.execMtReassemblyTimeout ip ident s
  | .cmdHaRingTail hb tail => Sys2Proof.Machine.execCmdHaRingTail hb tail s
  | .commandRingFetch hb entry packet => Sys2Proof.Machine.execCommandRingFetch hb entry packet s
  | .cmdHaEvtRead hb index => Sys2Proof.Machine.execCmdHaEvtRead hb index s
  | .bar0Write hb offset size value => Sys2Proof.Machine.execBar0Write hb offset size value s
  | .timSecRead path => Sys2Proof.Machine.execTimSecRead path s
  | .posPositionRead path => Sys2Proof.Machine.execPosPositionRead path s
  | .firmwareHeartbeat => Sys2Proof.Machine.execFirmwareHeartbeat s
  | .pcieReset hb => Sys2Proof.Machine.execPcieReset hb s
  | .bkbPepCtlSpeed pe speed ext => Sys2Proof.Machine.execBkbPepCtlSpeed pe speed ext s
  | .timSlewPpb ppb => Sys2Proof.Machine.execTimSlewPpb ppb s
  | .timFreeze freeze => Sys2Proof.Machine.execTimFreeze freeze s
  | .posAxnDiamUm axle diam ppr => Sys2Proof.Machine.execPosAxnDiamUm axle diam ppr s
  | .posLpSys sys => Sys2Proof.Machine.execPosLpSys sys s
  | .stlEngeCfg engine cfg => Sys2Proof.Machine.execStlEngeCfg engine cfg s
  | .ladDdCfg domain cfg => Sys2Proof.Machine.execLadDdCfg domain cfg s
  | .macNCfgEn mac cfg => Sys2Proof.Machine.execMacNCfgEn mac cfg s
  | .macNPlcaEn mac en id count timer burst burstTimer => Sys2Proof.Machine.execMacNPlcaEn mac en id count timer burst burstTimer s
  | .glbVehIdSet c vehId => Sys2Proof.Machine.execGlbVehIdSet c vehId s
  | .fcMode channel mode => Sys2Proof.Machine.execFcMode channel mode s
  | .newModeConnect channel => Sys2Proof.Machine.execNewModeConnect channel s
  | .redReqEn en mask => Sys2Proof.Machine.execRedReqEn en mask s
  | .schHxTxEn hb tx rx => Sys2Proof.Machine.execSchHxTxEn hb tx rx s
  | .fieldLinkFrame die ok senses meas => Sys2Proof.Machine.execFieldLinkFrame die ok senses meas s
  | .fieldLinkLost die => Sys2Proof.Machine.execFieldLinkLost die s
  | .fieldLinkUp die => Sys2Proof.Machine.execFieldLinkUp die s
  | .pwrLinkLost => Sys2Proof.Machine.execPwrLinkLost s
  | .uncorrectableError place => Sys2Proof.Machine.execUncorrectableError place s
  | .correctedError memory => Sys2Proof.Machine.execCorrectedError memory s
  | .refclkLost ref => Sys2Proof.Machine.execRefclkLost ref s
  | .refclkReturn ref => Sys2Proof.Machine.execRefclkReturn ref s
  | .cycleBoundary => Sys2Proof.Machine.execCycleBoundary s
  | .stateMismatch unit => Sys2Proof.Machine.execStateMismatch unit s
  | .laneTrained mac speed => Sys2Proof.Machine.execLaneTrained mac speed s
  | .laneLossReport mac => Sys2Proof.Machine.execLaneLossReport mac s
  | .laneLossEnd mac => Sys2Proof.Machine.execLaneLossEnd mac s
  | .lossQualified mac => Sys2Proof.Machine.execLossQualified mac s
  | .laneStateFrameSend mac => Sys2Proof.Machine.execLaneStateFrameSend mac s
  | .laneStateFrameReceive rx => Sys2Proof.Machine.execLaneStateFrameReceive rx s
  | .laneRecover mac => Sys2Proof.Machine.execLaneRecover mac s
  | .backboneFrameReceive rx => Sys2Proof.Machine.execBackboneFrameReceive rx s
  | .disturbWindowOpen window => Sys2Proof.Machine.execDisturbWindowOpen window s
  | .disturbWindowEnd window => Sys2Proof.Machine.execDisturbWindowEnd window s
  | .pennantReceive rx => Sys2Proof.Machine.execPennantReceive rx s
  | .slotContentCutoff slot => Sys2Proof.Machine.execSlotContentCutoff slot s
  | .slotEgress slot pe => Sys2Proof.Machine.execSlotEgress slot pe s
  | .slotSkip slot pe => Sys2Proof.Machine.execSlotSkip slot pe s
  | .messagePhaseStart => Sys2Proof.Machine.execMessagePhaseStart s
  | .pennantMissed => Sys2Proof.Machine.execPennantMissed s
  | .listenStart => Sys2Proof.Machine.execListenStart s
  | .listenTimerExpiry => Sys2Proof.Machine.execListenTimerExpiry s
  | .backoffExpiry => Sys2Proof.Machine.execBackoffExpiry s
  | .contestTimerExpiry => Sys2Proof.Machine.execContestTimerExpiry s
  | .startupFrameReceive rx => Sys2Proof.Machine.execStartupFrameReceive rx s
  | .coupleSenseDebounce end_ level => Sys2Proof.Machine.execCoupleSenseDebounce end_ level s
  | .triggerFrame rx => Sys2Proof.Machine.execTriggerFrame rx s
  | .joinHoldExpiry => Sys2Proof.Machine.execJoinHoldExpiry s
  | .topologyFrame rx => Sys2Proof.Machine.execTopologyFrame rx s
  | .recordFrame rx => Sys2Proof.Machine.execRecordFrame rx s
  | .collectionClose => Sys2Proof.Machine.execCollectionClose s
  | .numberingDone => Sys2Proof.Machine.execNumberingDone s
  | .proposalFrame rx => Sys2Proof.Machine.execProposalFrame rx s
  | .runaheadComplete => Sys2Proof.Machine.execRunaheadComplete s
  | .provisionalFrameReceive rx => Sys2Proof.Machine.execProvisionalFrameReceive rx s
  | .readyFrame rx => Sys2Proof.Machine.execReadyFrame rx s
  | .refuseFrame rx => Sys2Proof.Machine.execRefuseFrame rx s
  | .readyCollectionClose => Sys2Proof.Machine.execReadyCollectionClose s
  | .commitFrame rx => Sys2Proof.Machine.execCommitFrame rx s
  | .strikeFrame rx => Sys2Proof.Machine.execStrikeFrame rx s
  | .yieldFrame rx => Sys2Proof.Machine.execYieldFrame rx s
  | .delayExchangeStart => Sys2Proof.Machine.execDelayExchangeStart s
  | .delayRequestReceive rx => Sys2Proof.Machine.execDelayRequestReceive rx s
  | .delayResponseReceive rx => Sys2Proof.Machine.execDelayResponseReceive rx s
  | .delayFollowUpReceive rx => Sys2Proof.Machine.execDelayFollowUpReceive rx s
  | .delayExchangeVoid mac => Sys2Proof.Machine.execDelayExchangeVoid mac s
  | .ppsPulse edge time => Sys2Proof.Machine.execPpsPulse edge time s
  | .todMessage input bytes => Sys2Proof.Machine.execTodMessage input bytes s
  | .ptpMessageReceive m => Sys2Proof.Machine.execPtpMessageReceive m s
  | .ppsLossTimeout input => Sys2Proof.Machine.execPpsLossTimeout input s
  | .referenceWindowEnd ref window => Sys2Proof.Machine.execReferenceWindowEnd ref window s
  | .ppsOutPulse => Sys2Proof.Machine.execPpsOutPulse s
  | .axleEdge e => Sys2Proof.Machine.execAxleEdge e s
  | .slipCheck => Sys2Proof.Machine.execSlipCheck s
  | .fusionUpdate => Sys2Proof.Machine.execFusionUpdate s
  | .positionReportReceive rx => Sys2Proof.Machine.execPositionReportReceive rx s
  | .lineCrossing period amplitude => Sys2Proof.Machine.execLineCrossing period amplitude s
  | .dcDetect => Sys2Proof.Machine.execDcDetect s
  | .eventFire index => Sys2Proof.Machine.execEventFire index s
  | .tailWordPoll hb word rxSizes => Sys2Proof.Machine.execTailWordPoll hb word rxSizes s
  | .transmitDescriptorFetch hb desc frame => Sys2Proof.Machine.execTransmitDescriptorFetch hb desc frame s
  | .portTransmitSelect mac => Sys2Proof.Machine.execPortTransmitSelect mac s
  | .frameTransmitComplete mac => Sys2Proof.Machine.execFrameTransmitComplete mac s
  | .macFrameReceive rx => Sys2Proof.Machine.execMacFrameReceive rx s
  | .pauseExpiry mac => Sys2Proof.Machine.execPauseExpiry mac s
  | .queueAgeExpiry mac queue => Sys2Proof.Machine.execQueueAgeExpiry mac queue s
  | .linkStatusChange mac link speed half => Sys2Proof.Machine.execLinkStatusChange mac link speed half s
  | .collision mac late => Sys2Proof.Machine.execCollision mac late s
  | .csmaBackoffExpiry mac => Sys2Proof.Machine.execCsmaBackoffExpiry mac s
  | .plcaStatusChange mac ok => Sys2Proof.Machine.execPlcaStatusChange mac ok s
  | .jobTake engine => Sys2Proof.Machine.execJobTake engine s
  | .stealSearch engine => Sys2Proof.Machine.execStealSearch engine s
  | .jobComplete engine => Sys2Proof.Machine.execJobComplete engine s
  | .recorderWrite => Sys2Proof.Machine.execRecorderWrite s
  | .stalenessSweep first count => Sys2Proof.Machine.execStalenessSweep first count s
  | .fieldImagePresent => Sys2Proof.Machine.execFieldImagePresent s
  | .chunkApply unit layout => Sys2Proof.Machine.execChunkApply unit layout s
  | .releasePointCyclic unit layout => Sys2Proof.Machine.execReleasePointCyclic unit layout s
  | .engineQuarantine engine cause => Sys2Proof.Machine.execEngineQuarantine engine cause s
  | .engineSelftestDone engine good => Sys2Proof.Machine.execEngineSelftestDone engine good s
  | .envelopeInterval => Sys2Proof.Machine.execEnvelopeInterval s
  | .mvbBasicPeriod c => Sys2Proof.Machine.execMvbBasicPeriod c s
  | .mvbMasterFrameReceive c fcode addr lines => Sys2Proof.Machine.execMvbMasterFrameReceive c fcode addr lines s
  | .mvbSlaveFrameReceive c line fcode addr data goodA goodB => Sys2Proof.Machine.execMvbSlaveFrameReceive c line fcode addr data goodA goodB s
  | .mvbReplyTimeout c => Sys2Proof.Machine.execMvbReplyTimeout c s
  | .mvbSilenceTakeover c => Sys2Proof.Machine.execMvbSilenceTakeover c s
  | .wtbInaugurationStart => Sys2Proof.Machine.execWtbInaugurationStart s
  | .wtbInaugurationComplete w => Sys2Proof.Machine.execWtbInaugurationComplete w s
  | .wtbProcessDataReceive addr data lines => Sys2Proof.Machine.execWtbProcessDataReceive addr data lines s
  | .wtbOwnFrameSend => Sys2Proof.Machine.execWtbOwnFrameSend s
  | .canFrameReceive k id ide fdf rtr data => Sys2Proof.Machine.execCanFrameReceive k id ide fdf rtr data s
  | .canTransmitComplete k => Sys2Proof.Machine.execCanTransmitComplete k s
  | .canTxAgeExpiry k entry => Sys2Proof.Machine.execCanTxAgeExpiry k entry s
  | .canBusOff k => Sys2Proof.Machine.execCanBusOff k s
  | .canBusOffRecovery k => Sys2Proof.Machine.execCanBusOffRecovery k s
  | .serialFrameClose ser data charError break_ => Sys2Proof.Machine.execSerialFrameClose ser data charError break_ s
  | .serialTransmit ser => Sys2Proof.Machine.execSerialTransmit ser s
  | .serialResponseTimeout ser => Sys2Proof.Machine.execSerialResponseTimeout ser s
  | .receiveTimeout bus unit entry => Sys2Proof.Machine.execReceiveTimeout bus unit entry s
  | .bridgeFrameReceive rx => Sys2Proof.Machine.execBridgeFrameReceive rx s
  | .reassemblyTimeout origin xid => Sys2Proof.Machine.execReassemblyTimeout origin xid s
  | .orderGapTimeout originUid => Sys2Proof.Machine.execOrderGapTimeout originUid s
  | .transactionTimeout port tag => Sys2Proof.Machine.execTransactionTimeout port tag s
  | .semExpiry index => Sys2Proof.Machine.execSemExpiry index s
  | .bankSupplyMeasure bank mv => Sys2Proof.Machine.execBankSupplyMeasure bank mv s
  | .inputSample channel level current => Sys2Proof.Machine.execInputSample channel level current s
  | .loopConversion channel code => Sys2Proof.Machine.execLoopConversion channel code s
  | .loopWireBreak channel broken => Sys2Proof.Machine.execLoopWireBreak channel broken s
  | .overcurrentLatch channel => Sys2Proof.Machine.execOvercurrentLatch channel s
  | .overtemperatureTrip channel => Sys2Proof.Machine.execOvertemperatureTrip channel s
  | .openLoad channel open_ => Sys2Proof.Machine.execOpenLoad channel open_ s
  | .demagnetisationEnd channel energy bankMw => Sys2Proof.Machine.execDemagnetisationEnd channel energy bankMw s
  | .compliance channel short => Sys2Proof.Machine.execCompliance channel short s
  | .watchdogExpired channel => Sys2Proof.Machine.execWatchdogExpired channel s
  | .holdLimit channel => Sys2Proof.Machine.execHoldLimit channel s
  | .mirrorStale => Sys2Proof.Machine.execMirrorStale s
  | .feedStateChange feed state mv => Sys2Proof.Machine.execFeedStateChange feed state mv s
  | .feedQualified feed => Sys2Proof.Machine.execFeedQualified feed s
  | .rideThroughExpiry => Sys2Proof.Machine.execRideThroughExpiry s
  | .healthTrip bit => Sys2Proof.Machine.execHealthTrip bit s
  | .arbGntChange level => Sys2Proof.Machine.execArbGntChange level s
  | .guidonSend => Sys2Proof.Machine.execGuidonSend s
  | .halyardFrameReceive hdr mirror => Sys2Proof.Machine.execHalyardFrameReceive hdr mirror s
  | .backboneGuidonReceive mac hdr => Sys2Proof.Machine.execBackboneGuidonReceive mac hdr s
  | .guidonMiss path => Sys2Proof.Machine.execGuidonMiss path s
  | .halyardUp up partnerUid => Sys2Proof.Machine.execHalyardUp up partnerUid s
  | .domainDescent domain => Sys2Proof.Machine.execDomainDescent domain s
  | .domainAscent domain => Sys2Proof.Machine.execDomainAscent domain s
  | .domainWake domain => Sys2Proof.Machine.execDomainWake domain s
  | .sleepAckFrame rx => Sys2Proof.Machine.execSleepAckFrame rx s
  | .sleepAckClose => Sys2Proof.Machine.execSleepAckClose s
  | .orphanTimeout => Sys2Proof.Machine.execOrphanTimeout s
  | .wakeIndication source pes seconds => Sys2Proof.Machine.execWakeIndication source pes seconds s
  | .thermalSample tj => Sys2Proof.Machine.execThermalSample tj s
  | .throttleStepTimer => Sys2Proof.Machine.execThrottleStepTimer s
  | .shedStageTimer => Sys2Proof.Machine.execShedStageTimer s
  | .ecoStep down => Sys2Proof.Machine.execEcoStep down s
  | .thermalRestart => Sys2Proof.Machine.execThermalRestart s
  | .internalRelease b => Sys2Proof.Machine.execInternalRelease b s
  | .resetNPulse ns => Sys2Proof.Machine.execResetNPulse ns s
  | .railSupervisorFault die => Sys2Proof.Machine.execRailSupervisorFault die s
  | .imageCheckDone slot result => Sys2Proof.Machine.execImageCheckDone slot result s
  | .lineLinkTimeout port => Sys2Proof.Machine.execLineLinkTimeout port s
  | .powerLinkReturn => Sys2Proof.Machine.execPowerLinkReturn s
  | .canErrorFrame k tec rec => Sys2Proof.Machine.execCanErrorFrame k tec rec s
  | .announceReceiptTimeout port => Sys2Proof.Machine.execAnnounceReceiptTimeout port s
  | .ptpMessageInterval port kind => Sys2Proof.Machine.execPtpMessageInterval port kind s
  | .todMessageTimeout input => Sys2Proof.Machine.execTodMessageTimeout input s
  | .linePeriodEnd amplitude error => Sys2Proof.Machine.execLinePeriodEnd amplitude error s
  | .pcieLinkChange hb up => Sys2Proof.Machine.execPcieLinkChange hb up s
  | .journalRecordCommitted => Sys2Proof.Machine.execJournalRecordCommitted s
  | .plcaBeacon mac => Sys2Proof.Machine.execPlcaBeacon mac s

end Sys2Proof.Machine
end

