-- ==== Sys2Proof/Machine/Tick.lean ====
section
/-!
DEFINITION. What passes when no command waits: one `TB` clock of 1 ns (DESIGN CHOICE, log entry 1).  The local clock runs
on at its corrected rate (R180); whatever happens at an instant is a command of its own.
-/
namespace Sys2Proof.Machine
open Sys2Proof

/-- The local clock after one uncorrected nanosecond, at a rate correction in 2^-32 ns per ns; its seconds wrap modulo 2^48
(R173). -/
def Clock.tick (c : Clock) (rate : Int) : Clock :=
  let t : Int := (c.now : Int) * 2 ^ 32 + c.frac + 2 ^ 32 + rate
  { now := (t / 2 ^ 32).toNat % (2 ^ 48 * 1000000000), frac := (t % 2 ^ 32).toNat, up := c.up + 1 }

/-- One clock passes.  Without power nothing does; in Bog and in reset the local clock stands. -/
def tick (s : State) : State :=
  if s.sys.power = 3 then { s with clk := s.clk.tick (s.rdS TIM_RATE.f), out := [] } else { s with out := [] }

end Sys2Proof.Machine
end

