-- ==== Sys2Proof/WellFormed.lean ====
section
/-!
DEFINITION. Which operands a command can carry: those that the packet fields of Table 02-6, the register fields and the
numbering of the node's parts leave room for.  A meaning is total all the same: an operand beyond these bounds is met by the
`RANGE` check of its command, or names no part and passes by.
-/
namespace Sys2Proof

/-- A packet header whose fields fit those of Table 02-1. -/
def CmdHdr.wf (h : CmdHdr) : Bool :=
  h.seq < 2 ^ 16 && h.target < 2 ^ 16 && h.epoch < 2 ^ 16 && h.originNode < 2 ^ 16 && h.originPort < 2 ^ 8

/-- A backbone frame whose header fields fit those of its Ethernet header and of Table 03-2. -/
def BbFrame.wf (f : BbFrame) : Bool :=
  f.dst < 2 ^ 48 && f.src < 2 ^ 48 && f.etherType < 2 ^ 16 && f.version < 16 && f.kind < 16 && f.origin < 2 ^ 16 &&
    f.epoch < 2 ^ 16 && f.seq < 2 ^ 32 && f.hops < 2 ^ 16 && f.slot < 2 ^ 16

/-- A received backbone frame: it came over one of the 16 lanes. -/
def RxBb.wf (r : RxBb) : Bool := r.mac < 16 && r.frame.wf

/-- A received Ethernet frame: it came over one of the 81 MACs, and its length counts the FCS. -/
def RxEth.wf (r : RxEth) : Bool := r.mac < 81 && r.bytes.length + 4 == r.len

/-- A frame on `MT` whose fields fit those of IPv4 and UDP. -/
def MtFrame.wf (d : MtFrame) : Bool :=
  d.kind < 4 && d.ip < 2 ^ 32 && d.udp < 2 ^ 16 && d.dstUdp < 2 ^ 16 && d.ident < 2 ^ 16 && d.offset < 2 ^ 16

/-- A PTP message of one of the five kinds on one of the 128 ports. -/
def PtpMsg.wf (m : PtpMsg) : Bool := m.port < 128 && m.kind < 5 && m.seq < 2 ^ 16 && m.domain < 2 ^ 8

/-- A place that exists. -/
def MemPlace.wf : MemPlace → Bool
  | .mapEntry i => i < 2 ^ 18
  | .value i => i < 2 ^ 18
  | .table t b p => t < 5 && b < 2 && p < 4
  | .engine e _ => e < 512
  | .deque e => e < 512
  | .event i => i < 4096
  | .slot n => n < 2
  | .identity r => r < 2
  | .cell _ => true
  | .record _ => true
  | .staged _ => true
  | .journal _ => true

/-- An inauguration that names WTB addresses (R350). -/
def WtbInaug.wf (w : WtbInaug) : Bool :=
  1 ≤ w.addr && w.addr < 64 && w.dir1.all (fun n => n.addr < 64) && w.dir2.all (fun n => n.addr < 64) && w.lines < 16

/-- Strap levels as the two-bit and four-bit codes of R465, and identity words of 64 bits. -/
def BoardLevels.wf (b : BoardLevels) : Bool :=
  b.boot < 4 && b.cold < 4 && b.pair < 4 && b.maint < 4 && b.jtag < 4 && b.uid < 2 ^ 64 && b.mac < 2 ^ 48 &&
    b.vehId < 2 ^ 64

/-- A command whose operands its row admits. -/
def Instr.wf : Instr → Bool
  | .idRead h => h.wf
  | .infoRead h => h.wf
  | .unitStateRead h unit => h.wf && unit < 2 ^ 16
  | .mismatchList h => h.wf
  | .echo h data => h.wf && data.length ≤ 65504
  | .imageStageBegin h slot length => h.wf && slot < 2 ^ 8 && length < 2 ^ 32
  | .imageStageData h offset data => h.wf && offset < 2 ^ 32 && 1 ≤ data.length && data.length ≤ 65504
  | .imageCommit h slot => h.wf && slot < 2 ^ 8
  | .imageCommitComplete _ _ => true
  | .imageSelect h slot fallback => h.wf && slot < 2 ^ 8 && fallback < 2 ^ 8
  | .imageInfo h slot => h.wf && slot < 2 ^ 8
  | .configApply h mask cycle => h.wf && mask < 2 ^ 32 && cycle < 2 ^ 32
  | .paramRead h offset count => h.wf && offset < 2 ^ 32 && count < 2 ^ 16
  | .paramWrite h offset words => h.wf && offset < 2 ^ 32 && words.length ≤ 4093 &&
      words.all (fun w => w.1 < 2 ^ 64 && w.2 < 2 ^ 64)
  | .registerWrite offset value mask => offset < 2 ^ 32 && value < 2 ^ 64 && mask < 2 ^ 64
  | .nodeReset h kind => h.wf && kind < 2 ^ 8
  | .timeRead h => h.wf
  | .timeStep h cycle step => h.wf && cycle < 2 ^ 32 && step < 2 ^ 64
  | .timeReintegrate h => h.wf
  | .refPriority h units => h.wf && units.length < 2 ^ 8 && units.all (fun u => u < 2 ^ 16)
  | .servoLimit h freeze ppb => h.wf && freeze < 2 ^ 8 && ppb < 2 ^ 32
  | .positionRead h => h.wf
  | .baliseCorrect h position time => h.wf && position < 2 ^ 64 && time < 2 ^ 64
  | .phaseRead h => h.wf
  | .eventAdd h entry => h.wf && entry.length == 64
  | .eventRemove h index => h.wf && index < 2 ^ 16
  | .eventRead h index => h.wf && index < 2 ^ 16
  | .disturbWindow h mask start duration => h.wf && mask < 2 ^ 8 && start < 2 ^ 64 && duration < 2 ^ 32
  | .hoistRequest h reason => h.wf && reason < 2 ^ 8
  | .directoryRead h which => h.wf && which < 2 ^ 8
  | .cycleStatus h => h.wf
  | .trainSleep h cycle => h.wf && cycle < 2 ^ 32
  | .laneForce h pe mask => h.wf && pe < 2 ^ 8 && mask < 2 ^ 8
  | .scheduleSwitch h cycle => h.wf && cycle < 2 ^ 32
  | .signalRead h index count => h.wf && index < 2 ^ 32 && count < 2 ^ 16
  | .signalWrite h index value => h.wf && index < 2 ^ 32 && value < 2 ^ 64
  | .signalWindowWrite _ index value => index < 2 ^ 18 && value < 2 ^ 64
  | .smeRead h index profile => h.wf && index < 2 ^ 32 && profile < 2 ^ 8
  | .smeWrite h index profile entry => h.wf && index < 2 ^ 32 && profile < 2 ^ 8 && entry.length == 64
  | .profileSwitch h profile cycle => h.wf && profile < 2 ^ 8 && cycle < 2 ^ 32
  | .profileRead h => h.wf
  | .fieldConfig h channel config => h.wf && channel < 256 && config.length == 32
  | .fieldRead h first count => h.wf && first < 2 ^ 8 && count < 2 ^ 16
  | .fieldSet h mask levels => h.wf && mask.length == 32 && levels.length == 32
  | .loopSet h channel code => h.wf && channel < 256 && code < 2 ^ 16
  | .fieldSafeSet h channel safe watchdog => h.wf && channel < 256 && safe < 2 ^ 8 && watchdog < 2 ^ 32
  | .fieldFaultClear h channel => h.wf && channel < 256
  | .ladderStatus h => h.wf
  | .ladderFloor h domain rung => h.wf && domain < 2 ^ 16 && rung < 2 ^ 8
  | .feedPrefer h feed => h.wf && feed < 2 ^ 8
  | .pwrPrefer _ feed => feed < 4
  | .thermalRead h => h.wf
  | .perfFloor h floor => h.wf && floor < 2 ^ 8
  | .pairStatus h => h.wf
  | .guardedSet h channels => h.wf && channels.length < 2 ^ 8 && channels.all (fun c => c < 256)
  | .failoverRequest h => h.wf
  | .failoverTimeout => true
  | .semAcquire h index hold => h.wf && index < 2 ^ 8 && hold < 2 ^ 16
  | .semRelease h index => h.wf && index < 2 ^ 8
  | .bridgeStatus h => h.wf
  | .statsRead h unit first count => h.wf && unit < 2 ^ 16 && first < 2 ^ 8 && count < 2 ^ 8
  | .statsClear h unit => h.wf && unit < 2 ^ 16
  | .recorderRead h start signal records => h.wf && start < 2 ^ 64 && signal < 2 ^ 32 && records < 2 ^ 16
  | .selftest h unit => h.wf && unit < 2 ^ 16
  | .eventSubscribe h ip udp groups => h.wf && ip < 2 ^ 32 && udp < 2 ^ 16 && groups < 2 ^ 16
  | .portEnable h port enable => h.wf && port < 2 ^ 8 && enable < 2 ^ 8
  | .portStatus h port => h.wf && port < 2 ^ 8
  | .wakePatternSet h mac pattern mask crc => h.wf && mac < 2 ^ 8 && pattern < 2 ^ 8 && mask.length == 16 &&
      crc < 2 ^ 32
  | .phyTest h port mode => h.wf && port < 2 ^ 8 && mode < 2 ^ 8
  | .commandTake => true
  | .writePacket bytes => bytes.length ≤ 65536
  | .readReply _ => true
  | .readEvent _ => true
  | .readStatus => true
  | .ssUnknownTransaction first => first < 2 ^ 8
  | .mtDatagramReceive d => d.wf
  | .mtReassemblyTimeout ip ident => ip < 2 ^ 32 && ident < 2 ^ 16
  | .cmdHaRingTail _ tail => tail < 2 ^ 32
  | .commandRingFetch _ entry packet => entry.length == 32 && packet.length ≤ 65536
  | .cmdHaEvtRead _ index => index < 2 ^ 32
  | .bar0Write _ offset size value => offset < 2 ^ 24 && (size == 1 || size == 2 || size == 4 || size == 8) &&
      value < 2 ^ (8 * size)
  | .timSecRead _ => true
  | .posPositionRead _ => true
  | .firmwareHeartbeat => true
  | .pcieReset _ => true
  | .bkbPepCtlSpeed pe speed ext => pe < 4 && speed < 4 && ext < 2
  | .timSlewPpb ppb => ppb < 2 ^ 32
  | .timFreeze freeze => freeze < 2
  | .posAxnDiamUm axle diam ppr => axle < 4 && diam < 2 ^ 32 && ppr < 2 ^ 16
  | .posLpSys sys => sys < 8
  | .stlEngeCfg engine cfg => engine < 512 && cfg < 4
  | .ladDdCfg domain cfg => domain < 184 && cfg < 2
  | .macNCfgEn mac cfg => mac < 81 && cfg < 2
  | .macNPlcaEn mac en id count timer burst burstTimer => mac < 81 && en < 2 && id < 16 && count < 32 &&
      timer < 2 ^ 8 && burst < 2 ^ 8 && burstTimer < 2 ^ 8
  | .glbVehIdSet _ vehId => vehId < 2 ^ 64
  | .fcMode channel mode => channel < 256 && mode < 2 ^ 8
  | .newModeConnect channel => channel < 256
  | .redReqEn en mask => en < 2 && mask < 16
  | .schHxTxEn _ tx rx => tx < 2 && rx < 2
  | .fieldLinkFrame die _ _ meas => die < 3 && meas.all (fun m => m.channel < 256)
  | .fieldLinkLost die => die < 2
  | .fieldLinkUp die => die < 2
  | .pwrLinkLost => true
  | .uncorrectableError place => place.wf
  | .correctedError memory => memory < 9
  | .refclkLost ref => ref < 2
  | .refclkReturn ref => ref < 2
  | .cycleBoundary => true
  | .stateMismatch unit => unit < 2 ^ 16
  | .laneTrained mac speed => mac < 16 && speed < 4
  | .laneLossReport mac => mac < 16
  | .laneLossEnd mac => mac < 16
  | .lossQualified mac => mac < 16
  | .laneStateFrameSend mac => mac < 16
  | .laneStateFrameReceive rx => rx.wf
  | .laneRecover mac => mac < 16
  | .backboneFrameReceive rx => rx.wf
  | .disturbWindowOpen window => window < 16
  | .disturbWindowEnd window => window < 16
  | .pennantReceive rx => rx.wf
  | .slotContentCutoff slot => slot < 2 ^ 16
  | .slotEgress slot pe => slot < 2 ^ 16 && pe < 4
  | .slotSkip slot pe => slot < 2 ^ 16 && pe < 4
  | .messagePhaseStart => true
  | .pennantMissed => true
  | .listenStart => true
  | .listenTimerExpiry => true
  | .backoffExpiry => true
  | .contestTimerExpiry => true
  | .startupFrameReceive rx => rx.wf
  | .coupleSenseDebounce end_ level => end_ < 2 && level < 2
  | .triggerFrame rx => rx.wf
  | .joinHoldExpiry => true
  | .topologyFrame rx => rx.wf
  | .recordFrame rx => rx.wf
  | .collectionClose => true
  | .numberingDone => true
  | .proposalFrame rx => rx.wf
  | .runaheadComplete => true
  | .provisionalFrameReceive rx => rx.wf
  | .readyFrame rx => rx.wf
  | .refuseFrame rx => rx.wf
  | .readyCollectionClose => true
  | .commitFrame rx => rx.wf
  | .strikeFrame rx => rx.wf
  | .yieldFrame rx => rx.wf
  | .delayExchangeStart => true
  | .delayRequestReceive rx => rx.wf
  | .delayResponseReceive rx => rx.wf
  | .delayFollowUpReceive rx => rx.wf
  | .delayExchangeVoid mac => mac < 16
  | .ppsPulse edge _ => edge < 4
  | .todMessage input bytes => input < 2 && bytes.length < 2 ^ 16
  | .ptpMessageReceive m => m.wf
  | .ppsLossTimeout input => input < 2
  | .referenceWindowEnd ref window => 2 ≤ ref && ref ≤ 4 && (window == 60 || window == 600)
  | .ppsOutPulse => true
  | .axleEdge e => e.axle < 4
  | .slipCheck => true
  | .fusionUpdate => true
  | .positionReportReceive rx => rx.wf
  | .lineCrossing period amplitude => period < 2 ^ 64 && amplitude < 2 ^ 32
  | .dcDetect => true
  | .eventFire index => index < 4096
  | .tailWordPoll _ word rxSizes => word < 2 ^ 64 && rxSizes.all (fun n => n < 2 ^ 16)
  | .transmitDescriptorFetch _ desc frame => desc.length == 32 && frame.all (fun b => b.length < 2 ^ 16)
  | .portTransmitSelect mac => mac < 81
  | .frameTransmitComplete mac => mac < 81
  | .macFrameReceive rx => rx.wf
  | .pauseExpiry mac => mac < 81
  | .queueAgeExpiry mac queue => mac < 81 && queue < 8
  | .linkStatusChange mac link speed _ => mac < 81 && link < 2 && speed < 8
  | .collision mac _ => mac < 81
  | .csmaBackoffExpiry mac => mac < 81
  | .plcaStatusChange mac _ => mac < 81
  | .jobTake engine => engine < 512
  | .stealSearch engine => engine < 512
  | .jobComplete engine => engine < 512
  | .recorderWrite => true
  | .stalenessSweep first count => first < 2 ^ 18 && count ≤ 2 ^ 18
  | .fieldImagePresent => true
  | .chunkApply unit layout => unit < 32 && layout < 128
  | .releasePointCyclic unit layout => unit < 32 && layout < 128
  | .engineQuarantine engine cause => engine < 512 && cause < 2 ^ 8
  | .engineSelftestDone engine _ => engine < 512
  | .envelopeInterval => true
  | .mvbBasicPeriod c => c < 4
  | .mvbMasterFrameReceive c fcode addr lines => c < 4 && fcode < 16 && addr < 4096 && lines < 16
  | .mvbSlaveFrameReceive c line fcode addr data _ _ => c < 4 && line < 4 && fcode < 16 && addr < 4096 &&
      data.length ≤ 32
  | .mvbReplyTimeout c => c < 4
  | .mvbSilenceTakeover c => c < 4
  | .wtbInaugurationStart => true
  | .wtbInaugurationComplete w => w.wf
  | .wtbProcessDataReceive addr data lines => addr < 64 && data.length ≤ 128 && lines < 16
  | .wtbOwnFrameSend => true
  | .canFrameReceive k id ide fdf rtr data => k < 12 && id < 2 ^ 29 && ide < 2 && fdf < 2 && rtr < 2 &&
      data.length ≤ 64
  | .canTransmitComplete k => k < 12
  | .canTxAgeExpiry k entry => k < 12 && entry < 2 ^ 16
  | .canBusOff k => k < 12
  | .canBusOffRecovery k => k < 12
  | .serialFrameClose s data _ _ => s < 12 && data.length ≤ 256
  | .serialTransmit s => s < 12
  | .serialResponseTimeout s => s < 12
  | .receiveTimeout bus unit entry => bus < 4 && unit < 12 && entry < 2 ^ 16
  | .bridgeFrameReceive rx => rx.wf
  | .reassemblyTimeout origin xid => origin < 2 ^ 64 && xid < 2 ^ 16
  | .orderGapTimeout originUid => originUid < 2 ^ 64
  | .transactionTimeout port tag => port < 4 && tag < 256
  | .semExpiry index => index < 64
  | .bankSupplyMeasure bank mv => bank < 8 && mv < 2 ^ 32
  | .inputSample channel level _ => channel < 256 && level < 2
  | .loopConversion channel _ => channel < 256
  | .loopWireBreak channel _ => channel < 256
  | .overcurrentLatch channel => channel < 256
  | .overtemperatureTrip channel => channel < 256
  | .openLoad channel _ => channel < 256
  | .demagnetisationEnd channel _ _ => channel < 256
  | .compliance channel _ => channel < 256
  | .watchdogExpired channel => channel < 256
  | .holdLimit channel => channel < 256
  | .mirrorStale => true
  | .feedStateChange feed state mv => (feed == 1 || feed == 2) && state < 3 && mv < 2 ^ 32
  | .feedQualified feed => feed == 1 || feed == 2
  | .rideThroughExpiry => true
  | .healthTrip bit => bit < 16
  | .arbGntChange level => level < 2
  | .guidonSend => true
  | .halyardFrameReceive hdr mirror => hdr.length == 8 && mirror.length < 2 ^ 16
  | .backboneGuidonReceive mac hdr => mac < 16 && hdr.length == 8
  | .guidonMiss path => path < 2
  | .halyardUp _ partnerUid => partnerUid < 2 ^ 64
  | .domainDescent domain => domain < 184
  | .domainAscent domain => domain < 184
  | .domainWake domain => domain < 184
  | .sleepAckFrame rx => rx.wf
  | .sleepAckClose => true
  | .orphanTimeout => true
  | .wakeIndication source pes seconds => source < 6 && pes < 16 && seconds < 2 ^ 34
  | .thermalSample tj => tj.length == 6
  | .throttleStepTimer => true
  | .shedStageTimer => true
  | .ecoStep _ => true
  | .thermalRestart => true
  | .internalRelease b => b.wf
  | .resetNPulse _ => true
  | .railSupervisorFault die => die < 6
  | .imageCheckDone slot _ => slot < 2
  | .lineLinkTimeout port => port < 128
  | .powerLinkReturn => true
  | .canErrorFrame k tec rec => k < 12 && tec < 2 ^ 9 && rec < 2 ^ 8
  | .announceReceiptTimeout port => port < 128
  | .ptpMessageInterval port kind => port < 128 && kind < 5
  | .todMessageTimeout input => input < 2
  | .linePeriodEnd _ _ => true
  | .pcieLinkChange _ _ => true
  | .journalRecordCommitted => true
  | .plcaBeacon mac => mac < 81

end Sys2Proof
end

