-- ==== Sys2Proof/Safety.lean ====
section
/-!
DEFINITION. What counts as a safe run: every waiting command carries operands its row admits, the register file is in its
canonical form, and no step stops.
-/
namespace Sys2Proof.Machine
open Sys2Proof

/-- Every waiting command is well-formed. -/
def State.queueWf (s : State) : Bool := s.pending.all Instr.wf

/-- The register file is in its canonical form. -/
def State.regsWf (s : State) : Bool := regWf s.regs

/-- The next `k` steps all answer a next state. -/
def State.runsFor : Nat → State → Prop
  | 0, _ => True
  | k + 1, s => ∃ t, step s = .next t ∧ t.runsFor k

/-- The state as a command finds it: the outputs of the command before are gone. -/
def State.fresh (s : State) : State := { s with out := [] }

/-- The node is released and in stage 3: hosts, ports, engines and dies are at work (Table 16-1). -/
def State.Up (s : State) : Prop := s.sys.power = 3 ∧ s.sys.stage = 3

/-- The node is released and its ports, cycle unit, engines and dies run (Table 16-1). -/
def State.Running (s : State) : Prop := s.sys.power = 3 ∧ s.sys.started = true

/-- A packet passes the checks of R38 that come before the command's own: the node serves the opcode in its stage (R468,
R471), the path's class may issue it, the target exists and is this node, and the epoch is acceptable where it counts. -/
structure Serves (op : Nat) (h : CmdHdr) (s : State) : Prop where
  power : s.sys.power = 3
  stage : s.sys.stage = 3 ∨ (s.sys.stage = 5 ∧ recoveryServes op = true)
  cls : ∃ cl, opClasses op = some cl ∧ cl.contains (classOf h.via.port) = true
  target : h.target ≤ 128
  epoch : (h.target ≠ 0 ∨ h.epochCheck = true) → s.epochOk h.epoch = true
  here : s.isLocal h = true

/-- The command completes with a reply of this status and data, leaving the node as `t` but for the reply itself. -/
def Answers (c : Instr) (op : Nat) (h : CmdHdr) (s : State) (status : Nat) (data : List Byte) (t : State) : Prop :=
  exec c s = .next { deliverReply h.via (mkReply h op status data) t with pending := s.pending }

/-- The command completes, leaving the node as `t` but for the queue of waiting commands, which stays. -/
def Gives (c : Instr) (s t : State) : Prop := exec c s = .next { t with pending := s.pending }

end Sys2Proof.Machine

namespace Sys2Proof
open Sys2Proof.Machine

/-- The commands that act on a node whose core is not released: the inputs of the supervisors, the feeds, the sensors and
`MRAM` (R28, R462, R478). -/
def Instr.actsHeld : Instr → Bool
  | .internalRelease _ | .resetNPulse _ | .railSupervisorFault _ | .wakeIndication _ _ _ | .feedStateChange _ _ _
  | .feedQualified _ | .rideThroughExpiry | .thermalSample _ | .thermalRestart | .uncorrectableError _ | .correctedError _
  | .journalRecordCommitted => true
  | _ => false

end Sys2Proof
end

