-- ==== Sys2Proof/Certificates/Slice0/Obligations.lean ====
section
/-!
DEFINITION. The statements for the provers.  Each is `def Obligations.<Name> : Prop`; what they share stands first.
-/
namespace Sys2Proof.Claims
open Sys2Proof Sys2Proof.Machine

/-- A long command is listed for the path it came by, and the counts of pending commands follow (R46). -/
def listed (h : CmdHdr) (op arg arg2 : Nat) (s : State) : State :=
  State.syncPending { s with cmd := { s.cmd with
      longs := s.cmd.longs ++
        [{ id := s.cmd.nextLong, via := h.via, seq := h.seq, opcode := op,
           originPort := if h.via.port = .train then h.via.rport else cmdPortNum h.via.port,
           arg := arg, arg2 := arg2, abandoned := false }],
      nextLong := s.cmd.nextLong + 1 } }

/-- The path of a command has fewer than 16 long commands pending (R46). -/
def Room (h : CmdHdr) (s : State) : Prop := s.longCount h.via.port < 16

/-- One bit of a message passes a CRC-32C register whose polynomial 0x1EDC_6F41 is processed reflected (R36). -/
def crcBit (r : Nat) (x : Bool) : Nat := if r.testBit 0 != x then r / 2 ^^^ 0x82F63B78 else r / 2

/-- The bits of a message as a reflected CRC takes them: byte by byte, the least significant first. -/
def messageBits (b : List Byte) : List Bool := b.flatMap (fun x => (List.range 8).map (fun i => x.toNat.testBit i))

end Sys2Proof.Claims

open Sys2Proof Sys2Proof.Machine Sys2Proof.Claims

/-- The identity and state reads of Table 02-6 and `ECHO`: served, each answers `OK` with the data the table lists, and changes
nothing; a unit that Table 01-10 does not have is answered `RANGE` at parameter byte 0. -/
def Obligations.IdentityAndStateReadsAnswer : Prop :=
  (∀ (h : CmdHdr) (s : State), Serves 0x0101 h s →
    Answers (.idRead h) 0x0101 h s stOk
      (toBE 8 (s.rd GLB_ID.f) ++ toBE 8 (s.rd GLB_UID.f) ++ toBE 8 (s.rd HST_VEH_ID.f)) s.fresh) ∧
  (∀ (h : CmdHdr) (s : State), Serves 0x0102 h s →
    Answers (.infoRead h) 0x0102 h s stOk
      (toBE 1 (s.rd GLB_RUN_SLOT.f) ++ toBE 4 (s.rd GLB_IMAGE_VERSION.f) ++
        (toBE 1 (s.rd GLB_STRAP_BOOT.f) ++ toBE 1 (s.rd GLB_STRAP_COLD.f) ++ toBE 1 (s.rd GLB_STRAP_PAIR.f) ++
          toBE 1 (s.rd GLB_STRAP_MAINT.f) ++ toBE 1 (s.rd GLB_STRAP_JTAG.f)) ++
        toBE 2 (s.rd HST_NODE_NUM.f) ++ toBE 2 (s.rd HST_EPOCH.f) ++ toBE 8 (compact s.clk.up)) s.fresh) ∧
  (∀ (h : CmdHdr) (unit : Nat) (s : State), Serves 0x0103 h s → unitOk unit = true →
    Answers (.unitStateRead h unit) 0x0103 h s stOk
      (toBE 1 (s.cfgOf unit) ++ toBE 1 (s.operOf unit) ++ toBE 1 (s.mismatchByte unit) ++ zeros 1 ++
        toBE 8 (s.operTime unit)) s.fresh) ∧
  (∀ (h : CmdHdr) (unit : Nat) (s : State), Serves 0x0103 h s → unitOk unit = false →
    Answers (.unitStateRead h unit) 0x0103 h s stRange (toBE 4 0) s.fresh) ∧
  (∀ (h : CmdHdr) (s : State), Serves 0x0104 h s →
    Answers (.mismatchList h) 0x0104 h s stOk
      (toBE 2 s.sys.mismatch.length ++
        s.sys.mismatch.flatMap (fun u => toBE 2 u ++ toBE 1 (s.cfgOf u) ++ toBE 1 (s.operOf u))) s.fresh) ∧
  (∀ (h : CmdHdr) (data : List Byte) (s : State), Serves 0x0105 h s →
    Answers (.echo h data) 0x0105 h s stOk data s.fresh)

/-- Staging and slots: `IMAGE_STAGE_BEGIN` opens empty staging of 28 bytes to 48 MiB and discards what was staged,
`IMAGE_STAGE_DATA` adds bytes within its length and refuses bytes beyond it, `IMAGE_COMMIT` is accepted as a long command and
takes the validity of the slot it will write, `IMAGE_SELECT` names slot and fallback and starts the record of the choice,
`IMAGE_INFO` reads a slot's header. -/
def Obligations.ImageCommandsStageAndSelect : Prop :=
  (∀ (h : CmdHdr) (slot length : Nat) (s : State), Serves 0x0201 h s → slot ≤ 1 → 28 ≤ length → length ≤ 48 * 2 ^ 20 →
    s.runs slot = false → s.committing slot = false →
    Answers (.imageStageBegin h slot length) 0x0201 h s stOk []
      { s.fresh with sto := { s.sto with staging := some { slot := slot, length := length, writes := [], bad := false } } }) ∧
  (∀ (h : CmdHdr) (slot length : Nat) (s : State), Serves 0x0201 h s → slot ≤ 1 → (length < 28 ∨ 48 * 2 ^ 20 < length) →
    Answers (.imageStageBegin h slot length) 0x0201 h s stRange (toBE 4 1) s.fresh) ∧
  (∀ (h : CmdHdr) (offset : Nat) (data : List Byte) (g : Staging) (s : State), Serves 0x0202 h s →
    s.sto.staging = some g → offset + data.length ≤ g.length →
    Answers (.imageStageData h offset data) 0x0202 h s stOk []
      { s.fresh with sto := { s.sto with staging := some { g with writes := g.writes ++ [(offset, data)] } } }) ∧
  (∀ (h : CmdHdr) (offset : Nat) (data : List Byte) (s : State), Serves 0x0202 h s →
    (∀ g, s.sto.staging = some g → g.length < offset + data.length) →
    Answers (.imageStageData h offset data) 0x0202 h s stRange (toBE 4 0) s.fresh) ∧
  (∀ (h : CmdHdr) (slot : Nat) (s : State), Serves 0x0203 h s → Room h s → slot ≤ 1 → s.runs slot = false →
    s.committing slot = false → s.pair.noMram = false →
    Answers (.imageCommit h slot) 0x0203 h s stPending []
      (let t := listed h 0x0203 slot (b2n (s.slotValid slot)) s.fresh
       if t.stagedGood then setValid slot false t else t)) ∧
  (∀ (h : CmdHdr) (slot : Nat) (s : State), Serves 0x0203 h s → slot ≤ 1 →
    (s.runs slot = true ∨ s.committing slot = true ∨ s.pair.noMram = true) →
    Answers (.imageCommit h slot) 0x0203 h s stConflict (toBE 2 0) s.fresh) ∧
  (∀ (h : CmdHdr) (slot fallback : Nat) (s : State), Serves 0x0204 h s → slot ≤ 1 → fallback ≤ 1 →
    s.committing slot = false → s.slotValid slot = true → s.pair.noMram = false →
    Answers (.imageSelect h slot fallback) 0x0204 h s stOk []
      (startRecord 1 (toBE 1 slot ++ toBE 1 fallback)
        ((s.fresh.wr GLB_SEL_SLOT.f slot).wr GLB_SEL_FALLBACK.f fallback))) ∧
  (∀ (h : CmdHdr) (slot : Nat) (s : State), Serves 0x0205 h s → slot ≤ 1 →
    Answers (.imageInfo h slot) 0x0205 h s stOk
      (toBE 1 (b2n (s.slotValid slot)) ++ toBE 4 (imgVersion (s.slotBytes slot)) ++ toBE 4 (imgLength (s.slotBytes slot)) ++
        toBE 2 (imgSections (s.slotBytes slot))) s.fresh)

/-- The end of a commit: the pending `IMAGE_COMMIT` ends with `OK` and the version when the staged image passes every check, its
signature holds and the read-back compares equal; the slot then holds the image and is valid. A failed check or signature ends
it with `AUTH_FAIL` and the slot's validity from before; a failed compare ends it with `AUTH_FAIL` and leaves the slot empty and
invalid; while no `MRAM` write may start, a commit that passes waits. -/
def Obligations.ImageCommitEndsByItsChecks : Prop :=
  ∀ (l : Long) (g : Staging) (s : State), s.sys.power = 3 → (s.sys.stage = 3 ∨ s.sys.stage = 5) →
    s.cmd.longs.find? (fun x => x.opcode == 0x0203) = some l → s.sto.staging = some g →
    (s.stagedGood = true → s.pair.noMram = false →
      Gives (.imageCommitComplete true true) s
        (cmdDone l stOk (toBE 4 (imgVersion (stagedBytes g)))
          (setValid l.arg true (putSlot l.arg (stagedBytes g) s.fresh)))) ∧
    (s.stagedGood = true → s.pair.noMram = false →
      Gives (.imageCommitComplete true false) s (cmdDone l stAuthFail [] (setValid l.arg false (putSlot l.arg [] s.fresh)))) ∧
    (∀ (compared : Bool), s.stagedGood = true → s.pair.noMram = true →
      Gives (.imageCommitComplete true compared) s s.fresh) ∧
    (∀ (signed compared : Bool), (s.stagedGood = false ∨ signed = false) →
      Gives (.imageCommitComplete signed compared) s (cmdDone l stAuthFail [] (setValid l.arg (l.arg2 != 0) s.fresh)))

/-- Parameter access: a read within the space answers the words in ascending order, one beyond it `RANGE`; a write that a check
refuses changes nothing at all and answers that check's status; a write that passes writes every word with a nonzero mask in
ascending order; a plain register write that passes its checks does the same for one word, and one that fails changes nothing.
-/
def Obligations.ParameterAccessIsAllOrNothing : Prop :=
  (∀ (h : CmdHdr) (offset count : Nat) (s : State), Serves 0x0207 h s → spanOk offset count 8188 = true →
    Answers (.paramRead h offset count) 0x0207 h s stOk (readWords count offset s.fresh).1 (readWords count offset s.fresh).2) ∧
  (∀ (h : CmdHdr) (offset count : Nat) (s : State), Serves 0x0207 h s → spanOk offset count 8188 = false →
    Answers (.paramRead h offset count) 0x0207 h s stRange (toBE 4 (badOffset offset count 8188)) s.fresh) ∧
  (∀ (h : CmdHdr) (offset : Nat) (words : List (Nat × Nat)) (st : Nat) (d : List Byte) (s : State), Serves 0x0208 h s →
    s.writeFault (classOf h.via.port) offset words.length (maskedWords offset words) = some (st, d) →
    Answers (.paramWrite h offset words) 0x0208 h s st d s.fresh) ∧
  (∀ (h : CmdHdr) (offset : Nat) (words : List (Nat × Nat)) (s : State), Serves 0x0208 h s →
    s.writeFault (classOf h.via.port) offset words.length (maskedWords offset words) = none →
    Answers (.paramWrite h offset words) 0x0208 h s stOk []
      (settleDomains ((maskedWords offset words).foldl (fun t w => writeNoted (classOf h.via.port) w t) s.fresh))) ∧
  (∀ (offset value mask : Nat) (s : State), s.Up → offset % 8 = 0 → offset < spaceEnd → value < 2 ^ 64 → mask < 2 ^ 64 →
    mask ≠ 0 → s.rangeBad offset value mask = false → s.stateBad offset value mask = none →
    Gives (.registerWrite offset value mask) s (settleDomains (writeNoted .host (offset, value, mask) s.fresh))) ∧
  (∀ (offset value mask : Nat) (s : State), s.Up → value < 2 ^ 64 → mask < 2 ^ 64 →
    (offset % 8 ≠ 0 ∨ spaceEnd ≤ offset ∨ mask = 0 ∨ s.rangeBad offset value mask = true ∨
      s.stateBad offset value mask ≠ none) →
    Gives (.registerWrite offset value mask) s s.fresh)

/-- `CONFIG_APPLY` is accepted for a cycle ahead and arms the named sections; `NODE_RESET` answers first and then restarts the
firmware (kind 0 in stage 3) or resets the node (kind 1); another kind is answered `RANGE`. -/
def Obligations.ApplyAndResetAreArmedAfterTheAnswer : Prop :=
  (∀ (h : CmdHdr) (mask cycle : Nat) (s : State), Serves 0x0206 h s → Room h s → mask < 2 ^ 17 → bit mask 0 = false →
    cycleAhead cycle s.cycle = true → s.bankArmed mask = false → (bit mask 6 && s.on SIG_PROFILE_ARMED.f) = false →
    Answers (.configApply h mask cycle) 0x0206 h s stPending []
      (armApply { id := s.cmd.nextLong, cycle := cycle, mask := mask, other := false } (listed h 0x0206 cycle mask s.fresh))) ∧
  (∀ (h : CmdHdr) (s : State), Serves 0x0209 h s → s.sys.stage = 3 →
    Gives (.nodeReset h 0) s
      (firmwareRestart ((deliverReply h.via (mkReply h 0x0209 stOk []) s.fresh).emit (.nodeReset 0)))) ∧
  (∀ (h : CmdHdr) (s : State), Serves 0x0209 h s →
    Gives (.nodeReset h 1) s
      (coreReset 2 2 ((deliverReply h.via (mkReply h 0x0209 stOk []) s.fresh).emit (.nodeReset 1)))) ∧
  (∀ (h : CmdHdr) (kind : Nat) (s : State), Serves 0x0209 h s → 1 < kind →
    Answers (.nodeReset h kind) 0x0209 h s stRange (toBE 4 0) s.fresh)

/-- Field inputs: a bank measurement that leaves the bank's state writes the voltage alone, and one that takes an OK bank to LOW
counts it, settles the bank's channels and raises `OUTPUT_FAULT` of the bank; a sample that counts up without reaching the
filter's length adds one to the filter and leaves the state, and one that reaches it turns the input on, counts the transition
and presents the image; a conversion of a loop output is taken as it is and one of a loop input goes into the average of the
last 2^n; a wire break below 2,500 sets its bit and raises its event. -/
def Obligations.FieldInputsFilterAndMeasure : Prop :=
  (∀ (b mv : Nat) (s : State), s.Running → b < 8 → s.dieUp (b / 4) = true →
    nextBank (s.fld.banks.getD b 2) mv = s.fld.banks.getD b 2 →
    Gives (.bankSupplyMeasure b mv) s
      (State.wr { s.fresh with fld := { s.fld with banks := putAt b (s.fld.banks.getD b 2) s.fld.banks } }
        (FLD_Bb_VFB_MV.f b) mv)) ∧
  (∀ (b mv : Nat) (s : State), s.Running → b < 8 → s.dieUp (b / 4) = true → s.fld.banks.getD b 2 = 0 →
    nextBank 0 mv = 1 →
    Gives (.bankSupplyMeasure b mv) s
      (let s1 := State.wr { s.fresh with fld := { s.fld with banks := putAt b 1 s.fld.banks } } (FLD_Bb_VFB_MV.f b) mv
       outputFault (unitId 8 b) (bankCause 1) mv false (syncBank b
         (syncChans ((bankChans b).filter (fun c => s.fmode c != 0)) ((s1.wr (FLD_Bb_STATE.f b) 1).inc (FLD_Bb_LOWS.f b)))))) ∧
  (∀ (c level : Nat) (current : Int) (s : State), s.Running → c < 256 → s.fmode c = 1 → (s.chan c).changing = false →
    s.bankAsleep c = false → s.dieUp (dieOf c) = true → sampleClass 1 level current = 1 →
    s.rd (FC_FILT_CNT.f c) + 1 < s.rd (FC_FILT_N.f c) →
    Gives (.inputSample c level current) s
      ((s.fresh.wr (FC_FILT_CNT.f c) (s.rd (FC_FILT_CNT.f c) + 1)).wrB (FC_IN_STATE.f c) (s.on (FC_IN_STATE.f c)))) ∧
  (∀ (c level : Nat) (current : Int) (s : State), s.Running → c < 256 → s.fmode c = 1 → (s.chan c).changing = false →
    s.bankAsleep c = false → s.dieUp (dieOf c) = true → sampleClass 1 level current = 1 → s.on (FC_IN_STATE.f c) = false →
    s.rd (FC_FILT_CNT.f c) + 1 = s.rd (FC_FILT_N.f c) →
    Gives (.inputSample c level current) s
      (let t := ((s.fresh.wr (FC_FILT_CNT.f c) (s.rd (FC_FILT_N.f c))).wrB (FC_IN_STATE.f c) true).inc (FC_TRANSITIONS.f c)
       presentDigital t)) ∧
  (∀ (c : Nat) (code : Int) (s : State), s.Running → c < 256 → s.fmode c = 5 → (s.chan c).changing = false →
    s.dieUp (dieOf c) = true →
    Gives (.loopConversion c code) s (s.fresh.wr (FC_LOOP_MEAS.f c) (clampInt 0 65535 code).toNat)) ∧
  (∀ (c : Nat) (code : Int) (s : State), s.Running → c < 256 → s.fmode c = 4 → (s.chan c).changing = false →
    s.dieUp (dieOf c) = true → s.bankAsleep c = false →
    Gives (.loopConversion c code) s
      (let conv := ((clampInt 0 65535 code).toNat :: (s.chan c).conv).take (2 ^ s.rd (FC_LAVG_LOG2.f c))
       (s.fresh.setChan c { s.chan c with conv := conv }).wr (FC_LOOP_MEAS.f c)
         (roundNearest (conv.foldl (· + ·) 0 : Nat) conv.length).toNat)) ∧
  (∀ (c : Nat) (s : State), s.Running → c < 256 → s.dieUp (dieOf c) = true → s.fmode c = 4 → s.on (FC_WBREAK.f c) = false →
    s.rd (FC_LOOP_MEAS.f c) < 2500 →
    Gives (.loopWireBreak c true) s
      ((syncChan c (s.fresh.wrB (FC_WBREAK.f c) true)).raise 0x0703 (unitId 7 c)
        (toBE 1 4 ++ toBE 2 (s.rd (FC_LOOP_MEAS.f c))) false))

/-- Field outputs: an overcurrent or overtemperature of an unlatched digital output latches it, and `OUTPUT_FAULT` is raised
while its die's link is up; an open load of a driven output counts and is raised, and its end is raised as cleared; a
demagnetisation writes its mean power, and one above 150 mJ counts and raises a fault; compliance is lost below the command by
more than 600 codes and returns within 300, each with its event; an output whose watchdog or hold runs out is put out of
operation, counted, and raises `WATCHDOG_EXPIRED`. A current the spec does not state is a free value. -/
def Obligations.FieldOutputsLatchAndExpire : Prop :=
  (∀ (c : Nat) (s : State), s.Running → c < 256 → s.fmode c = 3 → (s.chan c).level ≠ 0 → s.bankState c ≠ 2 →
    (s.chan c).latch = 0 → s.dieUp (dieOf c) = true →
    Gives (.overcurrentLatch c) s
      (let (ma, s2) := takeFree 32 (latchFault c 1 s.fresh)
       outputFault (unitId 7 c) 0 ma false s2)) ∧
  (∀ (c : Nat) (s : State), s.Running → c < 256 → s.fmode c = 3 → (s.chan c).latch = 0 → s.dieUp (dieOf c) = true →
    Gives (.overtemperatureTrip c) s (outputFault (unitId 7 c) 1 0 false (latchFault c 2 s.fresh))) ∧
  (∀ (c : Nat) (s : State), s.Running → c < 256 → (s.dieCfg c).mode = 3 → (s.chan c).latch = 0 → s.dieUp (dieOf c) = false →
    Gives (.overtemperatureTrip c) s (latchFault c 2 s.fresh)) ∧
  (∀ (c : Nat) (s : State), s.Running → c < 256 → s.dieUp (dieOf c) = true → s.on (FC_OPENLOAD.f c) = true →
    Gives (.openLoad c false) s
      (let (ma, s1) := takeFree 32 (s.fresh.wrB (FC_OPENLOAD.f c) false)
       outputFault (unitId 7 c) 2 ma true (syncChan c s1))) ∧
  (∀ (c : Nat) (s : State), s.Running → c < 256 → s.dieUp (dieOf c) = true → s.on (FC_OPENLOAD.f c) = false →
    s.on (FC_OL_EN.f c) = true → s.fmode c = 3 → (s.chan c).level ≠ 0 → s.paired c = false → s.bankState c ≠ 2 →
    Gives (.openLoad c true) s
      (let (ma, s1) := takeFree 32 (s.fresh.wrB (FC_OPENLOAD.f c) true)
       outputFault (unitId 7 c) 2 ma false (syncChan c (s1.inc (FC_FAULT_CNT.f c))))) ∧
  (∀ (c energy mw : Nat) (s : State), s.Running → c < 256 → s.dieUp (dieOf c) = true → energy ≤ 150 → mw ≤ 1500 →
    Gives (.demagnetisationEnd c energy mw) s (s.fresh.wr (FLD_Bb_DEMAG_MW.f (c / 32)) mw)) ∧
  (∀ (c energy mw : Nat) (s : State), s.Running → c < 256 → s.dieUp (dieOf c) = true → 150 < energy → mw ≤ 1500 →
    Gives (.demagnetisationEnd c energy mw) s
      (outputFault (unitId 7 c) 4 energy false ((s.fresh.wr (FLD_Bb_DEMAG_MW.f (c / 32)) mw).inc (FC_FAULT_CNT.f c)))) ∧
  (∀ (c : Nat) (s : State), s.Running → c < 256 → s.dieUp (dieOf c) = true → s.fmode c = 5 →
    s.on (FC_COMPLIANCE.f c) = false → s.rd (FC_LOOP_MEAS.f c) + 600 < s.rd (FC_LOOP_CMD.f c) → s.bankState c ≠ 2 →
    s.on (FC_OPEN_ON_FAULT.f c) = true →
    Gives (.compliance c true) s
      (let s0 := s.fresh.setChan c
         { s.chan c with openLoop := s.rd (FC_LOOP_MEAS.f c) < 250 && 2500 ≤ s.rd (FC_LOOP_CMD.f c) }
       (latchFault c 3 (s0.wr (FC_COMPLIANCE.f c) 1)).raise 0x0702 (unitId 7 c) (s0.complianceData c))) ∧
  (∀ (c : Nat) (s : State), s.Running → c < 256 → s.dieUp (dieOf c) = true → s.fmode c = 5 →
    s.on (FC_COMPLIANCE.f c) = true → s.rd (FC_LOOP_CMD.f c) ≤ s.rd (FC_LOOP_MEAS.f c) + 300 → (s.chan c).latch ≠ 3 →
    Gives (.compliance c false) s
      ((syncChan c (s.fresh.wr (FC_COMPLIANCE.f c) 0)).raise 0x0702 (unitId 7 c) (s.complianceData c) true)) ∧
  (∀ (c : Nat) (s : State), s.Running → c < 256 → outMode (s.fmode c) = true → (s.chan c).running = true →
    s.dieUp (dieOf c) = true →
    Gives (.watchdogExpired c) s
      (State.raise ((syncChan c (s.fresh.setChan c
          { s.chan c with running := false, dead := 1, kept := (s.chan c).kept || s.on (FC_SAFE_LATCH.f c) })).inc
        (FC_WDT_EXPIRIES.f c)) 0x0701 (unitId 7 c) (s.wdData c 0))) ∧
  (∀ (c : Nat) (s : State), s.Running → c < 256 → (s.chan c).held = true → s.dieUp (dieOf c) = true →
    Gives (.holdLimit c) s
      (State.raise ((syncChan c (s.fresh.setChan c { s.chan c with held := false, running := false, dead := 2 })).inc
        (FC_WDT_EXPIRIES.f c)) 0x0701 (unitId 7 c) (s.wdData c 1)))

/-- The redundant pair: a late mirror makes the standby's followed digital outputs stale; a health trip settles the pair's
health again; a grant is written and, on a pair, settles the role; a Guidon goes out on the Halyard link, with the mirror image
when the node is active and healthy, and on the backbone lanes under the next sequence, abandoned where no gap comes in time; a
header is judged on arrival, a good mirror of the partner is taken, and a bad one counts; a missed Guidon counts on its own
path; the Halyard link coming up names the partner. -/
def Obligations.PairPathsAndHealth : Prop :=
  (∀ (s : State), s.Running → s.isPair = true → s.pairActive = false → s.on RED_DECLARED.f = false →
    Gives .mirrorStale s
      ((s.pairedOutputs.filter (fun c => s.fmode c == 3 && s.follows c)).foldl
        (fun t c => syncChan c (t.setChan c { t.chan c with stale := true })) s.fresh)) ∧
  (∀ (s : State), s.Running →
    Gives (.healthTrip 0) s (rehealth { s.fresh with pair := { s.pair with shutdown := true } }) ∧
    Gives (.healthTrip 2) s (rehealth { s.fresh with pair := { s.pair with fwLate := true } })) ∧
  (∀ (level : Nat) (s : State), s.Running → s.isPair = true →
    Gives (.arbGntChange level) s (syncRole (s.fresh.wr RED_ARB_GNT.f level))) ∧
  (∀ (level : Nat) (s : State), s.Running → s.isPair = false →
    Gives (.arbGntChange level) s (s.fresh.wr RED_ARB_GNT.f level)) ∧
  (∀ (s : State), s.Running → s.isPair = true →
    Gives .guidonSend s
      (let s1 : State := { s.fresh with pair := { s.pair with seq := (s.pair.seq + 1) % 256 } }
       let mirror := s1.pairActive && s1.on RED_HEALTHY.f
       s1.guidonLanes.foldl (fun t m => laneGuidon (s1.guidonHeader mirror) m t)
         (s1.emit (.halyard (s1.guidonHeader mirror) (if mirror then s1.mirrorImage else []))))) ∧
  (∀ (hdr mirror : List Byte) (s : State), s.Running → s.isPair = true → hdr.length ≠ 8 →
    Gives (.halyardFrameReceive hdr mirror) s (guidonHeaderIn true hdr s.fresh).1) ∧
  (∀ (hdr mirror : List Byte) (s : State), s.Running → s.isPair = true → hdr.length = 8 →
    byteAt hdr 7 = crc8 (hdr.take 7) → bit (byteAt hdr 1) 3 = true → mirrorOf mirror = none →
    Gives (.halyardFrameReceive hdr mirror) s ((guidonHeaderIn true hdr s.fresh).1.inc RED_HAL_CRC.f)) ∧
  (∀ (hdr mirror bitmap : List Byte) (codes : List Nat) (s : State), s.Running → s.isPair = true → hdr.length = 8 →
    byteAt hdr 7 = crc8 (hdr.take 7) → bit (byteAt hdr 1) 3 = true → mirrorOf mirror = some (bitmap, codes) →
    (guidonHeaderIn true hdr s.fresh).1.pair.stranger = false →
    Gives (.halyardFrameReceive hdr mirror) s (takeMirror bitmap codes (guidonHeaderIn true hdr s.fresh).1)) ∧
  (∀ (mac : Nat) (hdr : List Byte) (s : State), s.Running → s.isPair = true → s.facingEnds.contains (mac / 4) = true →
    s.on RED_BB_PATH.f = true → Gives (.backboneGuidonReceive mac hdr) s (guidonHeaderIn false hdr s.fresh).1) ∧
  (∀ (s : State), s.Running → s.isPair = true →
    Gives (.guidonMiss 0) s
      (reportPaths (State.incBy { s.fresh with pair := { s.pair with hal := (missPath s.pair.hal).1 } } RED_HAL_MISS.f
        (missPath s.pair.hal).2)) ∧
    Gives (.guidonMiss 1) s
      (reportPaths (State.incBy { s.fresh with pair := { s.pair with bb := (missPath s.pair.bb).1 } } RED_BB_MISS.f
        (missPath s.pair.bb).2))) ∧
  (∀ (uid : Nat) (s : State), s.Running →
    Gives (.halyardUp true uid) s
      (checkPartner (((s.fresh.wrB RED_HAL_UP.f true).setOper 0x087F 1).wr RED_PARTNER_UID.f uid)) ∧
    Gives (.halyardUp false uid) s ((s.fresh.wrB RED_HAL_UP.f false).setOper 0x087F 2))

/-- Feeds and supply: a lost connected feed is switched over when the other is valid, else the node rides through with
`HOLDUP_WARN`; a qualified feed becomes valid and starts a node that is off; at the end of a ride-through the rails go off; a
rail fault asserts `RAIL_FAIL` and resets the dies with cause 4; a `RESET_N` pulse of 10 µs or more resets the core with cause
1, one under 1 µs does nothing, and between them a free bit decides. -/
def Obligations.FeedsSwitchRideAndFail : Prop :=
  (∀ (mv : Nat) (s : State), s.feed 1 = 2 → s.pair.arb = 1 → s.feed 2 = 2 →
    Gives (.feedStateChange 1 0 mv) s
      (connectFeed 2 0 (countPwr 2 (State.setFeed { s.fresh with pair := { s.pair with mvA := mv } } 1 0)))) ∧
  (∀ (mv : Nat) (s : State), s.feed 1 = 2 → s.pair.arb = 1 → s.feed 2 ≠ 2 →
    Gives (.feedStateChange 1 0 mv) s
      (let t := countPwr 2 (State.setFeed { s.fresh with pair := { s.pair with mvA := mv } } 1 0)
       syncPwr { t with pair := { t.pair with leftA := true, arb := 3, warn := true, noMram := true } })) ∧
  (∀ (f : Nat) (s : State), (f = 1 ∨ f = 2) → s.feed f = 1 → s.pair.arb = 0 → s.lad.shut = false →
    Gives (.feedQualified f) s (powerUp (s.fresh.setFeed f 2).startFeed (s.fresh.setFeed f 2))) ∧
  (∀ (s : State), s.pair.arb = 3 → Gives .rideThroughExpiry s (railsOff s.fresh)) ∧
  (∀ (die : Nat) (s : State), 2 ≤ s.sys.power →
    Gives (.railSupervisorFault die) s (coreReset 2 4 (s.fresh.emit (.pin .railFail 1)))) ∧
  (∀ (ns : Nat) (s : State), s.sys.power ≠ 0 → 10000 ≤ ns → Gives (.resetNPulse ns) s (coreReset 2 1 s.fresh)) ∧
  (∀ (ns : Nat) (s : State), s.sys.power ≠ 0 → 1000 ≤ ns → ns < 10000 →
    Gives (.resetNPulse ns) s
      (let (b, s1) := takeFree 1 s.fresh
       if b = 1 then coreReset 2 1 s1 else s1)) ∧
  (∀ (ns : Nat) (s : State), ns < 1000 → Gives (.resetNPulse ns) s s.fresh)

/-- Release, boot and wake: the internal release with boot strap 3 latches the board's levels, brings the core up and enters
recovery; a good image's check brings the node to stage 3 on its slot; a bad one of the first slot tries the other, and of the
last enters recovery; a wake of an admitted source in `Bog` with no words to resume writes its wake words and starts the node;
the thermal restart is due once every sensor is below 110 °C. -/
def Obligations.ReleaseBootAndWakeStartTheNode : Prop :=
  (∀ (b : BoardLevels) (s : State), s.sys.power = 2 → b.boot % 4 = 3 →
    Gives (.internalRelease b) s
      (let s1 : State := { s.fresh with sys := { s.sys with power := 3, stage := 2, started := false }, clk := State.reset.clk }
       let s2 := coreUp (latchBoard b s1)
       let s3 := ((s2.wr GLB_RESET_CAUSE.f s.sys.resetCause).wr GLB_SEL_SLOT.f s2.bootRecord.1).wrB GLB_SEL_FALLBACK.f
         s2.bootRecord.2
       let s4 := (s3.wrB GLB_SLOTA_VALID.f s3.sto.validA).wrB GLB_SLOTB_VALID.f s3.sto.validB
       enterRecovery s4)) ∧
  (∀ (slot k : Nat) (fallback : Bool) (s : State), s.sys.power = 3 → s.sys.started = false →
    s.sto.checking = some (slot, fallback) → slotReason s.fresh (s.slotBytes slot) k = none →
    Gives (.imageCheckDone slot k) s
      (let img := s.slotBytes slot
       enterRun slot (!s.sto.imageFaults.isEmpty) (applySections true (imgMask img) (imgSet img (imgMask img)) s.fresh).1)) ∧
  (∀ (slot k r : Nat) (s : State), s.sys.power = 3 → s.sys.started = false →
    s.sto.checking = some (slot, true) → slotReason s.fresh (s.slotBytes slot) k = some r →
    Gives (.imageCheckDone slot k) s
      { noteInvalid slot r s.fresh with sto :=
          { (noteInvalid slot r s.fresh).sto with checking := some (1 - slot, false) } }) ∧
  (∀ (slot k r : Nat) (s : State), s.sys.power = 3 → s.sys.started = false →
    s.sto.checking = some (slot, false) → slotReason s.fresh (s.slotBytes slot) k = some r →
    Gives (.imageCheckDone slot k) s (enterRecovery (noteInvalid slot r s.fresh))) ∧
  (∀ (source pes seconds : Nat) (s : State), s.sys.power = 1 → source < 5 → bit s.lad.wakeMask source = true →
    s.sto.journal.filter (fun r => r.typ == 2) = [] →
    Gives (.wakeIndication source pes seconds) s
      (coreReset 2 0 ((((s.fresh.wr LAD_WAKE_CAUSE.f (source + 1)).wr LAD_WAKE_PE.f 0).wr LAD_LAST_BOG_S.f seconds).emit
        (.pin .wakeSignal 1)))) ∧
  (∀ (s : State), s.lad.shut = true → s.lad.tj.all (fun t => t < 1100) = true → s.pair.stA ≠ 2 → s.pair.stB ≠ 2 →
    Gives .thermalRestart s
      ((State.wr { s.fresh with lad := { s.lad with shut := false, restartDue := true } } LAD_WAKE_CAUSE.f 7).wr
        LAD_THERM_STATE.f 0))

/-- The power ladder and temperature: a domain that no next demand holds descends one rung, down to its deepest, and one that a
demand holds stays; a domain ascends to rung 0 when its rung leaves no room before the next demand, and a wake takes it there at
once and is counted; a sample enters WARN at 115 °C, leaves it below 113 °C, and at 135 °C shuts the node down; throttling,
shedding and the eco loop move one step at a time within their limits. -/
def Obligations.LadderAndThermalStepByStep : Prop :=
  (∀ (d : Nat) (s : State), s.Running → d ≤ 183 → s.rd (LAD_Dd_RUNG.f d) + 1 ≤ s.deepest d →
    s.fresh.demandClear d (s.rd (LAD_Dd_RUNG.f d) + 1) = true →
    Gives (.domainDescent d) s (moveDomain d (s.rd (LAD_Dd_RUNG.f d) + 1) s.fresh)) ∧
  (∀ (d : Nat) (s : State), s.Running → d ≤ 183 → s.rd (LAD_Dd_RUNG.f d) + 1 ≤ s.deepest d →
    s.fresh.demandClear d (s.rd (LAD_Dd_RUNG.f d) + 1) = false → Gives (.domainDescent d) s s.fresh) ∧
  (∀ (d : Nat) (s : State), s.Running → d ≤ 183 → s.rd (LAD_Dd_RUNG.f d) ≠ 0 →
    s.fresh.demandClear d (s.rd (LAD_Dd_RUNG.f d)) = false →
    Gives (.domainAscent d) s (moveDomain d 0 s.fresh)) ∧
  (∀ (d : Nat) (s : State), s.Running → d ≤ 183 → s.rd (LAD_Dd_RUNG.f d) ≠ 0 →
    Gives (.domainWake d) s (moveDomain d 0 (s.fresh.inc (LAD_Dd_WAKES.f d)))) ∧
  (∀ (tj : List Int) (s : State), s.sys.power = 3 → (setTj tj s.fresh).tjMax < 1200 → 1150 ≤ (setTj tj s.fresh).tjMax →
    (setTj tj s.fresh).rd LAD_THERM_STATE.f = 0 →
    Gives (.thermalSample tj) s (toThermal 1 ((setTj tj s.fresh).inc LAD_THERM_WARN.f))) ∧
  (∀ (tj : List Int) (s : State), s.sys.power = 3 → (setTj tj s.fresh).tjMax < 1130 →
    (setTj tj s.fresh).rd LAD_THERM_STATE.f = 1 →
    Gives (.thermalSample tj) s (toThermal 0 (setTj tj s.fresh))) ∧
  (∀ (tj : List Int) (s : State), 2 ≤ (setTj tj s.fresh).sys.power → 1350 ≤ (setTj tj s.fresh).tjMax →
    Gives (.thermalSample tj) s (thermalShutdown (setTj tj s.fresh))) ∧
  (∀ (s : State), s.Running → s.rd LAD_THERM_STATE.f = 2 → 1200 ≤ s.tjMax → s.rd LAD_FSTEP.f < s.rd LAD_FSCHED.f →
    Gives .throttleStepTimer s (s.fresh.wr LAD_FSTEP.f (s.rd LAD_FSTEP.f + 1))) ∧
  (∀ (s : State), s.Running → s.rd LAD_THERM_STATE.f = 2 → s.tjMax < 1170 → s.rd LAD_SHED_STAGE.f = 0 →
    0 < s.rd LAD_FSTEP.f →
    Gives .throttleStepTimer s (s.fresh.wr LAD_FSTEP.f (s.rd LAD_FSTEP.f - 1))) ∧
  (∀ (s : State), s.Running → s.rd LAD_THERM_STATE.f = 2 → 1200 ≤ s.tjMax → s.rd LAD_FSCHED.f ≤ s.rd LAD_FSTEP.f →
    s.rd LAD_SHED_STAGE.f = 0 → Gives .shedStageTimer s (setShed 1 s.fresh)) ∧
  (∀ (s : State), s.Running → s.rd LAD_THERM_STATE.f = 2 → s.tjMax < 1170 → s.rd LAD_SHED_STAGE.f = 1 →
    Gives .shedStageTimer s (setShed 0 s.fresh)) ∧
  (∀ (s : State), s.Running → s.on LAD_ECO_EN.f = true → s.tjMax < 1200 → s.rd LAD_FSTEP.f < s.ecoFloor →
    Gives (.ecoStep true) s (s.fresh.wr LAD_FSTEP.f (s.rd LAD_FSTEP.f + 1))) ∧
  (∀ (s : State), s.Running → s.rd LAD_THERM_STATE.f ≠ 2 → 0 < s.rd LAD_FSTEP.f →
    Gives (.ecoStep false) s (s.fresh.wr LAD_FSTEP.f (s.rd LAD_FSTEP.f - 1)))

/-- Time commands: `TIME_READ` answers train time (its seconds modulo 2^48), quality and source; `TIME_STEP` is accepted by the
Lead four cycles ahead or more and armed, and refused `RANGE` one to three cycles ahead; `TIME_REINTEGRATE` serves a node in
REFUSING and is a `STATE_CONFLICT` in any other; `REF_PRIORITY` writes the list, or answers `RANGE` at its first bad unit;
`SERVO_LIMIT` writes the freeze and narrows the slew limit, and refuses a wider one. -/
def Obligations.TimeCommandsReadArmAndLimit : Prop :=
  (∀ (h : CmdHdr) (s : State), Serves 0x0301 h s →
    Answers (.timeRead h) 0x0301 h s stOk
      (toBE 8 (s.clk.now / 1000000000 % 2 ^ 48) ++ toBE 4 (s.clk.now % 1000000000) ++ toBE 1 s.timeQuality ++ toBE 1 s.timeSource)
      s.fresh) ∧
  (∀ (h : CmdHdr) (cycle step : Nat) (s : State), Serves 0x0302 h s → Room h s → 4 ≤ s.ahead cycle →
    toSigned 64 step ≠ 0 → 0 ≤ (s.clk.now : Int) + toSigned 64 step → s.isLead = true → s.on TIM_STEP_ARMED.f = false →
    Answers (.timeStep h cycle step) 0x0302 h s stPending []
      (((((listed h 0x0302 cycle 0 s.fresh).wr TIM_STEP_ARMED.f 1).wr TIM_STEP_CYCLE.f cycle).wrS TIM_STEP_NS.f
        (toSigned 64 step)))) ∧
  (∀ (h : CmdHdr) (cycle step : Nat) (s : State), Serves 0x0302 h s → 1 ≤ s.ahead cycle → s.ahead cycle ≤ 3 →
    Answers (.timeStep h cycle step) 0x0302 h s stRange (toBE 4 0) s.fresh) ∧
  (∀ (h : CmdHdr) (s : State), Serves 0x0303 h s → s.rd TCY_STATE.f = 8 →
    Answers (.timeReintegrate h) 0x0303 h s stOk [] { s.fresh with tim := { s.tim with reint := true } }) ∧
  (∀ (h : CmdHdr) (s : State), Serves 0x0303 h s → s.rd TCY_STATE.f ≠ 8 →
    Answers (.timeReintegrate h) 0x0303 h s stConflict (toBE 2 0) s.fresh) ∧
  (∀ (h : CmdHdr) (units : List Nat) (s : State), Serves 0x0304 h s → units ≠ [] → units.length ≤ 5 →
    badRefUnit units [] 0 = none →
    Answers (.refPriority h units) 0x0304 h s stOk []
      (settleDomains (holdover (s.fresh.wr TIM_REF_PRIO.f (prioWord 5 units))))) ∧
  (∀ (h : CmdHdr) (units : List Nat) (i : Nat) (s : State), Serves 0x0304 h s → units ≠ [] → units.length ≤ 5 →
    badRefUnit units [] 0 = some i →
    Answers (.refPriority h units) 0x0304 h s stRange (toBE 4 (1 + 2 * i)) s.fresh) ∧
  (∀ (h : CmdHdr) (freeze ppb : Nat) (s : State), Serves 0x0305 h s → freeze ≤ 1 → 1 ≤ ppb → ppb ≤ s.rd TIM_SLEW_PPB.f →
    Answers (.servoLimit h freeze ppb) 0x0305 h s stOk []
      (clampSlew ((s.fresh.wr TIM_FREEZE.f freeze).wr TIM_SLEW_PPB.f ppb))) ∧
  (∀ (h : CmdHdr) (freeze ppb : Nat) (s : State), Serves 0x0305 h s → freeze ≤ 1 → s.rd TIM_SLEW_PPB.f < ppb →
    Answers (.servoLimit h freeze ppb) 0x0305 h s stRange (toBE 4 1) s.fresh)

/-- Position, phase and disturbance commands: the reads answer what stands; `BALISE_CORRECT` on the odometry node adds the
correction to fused position and history, or counts and refuses one beyond the limit; `DISTURB_WINDOW` holds the window in the
lowest free entry and answers `BUSY` when there is none. -/
def Obligations.PositionAndWindowCommandsAnswer : Prop :=
  (∀ (h : CmdHdr) (s : State), Serves 0x0306 h s →
    Answers (.positionRead h) 0x0306 h s stOk
      (toBE 8 (ofSigned 64 (s.positionAt s.clk.now)) ++ toBE 8 (ofSigned 64 s.pos.pnVel) ++ toBE 1 s.pos.pnFlags ++ toBE 8 s.ts)
      s.fresh) ∧
  (∀ (h : CmdHdr) (position time : Nat) (d : Int) (s : State), Serves 0x0307 h s → time % 2 ^ 30 ≤ 999999999 →
    0 ≤ compactDiff s.ts time → compactDiff s.ts time ≤ 1000000000 → s.on POS_ODO_DESIG.f = true →
    s.baliseDelta position time = some d → (s.pos.valid = true → d.natAbs ≤ s.rd POS_BALISE_MAX_UM.f * 2 ^ 32) →
    Answers (.baliseCorrect h position time) 0x0307 h s stOk []
      (State.inc { s.fresh with pos := { s.pos with fused := s.pos.fused + d,
                                                    history := s.pos.history.map (fun (x : Nat × Int) => (x.1, x.2 + d)),
                                                    valid := true } } POS_BALISE_APPLIED.f)) ∧
  (∀ (h : CmdHdr) (position time : Nat) (d : Int) (s : State), Serves 0x0307 h s → time % 2 ^ 30 ≤ 999999999 →
    0 ≤ compactDiff s.ts time → compactDiff s.ts time ≤ 1000000000 → s.on POS_ODO_DESIG.f = true →
    s.baliseDelta position time = some d → s.pos.valid = true → s.rd POS_BALISE_MAX_UM.f * 2 ^ 32 < d.natAbs →
    Answers (.baliseCorrect h position time) 0x0307 h s stRange (toBE 4 0) (s.fresh.inc POS_BALISE_REFUSED.f)) ∧
  (∀ (h : CmdHdr) (s : State), Serves 0x0308 h s →
    Answers (.phaseRead h) 0x0308 h s stOk
      (toBE 4 s.lineAngle ++ toBE 4 (s.rd POS_LP_FREQ_MHZ.f) ++ toBE 1 (s.rd POS_LP_VALID.f)) s.fresh) ∧
  (∀ (h : CmdHdr) (mask start duration n : Nat) (s : State), Serves 0x0404 h s → mask ≤ 15 → start % 2 ^ 30 < 1000000000 →
    1000 ≤ duration → duration ≤ 2000000000 → s.windowPast start duration = false → s.freeWindow = some n →
    Answers (.disturbWindow h mask start duration) 0x0404 h s stOk (toBE 2 n) (holdWindow n mask start duration 0 0 s.fresh)) ∧
  (∀ (h : CmdHdr) (mask start duration : Nat) (s : State), Serves 0x0404 h s → mask ≤ 15 → start % 2 ^ 30 < 1000000000 →
    1000 ≤ duration → duration ≤ 2000000000 → s.windowPast start duration = false → s.freeWindow = none →
    Answers (.disturbWindow h mask start duration) 0x0404 h s stBusy [] s.fresh)

/-- Event commands: a good entry whose action is not a frame is written at the lowest free index, which is answered; an entry
with a bad field is refused with that field's offset; a removed entry's frames go and its registers clear; before either, the
entries that are due are evaluated; an index above 4,095 is answered `RANGE`; a free entry reads as 64 zero bytes (that last is
the model's reading, DEDUCED, log entry 20). -/
def Obligations.EventCommandsEditTheTable : Prop :=
  (∀ (h : CmdHdr) (entry : List Byte) (i : Nat) (s : State), Serves 0x0401 h s → evBad entry = none → evAction entry ≠ 1 →
    s.freeEvent = some i →
    Answers (.eventAdd h entry) 0x0401 h s stOk (toBE 2 i) (writeEvent i entry (evaluateAll false s.fresh))) ∧
  (∀ (h : CmdHdr) (entry : List Byte) (o : Nat) (s : State), Serves 0x0401 h s → evBad entry = some o →
    Answers (.eventAdd h entry) 0x0401 h s stRange (toBE 4 o) s.fresh) ∧
  (∀ (h : CmdHdr) (entry : List Byte) (s : State), Serves 0x0401 h s → evBad entry = none → evAction entry ≠ 1 →
    s.freeEvent = none → Answers (.eventAdd h entry) 0x0401 h s stBusy [] s.fresh) ∧
  (∀ (h : CmdHdr) (index : Nat) (s : State), Serves 0x0402 h s → index ≤ 4095 →
    Answers (.eventRemove h index) 0x0402 h s stOk [] (removeEvent index (evaluateAll false s.fresh))) ∧
  (∀ (h : CmdHdr) (index : Nat) (e : EvEntry) (s : State), Serves 0x0403 h s → index ≤ 4095 → s.event index = some e →
    Answers (.eventRead h index) 0x0403 h s stOk e.bytes s.fresh) ∧
  (∀ (h : CmdHdr) (index : Nat) (s : State), Serves 0x0403 h s → index ≤ 4095 → s.event index = none →
    Answers (.eventRead h index) 0x0403 h s stOk (zeros 64) s.fresh) ∧
  (∀ (h : CmdHdr) (index : Nat) (s : State), Serves 0x0402 h s → 4095 < index →
    Answers (.eventRemove h index) 0x0402 h s stRange (toBE 4 0) s.fresh) ∧
  (∀ (h : CmdHdr) (index : Nat) (s : State), Serves 0x0403 h s → 4095 < index →
    Answers (.eventRead h index) 0x0403 h s stRange (toBE 4 0) s.fresh)

/-- Train commands: `HOIST_REQUEST` is accepted and its trigger taken; `DIRECTORY_READ` answers the current or the proposed
directory and `RANGE` for another; `CYCLE_STATUS` reads the cycle; `TRAIN_SLEEP` (8 cycles ahead or more) and `SCHEDULE_SWITCH`
are announced by the Lead; `LANE_FORCE` sets the forced lanes of a plane-end. -/
def Obligations.TrainCommandsAnnounceAndRead : Prop :=
  (∀ (h : CmdHdr) (reason : Nat) (s : State), Serves 0x0501 h s → Room h s →
    Answers (.hoistRequest h reason) 0x0501 h s stPending [] (detect 0 reason 0 (listed h 0x0501 0 0 s.fresh))) ∧
  (∀ (h : CmdHdr) (s : State), Serves 0x0502 h s →
    Answers (.directoryRead h 0) 0x0502 h s stOk
      (toBE 1 0 ++ toBE 2 (s.rd HST_EPOCH.f) ++ toBE 2 s.hst.current.length ++ zeros 2 ++
        ((byVehicle s.hst.current).map DirRec.bytes).foldr (· ++ ·) []) s.fresh) ∧
  (∀ (h : CmdHdr) (p : Proposal) (s : State), Serves 0x0502 h s → 1 ≤ s.rd HST_STATE.f → s.rd HST_STATE.f ≤ 4 →
    s.hst.proposal = some p →
    Answers (.directoryRead h 1) 0x0502 h s stOk
      (toBE 1 1 ++ toBE 2 p.epoch ++ toBE 2 p.recs.length ++ zeros 2 ++
        ((byVehicle p.recs).map DirRec.bytes).foldr (· ++ ·) []) s.fresh) ∧
  (∀ (h : CmdHdr) (which : Nat) (s : State), Serves 0x0502 h s → 1 < which →
    Answers (.directoryRead h which) 0x0502 h s stRange (toBE 4 0) s.fresh) ∧
  (∀ (h : CmdHdr) (s : State), Serves 0x0503 h s →
    Answers (.cycleStatus h) 0x0503 h s stOk
      (toBE 4 s.cycle ++ toBE 1 (s.rd TCY_STATE.f) ++ toBE 4 (s.rd TCY_ALIGN_ERR_NS.f) ++ toBE 2 (s.rd TCY_LEAD_NODE.f))
      s.fresh) ∧
  (∀ (h : CmdHdr) (cycle : Nat) (s : State), Serves 0x0504 h s → Room h s → 8 ≤ s.ahead cycle → s.isLead = true →
    s.on LAD_SLEEP_ARMED.f = false → s.on LAD_SLEEP_EN.f = true →
    Answers (.trainSleep h cycle) 0x0504 h s stPending []
      (let t := ((listed h 0x0504 cycle 0 s.fresh).wr LAD_SLEEP_ARMED.f 1).wr LAD_SLEEP_CYCLE.f cycle
       { t with lad := { t.lad with acks := [] } })) ∧
  (∀ (h : CmdHdr) (cycle : Nat) (s : State), Serves 0x0504 h s → 1 ≤ s.ahead cycle → s.ahead cycle ≤ 7 →
    Answers (.trainSleep h cycle) 0x0504 h s stRange (toBE 4 0) s.fresh) ∧
  (∀ (h : CmdHdr) (cycle : Nat) (s : State), Serves 0x0504 h s → 8 ≤ s.ahead cycle → s.isLead = false →
    Answers (.trainSleep h cycle) 0x0504 h s stConflict (toBE 2 0) s.fresh) ∧
  (∀ (h : CmdHdr) (pe mask : Nat) (s : State), Serves 0x0505 h s → pe ≤ 3 → mask ≤ 15 →
    Answers (.laneForce h pe mask) 0x0505 h s stOk [] (withGroup pe 2 (fun t => t.wr (BKB_PEp_FORCED.f pe) mask) s.fresh)) ∧
  (∀ (h : CmdHdr) (cycle : Nat) (s : State), Serves 0x0506 h s → Room h s → s.ahead cycle ≠ 0 → s.isLead = true →
    s.tcy.switch = none → s.sto.applyAt.any (fun a => bit a.mask 2) = false → s.rd HST_STATE.f = 0 →
    s.slotShadow.ready = true → s.slotShadow.faulty = false →
    Answers (.scheduleSwitch h cycle) 0x0506 h s stPending []
      (let t := (listed h 0x0506 cycle 0 s.fresh).wr TCY_SCHED_ARMED.f 1
       { t with tcy := { t.tcy with switch := some (cycle, s.slotShadow.sched) } }))

/-- Signal commands: `SIGNAL_READ` answers the value records of its range and refuses a count of 0 or above 2,047; a host write
that a check refuses changes nothing; one that is taken stores the value and schedules its destinations, and so does a write of
the signal-value window by a class that may write it; `SME_READ` answers an entry's record, `SME_WRITE` writes a good one and
refuses a bad one at its field; a profile switch is armed for a cycle ahead. -/
def Obligations.SignalCommandsReadWriteAndSwitch : Prop :=
  (∀ (h : CmdHdr) (index count : Nat) (s : State), Serves 0x0601 h s → 1 ≤ count → count ≤ 2047 → index + count ≤ 2 ^ 18 →
    Answers (.signalRead h index count) 0x0601 h s stOk
      (((List.range count).map (fun k => s.valueRecord (index + k))).foldr (· ++ ·) []) s.fresh) ∧
  (∀ (h : CmdHdr) (index count : Nat) (s : State), Serves 0x0601 h s → index < 2 ^ 18 → (count = 0 ∨ 2047 < count) →
    Answers (.signalRead h index count) 0x0601 h s stRange (toBE 4 4) s.fresh) ∧
  (∀ (h : CmdHdr) (index value : Nat) (s : State), Serves 0x0602 h s → s.hostRefusal index value = none →
    Answers (.signalWrite h index value) 0x0602 h s stOk [] (doHostWrite index (value % 2 ^ 64) s.fresh)) ∧
  (∀ (h : CmdHdr) (index value pos : Nat) (s : State), Serves 0x0602 h s → s.hostRefusal index value = some (stRange, pos) →
    Answers (.signalWrite h index value) 0x0602 h s stRange (toBE 4 pos) s.fresh) ∧
  (∀ (h : CmdHdr) (index value pos : Nat) (s : State), Serves 0x0602 h s → s.hostRefusal index value = some (stConflict, pos) →
    Answers (.signalWrite h index value) 0x0602 h s stConflict (toBE 2 0) s.fresh) ∧
  (∀ (c : PrivClass) (index value : Nat) (s : State), s.Up → c ≠ .maint → s.hostRefusal index value = none →
    Gives (.signalWindowWrite c index value) s (doHostWrite index (value % 2 ^ 64) s.fresh)) ∧
  (∀ (c : PrivClass) (index value : Nat) (s : State), s.Up → (c = .maint ∨ s.hostRefusal index value ≠ none) →
    Gives (.signalWindowWrite c index value) s s.fresh) ∧
  (∀ (h : CmdHdr) (index profile : Nat) (s : State), Serves 0x0603 h s → index < 2 ^ 18 → profile ≤ 7 →
    Answers (.smeRead h index profile) 0x0603 h s stOk (s.record (s.recordIndex index profile)) s.fresh) ∧
  (∀ (h : CmdHdr) (index profile : Nat) (entry : List Byte) (d : MsgDesc) (s : State), Serves 0x0604 h s → index < 2 ^ 18 →
    profile ≤ 7 → entry.length = 64 → s.binding.covering index = some d → s.smeFault entry (profile != 0) = none →
    (smeOf entry).srcMsg = d.msg → (profile = 0 ∨ bit (smeOf (s.record index)).altMask profile = true) →
    fanoutRaised s.fresh (writeSme (s.recordIndex index profile) entry s.fresh) = false →
    Answers (.smeWrite h index profile entry) 0x0604 h s stOk [] (writeSme (s.recordIndex index profile) entry s.fresh)) ∧
  (∀ (h : CmdHdr) (index profile o : Nat) (entry : List Byte) (d : MsgDesc) (s : State), Serves 0x0604 h s → index < 2 ^ 18 →
    profile ≤ 7 → entry.length = 64 → s.binding.covering index = some d → s.smeFault entry (profile != 0) = some o →
    Answers (.smeWrite h index profile entry) 0x0604 h s stRange (toBE 4 (5 + o)) s.fresh) ∧
  (∀ (h : CmdHdr) (profile cycle : Nat) (s : State), Serves 0x0605 h s → Room h s → profile ≤ 7 →
    s.on SIG_PROFILE_ARMED.f = false → s.switchable = true → cycleAhead cycle s.cycle = true →
    Answers (.profileSwitch h profile cycle) 0x0605 h s stPending []
      (armProfile profile cycle 0 0 (listed h 0x0605 cycle profile s.fresh))) ∧
  (∀ (h : CmdHdr) (s : State), Serves 0x0606 h s →
    Answers (.profileRead h) 0x0606 h s stOk
      (toBE 1 (s.rd SIG_PROFILE.f) ++ toBE 1 (s.rd SIG_PROFILE_ARMED.f) ++ toBE 4 (s.rd SIG_PROFILE_CYCLE.f)) s.fresh)

/-- Field channel commands: configuration and safe settings are written whole or refused; state records are read over a range of
channels; `FIELD_SET` and `LOOP_SET` write each named output that a host owns in the right mode and refuse the whole command,
naming the unit, when one is not; `FIELD_FAULT_CLEAR` clears the channel's faults. -/
def Obligations.FieldCommandsConfigureAndDrive : Prop :=
  (∀ (h : CmdHdr) (channel : Nat) (config : List Byte) (s : State), Serves 0x0701 h s → channel < 256 → config.length = 32 →
    fieldWordsOk (beAt config 0 8) (beAt config 8 8) (beAt config 16 8) = true → beAt config 24 8 = 0 →
    Answers (.fieldConfig h channel config) 0x0701 h s stOk []
      (writeFieldWords channel (beAt config 0 8) (beAt config 8 8) (beAt config 16 8) s.fresh)) ∧
  (∀ (h : CmdHdr) (channel : Nat) (config : List Byte) (s : State), Serves 0x0701 h s → config.length = 32 →
    (fieldWordsOk (beAt config 0 8) (beAt config 8 8) (beAt config 16 8) = false ∨ beAt config 24 8 ≠ 0) →
    Answers (.fieldConfig h channel config) 0x0701 h s stRange (toBE 4 1) s.fresh) ∧
  (∀ (h : CmdHdr) (first count : Nat) (s : State), Serves 0x0702 h s → 1 ≤ count → first + count ≤ 256 →
    Answers (.fieldRead h first count) 0x0702 h s stOk
      (((List.range count).map (fun k => s.channelRecord (first + k))).foldr (· ++ ·) []) s.fresh) ∧
  (∀ (h : CmdHdr) (mask levels : List Byte) (s : State), Serves 0x0703 h s → mask.length = 32 → levels.length = 32 →
    (∀ c ∈ bitsOf 256 (fromBE mask), s.hostOwned 3 c = true) →
    Answers (.fieldSet h mask levels) 0x0703 h s stOk []
      ((bitsOf 256 (fromBE mask)).foldl (fun t c => ownerWrite c (b2n (bit (fromBE levels) c)) true t) s.fresh)) ∧
  (∀ (h : CmdHdr) (mask levels : List Byte) (c : Nat) (s : State), Serves 0x0703 h s → mask.length = 32 →
    levels.length = 32 → (bitsOf 256 (fromBE mask)).find? (fun c => !s.hostOwned 3 c) = some c →
    Answers (.fieldSet h mask levels) 0x0703 h s stConflict (toBE 2 (unitId 7 c)) s.fresh) ∧
  (∀ (h : CmdHdr) (channel code : Nat) (s : State), Serves 0x0704 h s → code ≤ 60000 → s.hostOwned 5 channel = true →
    Answers (.loopSet h channel code) 0x0704 h s stOk [] (ownerWrite channel code true s.fresh)) ∧
  (∀ (h : CmdHdr) (channel code : Nat) (s : State), Serves 0x0704 h s → 60000 < code →
    Answers (.loopSet h channel code) 0x0704 h s stRange (toBE 4 1) s.fresh) ∧
  (∀ (h : CmdHdr) (channel code : Nat) (s : State), Serves 0x0704 h s → code ≤ 60000 → s.hostOwned 5 channel = false →
    Answers (.loopSet h channel code) 0x0704 h s stConflict (toBE 2 (unitId 7 channel)) s.fresh) ∧
  (∀ (h : CmdHdr) (channel safe watchdog : Nat) (s : State), Serves 0x0705 h s → bits safe 0 2 ≠ 3 → bits safe 2 5 = 0 →
    1 ≤ watchdog → watchdog ≤ 10000 →
    Answers (.fieldSafeSet h channel safe watchdog) 0x0705 h s stOk []
      (let t := ((s.fresh.wr (FC_SAFE_LEVEL.f channel) (bits safe 0 2)).wr (FC_SAFE_LATCH.f channel) (bits safe 7 1)).wr
         (FC_WDT_MS.f channel) watchdog
       if s.dieUp (dieOf channel) then syncChan channel t else t)) ∧
  (∀ (h : CmdHdr) (channel safe watchdog : Nat) (s : State), Serves 0x0705 h s → bits safe 0 2 ≠ 3 → bits safe 2 5 = 0 →
    (watchdog = 0 ∨ 10000 < watchdog) →
    Answers (.fieldSafeSet h channel safe watchdog) 0x0705 h s stRange (toBE 4 2) s.fresh) ∧
  (∀ (h : CmdHdr) (channel : Nat) (s : State), Serves 0x0706 h s →
    Answers (.fieldFaultClear h channel) 0x0706 h s stOk [] (clearFaults channel s.fresh))

/-- Power, thermal and ladder commands: the reads answer rungs and temperatures; the floors and the feed preference are written
within their ranges and refused beyond them; the preference word takes a write of class SAFETY alone. -/
def Obligations.PowerCommandsReadAndSetFloors : Prop :=
  (∀ (h : CmdHdr) (s : State), Serves 0x0801 h s →
    Answers (.ladderStatus h) 0x0801 h s stOk
      ((List.range 184).map (fun d => BitVec.ofNat 8 (s.rd (LAD_Dd_RUNG.f d) + 128 * b2n (s.rd (LAD_Dd_OPER.f d) == 6))))
      s.fresh) ∧
  (∀ (h : CmdHdr) (domain rung : Nat) (s : State), Serves 0x0802 h s → domain ≤ 183 → rung ≤ 4 →
    Answers (.ladderFloor h domain rung) 0x0802 h s stOk [] (settleDomain domain (s.fresh.wr (LAD_Dd_FLOOR.f domain) rung))) ∧
  (∀ (h : CmdHdr) (domain rung : Nat) (s : State), Serves 0x0802 h s → 183 < domain →
    Answers (.ladderFloor h domain rung) 0x0802 h s stRange (toBE 4 0) s.fresh) ∧
  (∀ (h : CmdHdr) (domain rung : Nat) (s : State), Serves 0x0802 h s → domain ≤ 183 → 4 < rung →
    Answers (.ladderFloor h domain rung) 0x0802 h s stRange (toBE 4 2) s.fresh) ∧
  (∀ (h : CmdHdr) (feed : Nat) (s : State), Serves 0x0803 h s → feed ≤ 2 →
    Answers (.feedPrefer h feed) 0x0803 h s stOk [] (writePrefer feed s.fresh)) ∧
  (∀ (h : CmdHdr) (feed : Nat) (s : State), Serves 0x0803 h s → 2 < feed →
    Answers (.feedPrefer h feed) 0x0803 h s stRange (toBE 4 0) s.fresh) ∧
  (∀ (feed : Nat) (s : State), s.Up → feed ≤ 2 → Gives (.pwrPrefer .safety feed) s (writePrefer feed s.fresh)) ∧
  (∀ (c : PrivClass) (feed : Nat) (s : State), s.Up → (c ≠ .safety ∨ 2 < feed) → Gives (.pwrPrefer c feed) s s.fresh) ∧
  (∀ (h : CmdHdr) (s : State), Serves 0x0804 h s →
    Answers (.thermalRead h) 0x0804 h s stOk
      (((List.range 4).map (fun i => toBE 2 (s.rd (LAD_TJ_i_LO.f i)))).flatten ++
        ((List.range 2).map (fun i => toBE 2 (s.rd (LAD_TJ_i_HI.f i)))).flatten ++ toBE 1 (s.rd LAD_THERM_STATE.f)) s.fresh) ∧
  (∀ (h : CmdHdr) (floor : Nat) (s : State), Serves 0x0805 h s → floor ≤ 5 →
    Answers (.perfFloor h floor) 0x0805 h s stOk [] (writePerfFloor floor s.fresh)) ∧
  (∀ (h : CmdHdr) (floor : Nat) (s : State), Serves 0x0805 h s → 5 < floor →
    Answers (.perfFloor h floor) 0x0805 h s stRange (toBE 4 0) s.fresh)

/-- Pair commands: the status is read; the guarded list is replaced by up to 32 distinct channels that are paired outputs, and
refused naming the first that is not; `FAILOVER_REQUEST` on the active member of a pair with a ready partner lowers `ARB_REQ`
and stays pending; its expiry ends it with `TIMEOUT` and raises `ARB_REQ` again. -/
def Obligations.PairCommandsGuardAndFailOver : Prop :=
  (∀ (h : CmdHdr) (s : State), Serves 0x0901 h s →
    Answers (.pairStatus h) 0x0901 h s stOk
      (toBE 1 s.pairRole ++ toBE 1 s.partnerState ++ toBE 4 (s.rd RED_HAL_MISS.f) ++ toBE 4 (s.rd RED_BB_MISS.f)) s.fresh) ∧
  (∀ (h : CmdHdr) (channels : List Nat) (s : State), Serves 0x0902 h s → channels.length ≤ 32 →
    (List.range channels.length).find? (fun i => (channels.take i).contains (channels.getD i 0)) = none →
    channels.find? (fun c => !s.on (FC_PAIRED.f c) || !outMode (s.fmode c)) = none →
    Answers (.guardedSet h channels) 0x0902 h s stOk [] (setGuarded channels s.fresh)) ∧
  (∀ (h : CmdHdr) (channels : List Nat) (s : State), Serves 0x0902 h s → 32 < channels.length →
    Answers (.guardedSet h channels) 0x0902 h s stRange (toBE 4 0) s.fresh) ∧
  (∀ (h : CmdHdr) (channels : List Nat) (c : Nat) (s : State), Serves 0x0902 h s → channels.length ≤ 32 →
    (List.range channels.length).find? (fun i => (channels.take i).contains (channels.getD i 0)) = none →
    channels.find? (fun c => !s.on (FC_PAIRED.f c) || !outMode (s.fmode c)) = some c →
    Answers (.guardedSet h channels) 0x0902 h s stConflict (toBE 2 (unitId 7 c)) s.fresh) ∧
  (∀ (h : CmdHdr) (s : State), Serves 0x0903 h s → Room h s → s.isPair = true → s.pairActive = true → s.partnerReady = true →
    Answers (.failoverRequest h) 0x0903 h s stPending []
      (let t := listed h 0x0903 0 0 s.fresh
       rehealth { t with pair := { t.pair with reqLow := true } })) ∧
  (∀ (h : CmdHdr) (s : State), Serves 0x0903 h s → (s.isPair = false ∨ s.pairActive = false ∨ s.partnerReady = false) →
    Answers (.failoverRequest h) 0x0903 h s stConflict (toBE 2 0) s.fresh) ∧
  (∀ (s : State), s.Running → s.pair.reqLow = true →
    Gives .failoverTimeout s
      (cmdDoneAll 0x0903 (fun _ => true) stTimeout (fun _ => [])
        (rehealth { s.fresh with pair := { s.pair with reqLow := false } })))

/-- A free semaphore, or one its own holder renews, is taken for the hold time; one that another holds answers `BUSY` and keeps
its holder; its holder releases it, and a release of a free one is a `STATE_CONFLICT`. `BRIDGE_STATUS` answers the path's open
requests and counts; counters are read over their range, and a clear zeroes all 64 of its MAC; recorded values are read; a
self-test is accepted for an engine not under test; a subscription holds its destination. -/
def Obligations.SemaphoreAndDiagnosticCommandsAnswer : Prop :=
  (∀ (h : CmdHdr) (index hold : Nat) (s : State), Serves 0x0A01 h s → index ≤ 63 → 1 ≤ hold → hold ≤ 60000 →
    (s.on (RAB_SEMi_HELD.f index) = false ∨
      (s.rd (RAB_SEMi_OWNER_UID.f index) = (s.semOwner h).1 ∧ s.rd (RAB_SEMi_PORT.f index) = (s.semOwner h).2)) →
    Answers (.semAcquire h index hold) 0x0A01 h s stOk []
      (let t := ((s.fresh.wr (RAB_SEMi_OWNER_UID.f index) (s.semOwner h).1).wr (RAB_SEMi_PORT.f index) (s.semOwner h).2).wr
          (RAB_SEMi_HELD.f index) 1
       State.syncSems { t with rab := { t.rab with
         expiries := putKey Prod.fst (index, t.clk.up + hold * 1000000) t.rab.expiries } })) ∧
  (∀ (h : CmdHdr) (index hold : Nat) (s : State), Serves 0x0A01 h s → index ≤ 63 → 1 ≤ hold → hold ≤ 60000 →
    s.on (RAB_SEMi_HELD.f index) = true →
    ¬(s.rd (RAB_SEMi_OWNER_UID.f index) = (s.semOwner h).1 ∧ s.rd (RAB_SEMi_PORT.f index) = (s.semOwner h).2) →
    Answers (.semAcquire h index hold) 0x0A01 h s stBusy [] s.fresh) ∧
  (∀ (h : CmdHdr) (index : Nat) (s : State), Serves 0x0A02 h s → index ≤ 63 → s.on (RAB_SEMi_HELD.f index) = true →
    s.rd (RAB_SEMi_OWNER_UID.f index) = (s.semOwner h).1 → s.rd (RAB_SEMi_PORT.f index) = (s.semOwner h).2 →
    Answers (.semRelease h index) 0x0A02 h s stOk [] (freeSem index s.fresh)) ∧
  (∀ (h : CmdHdr) (index : Nat) (s : State), Serves 0x0A02 h s → index ≤ 63 → s.on (RAB_SEMi_HELD.f index) = false →
    Answers (.semRelease h index) 0x0A02 h s stConflict (toBE 2 0) s.fresh) ∧
  (∀ (h : CmdHdr) (s : State), Serves 0x0A03 h s → h.via.port ≠ .train →
    Answers (.bridgeStatus h) 0x0A03 h s stOk
      (toBE 2 (s.openCount h.via.port) ++ toBE 2 (s.rd RAB_POSTED_Q.f) ++ toBE 4 (s.rd RAB_LATE.f)) s.fresh) ∧
  (∀ (h : CmdHdr) (mac first count : Nat) (s : State), Serves 0x0B01 h s → mac ≤ 80 → 1 ≤ count → first + count ≤ 64 →
    Answers (.statsRead h (unitId 2 mac) first count) 0x0B01 h s stOk
      ((List.range count).map (fun i => toBE 8 (s.rd (MAC_n_STAT_k.f mac (first + i))))).flatten s.fresh) ∧
  (∀ (h : CmdHdr) (mac : Nat) (s : State), Serves 0x0B02 h s → mac ≤ 80 →
    Answers (.statsClear h (unitId 2 mac)) 0x0B02 h s stOk []
      ((List.range 64).foldl (fun t k => t.wr (MAC_n_STAT_k.f mac k) 0) s.fresh)) ∧
  (∀ (h : CmdHdr) (start signal records : Nat) (s : State), Serves 0x0B03 h s →
    (signal < 2 ^ 18 ∨ signal = 0xFFFFFFFF) → 1 ≤ records → records ≤ 2046 →
    Answers (.recorderRead h start signal records) 0x0B03 h s stOk
      (toBE 2 (s.recordsFrom start signal records).length ++
        ((s.recordsFrom start signal records).map recordBytes).foldr (· ++ ·) []) s.fresh) ∧
  (∀ (h : CmdHdr) (unit e : Nat) (rest : List Nat) (s : State), Serves 0x0B04 h s → Room h s →
    testEngines unit = e :: rest → s.subjectOf unit = none →
    Answers (.selftest h unit) 0x0B04 h s stPending []
      (let t := listed h 0x0B04 unit 0 s.fresh
       markTest e true { t with eng := { t.eng with fenTest := t.eng.fenTest ++ [(s.cmd.nextLong, e :: rest)] } })) ∧
  (∀ (h : CmdHdr) (ip udp groups : Nat) (s : State), Serves 0x0B05 h s →
    Answers (.eventSubscribe h ip udp groups) 0x0B05 h s stOk []
      { s.fresh with cmd := { s.cmd with mtDest := some (ip % 2 ^ 32, udp % 2 ^ 16, groups % 2 ^ 16) } })

/-- Port commands: `PORT_ENABLE` writes the CFG of the port's MAC or legacy line and answers OPER as it stood, and a port that
has neither is refused; `PORT_STATUS` answers CFG, OPER, speed and link; a wake pattern is written and enabled by a mask that is
not zero; `PHY_TEST` puts a disabled port's PHY into a mode and out of it, and refuses an enabled port. -/
def Obligations.PortCommandsEnableReadAndTest : Prop :=
  (∀ (h : CmdHdr) (port mac enable : Nat) (s : State), Serves 0x0C01 h s → macOfPort port = some mac → enable ≤ 1 →
    s.subjectOf (unitId 1 port) = none →
    Answers (.portEnable h port enable) 0x0C01 h s stOk (toBE 1 (s.operOf (unitId 1 port))) (writeMacCfg mac enable s.fresh)) ∧
  (∀ (h : CmdHdr) (port enable : Nat) (s : State), Serves 0x0C01 h s → 80 ≤ port → port < 116 → enable ≤ 1 →
    s.subjectOf (unitId 1 port) = none →
    Answers (.portEnable h port enable) 0x0C01 h s stOk (toBE 1 (s.operOf (unitId 1 port)))
      (settleDomains (writeLegCfg port enable s.fresh))) ∧
  (∀ (h : CmdHdr) (port enable : Nat) (s : State), Serves 0x0C01 h s → 116 ≤ port → port ≠ 119 →
    Answers (.portEnable h port enable) 0x0C01 h s stRange (toBE 4 0) s.fresh) ∧
  (∀ (h : CmdHdr) (port mac : Nat) (s : State), Serves 0x0C02 h s → macOfPort port = some mac →
    Answers (.portStatus h port) 0x0C02 h s stOk
      (toBE 1 (s.cfgOf (unitId 1 port)) ++ toBE 1 (s.operOf (unitId 1 port)) ++ toBE 1 (s.rd (MAC_n_SPEED.f mac)) ++
        toBE 1 (s.rd (MAC_n_LINK.f mac))) s.fresh) ∧
  (∀ (h : CmdHdr) (port : Nat) (s : State), Serves 0x0C02 h s → 80 ≤ port → port < 116 →
    Answers (.portStatus h port) 0x0C02 h s stOk
      (toBE 1 (s.cfgOf (unitId 1 port)) ++ toBE 1 (s.operOf (unitId 1 port)) ++ toBE 1 5 ++ toBE 1 (b2n (s.legLink port)))
      s.fresh) ∧
  (∀ (h : CmdHdr) (mac pattern : Nat) (mask : List Byte) (crc : Nat) (s : State), Serves 0x0C03 h s → 16 ≤ mac → mac ≤ 79 →
    pattern ≤ 15 → mask.length = 16 →
    Answers (.wakePatternSet h mac pattern mask crc) 0x0C03 h s stOk []
      ((((s.fresh.wr (MAC_n_WPi_MASK_LO.f mac pattern) (fromBE mask)).wr (MAC_n_WPi_MASK_HI.f mac pattern)
        (fromBE mask / 2 ^ 64)).wr (MAC_n_WPi_CRC.f mac pattern) crc).wrB (MAC_n_WPi_EN.f mac pattern) (fromBE mask != 0))) ∧
  (∀ (h : CmdHdr) (mac pattern : Nat) (mask : List Byte) (crc : Nat) (s : State), Serves 0x0C03 h s → (mac < 16 ∨ 79 < mac) →
    Answers (.wakePatternSet h mac pattern mask crc) 0x0C03 h s stRange (toBE 4 0) s.fresh) ∧
  (∀ (h : CmdHdr) (port mac mode : Nat) (s : State), Serves 0x0C04 h s → macOfPort port = some mac → integratedPhy mac = true →
    testModeOk mac mode = true → s.subjectOf (unitId 1 port) = none → s.on (MAC_n_CFG_EN.f mac) = false → mode ≠ 0 →
    Answers (.phyTest h port mode) 0x0C04 h s stOk []
      { s.fresh with net := { s.net with phyTest := putKey Prod.fst (mac, mode) s.net.phyTest } }) ∧
  (∀ (h : CmdHdr) (port mac : Nat) (s : State), Serves 0x0C04 h s → macOfPort port = some mac → integratedPhy mac = true →
    s.subjectOf (unitId 1 port) = none → s.on (MAC_n_CFG_EN.f mac) = false →
    Answers (.phyTest h port 0) 0x0C04 h s stOk []
      { s.fresh with net := { s.net with phyTest := dropKey Prod.fst mac s.net.phyTest } }) ∧
  (∀ (h : CmdHdr) (port mac mode : Nat) (s : State), Serves 0x0C04 h s → macOfPort port = some mac → integratedPhy mac = true →
    testModeOk mac mode = true → s.subjectOf (unitId 1 port) = none → s.on (MAC_n_CFG_EN.f mac) = true →
    Answers (.phyTest h port mode) 0x0C04 h s stConflict (toBE 2 (unitId 1 port)) s.fresh)

/-- `SS` transactions. A packet is taken while fewer than 4 wait for execution or reading and is discarded with the `RX_OVERRUN`
bit and a count otherwise; a reply or event record is removed only by a complete read; a status read answers the counts and
clears both error bits; an unknown first byte sets `FRAME_ERROR` and is ignored. The dummy byte is a free value. -/
def Obligations.SsTransactionsQueueAndClear : Prop :=
  (∀ (bytes : List Byte) (s : State), s.sys.power = 3 → (s.sys.stage = 3 ∨ s.sys.stage = 5) →
    s.cmd.ssReplies.length + s.cmd.waitSS.length + s.openCount .ss < 4 →
    Gives (.writePacket bytes) s
      { s with out := [.miso (s.ssStatus :: zeros bytes.length)],
               cmd := { s.cmd with waitSS := s.cmd.waitSS ++ [{ via := viaSS, bytes := bytes }] } }) ∧
  (∀ (bytes : List Byte) (s : State), s.sys.power = 3 →
    4 ≤ s.cmd.ssReplies.length + s.cmd.waitSS.length + s.openCount .ss →
    Gives (.writePacket bytes) s
      { State.inc { s with out := [.miso (s.ssStatus :: zeros bytes.length)] } CMD_SS_LOST.f with
        cmd := { s.cmd with ssOverrun := true } }) ∧
  (∀ (r : Reply) (rest : List Reply) (s : State), s.sys.power = 3 → s.cmd.ssReplies = r :: rest →
    Gives (.readReply true) s
      { misoAfterDummy s.ssStatus (toBE 3 (replyLen r) ++ replyBytes r) s.fresh with
        cmd := { s.cmd with ssReplies := rest } } ∧
    Gives (.readReply false) s (misoAfterDummy s.ssStatus (toBE 3 (replyLen r) ++ replyBytes r) s.fresh)) ∧
  (∀ (complete : Bool) (s : State), s.sys.power = 3 → s.cmd.ssReplies = [] →
    Gives (.readReply complete) s (misoAfterDummy s.ssStatus (toBE 3 0) s.fresh)) ∧
  (∀ (e : EvtRec) (rest : List EvtRec) (s : State), s.sys.power = 3 → s.cmd.ssEvents = e :: rest →
    Gives (.readEvent true) s
      { misoAfterDummy s.ssStatus (toBE 1 1 ++ eventBytes e) s.fresh with cmd := { s.cmd with ssEvents := rest } } ∧
    Gives (.readEvent false) s (misoAfterDummy s.ssStatus (toBE 1 1 ++ eventBytes e) s.fresh)) ∧
  (∀ (complete : Bool) (s : State), s.sys.power = 3 → s.cmd.ssEvents = [] →
    Gives (.readEvent complete) s (misoAfterDummy s.ssStatus (toBE 1 0) s.fresh)) ∧
  (∀ (s : State), s.sys.power = 3 →
    Gives .readStatus s
      { misoAfterDummy s.ssStatus (toBE 1 s.cmd.ssEvents.length ++ toBE 1 s.cmd.ssReplies.length) s.fresh with
        cmd := { s.cmd with ssOverrun := false, ssFrameErr := false } }) ∧
  (∀ (first : Nat) (s : State), s.sys.power = 3 → (first = 0 ∨ 4 < first) →
    Gives (.ssUnknownTransaction first) s
      { s with out := [.miso [s.ssStatus]], cmd := { s.cmd with ssFrameErr := true } })

/-- `MT`: with the port alive, a whole UDP datagram to the node's UDP port waits as a packet under its source, an ICMP echo is
answered with its bytes, and an ARP request for the node's address with the node's MAC address; with `MAINT_EN` low a frame is
discarded and counted; a datagram whose fragments did not come together in time is forgotten. -/
def Obligations.MtFramesAreTakenAnsweredOrDiscarded : Prop :=
  (∀ (d : MtFrame) (s : State), s.Up → s.maintEn = true → s.on (MAC_n_CFG_EN.f 80) = true →
    (takeCells s.fresh chainControl 255 (cellsFor (d.bytes.length + 46)) []).isNone = false → d.kind = 3 → d.offset = 0 →
    d.more = false → d.dstUdp = (wake 119 s.fresh).rd CMD_MT_UDP_PORT.f →
    Gives (.mtDatagramReceive d) s
      (let t := wake 119 s.fresh
       { t with cmd := { t.cmd with waitMT := t.cmd.waitMT ++ [{ via := viaMt d.ip d.udp, bytes := d.bytes }] } })) ∧
  (∀ (d : MtFrame) (s : State), s.Up → s.maintEn = true → s.on (MAC_n_CFG_EN.f 80) = true →
    (takeCells s.fresh chainControl 255 (cellsFor (d.bytes.length + 46)) []).isNone = false → d.kind = 2 →
    Gives (.mtDatagramReceive d) s ((wake 119 s.fresh).emit (.mtAnswer 1 d.ip d.bytes))) ∧
  (∀ (d : MtFrame) (s : State), s.Up → s.maintEn = true → s.on (MAC_n_CFG_EN.f 80) = true →
    (takeCells s.fresh chainControl 255 (cellsFor (d.bytes.length + 46)) []).isNone = false → d.kind = 1 →
    fromBE d.bytes = (wake 119 s.fresh).rd CMD_MT_IPV4.f →
    Gives (.mtDatagramReceive d) s
      ((wake 119 s.fresh).emit (.mtAnswer 0 d.ip (toBE 6 ((wake 119 s.fresh).rd GLB_MAC_ADDR.f))))) ∧
  (∀ (d : MtFrame) (s : State), s.Up → s.maintEn = false →
    Gives (.mtDatagramReceive d) s (s.fresh.inc CMD_DISCARD_MT.f)) ∧
  (∀ (ip ident : Nat) (s : State), s.Up →
    Gives (.mtReassemblyTimeout ip ident) s
      { s.fresh with cmd := { s.cmd with
          mtParts := s.cmd.mtParts.filter (fun x => !(x.ip == ip && x.ident == ident)) } })

/-- The command rings: a doorbell write of the tail and of the event read index act on the endpoint's own words while the node
is in stage 3 or 4; any other `BAR0` write of an endpoint with its link up is discarded and counted; a fetch takes the entry at
the head, moves the head on, and refuses a reply buffer out of range with `BAD_LENGTH`. -/
def Obligations.RingDoorbellsAndFetchesFollowTheIndices : Prop :=
  (∀ (hb : Bool) (tail : Nat) (s : State), s.usable = true → (s.ep hb).link = true →
    Gives (.cmdHaRingTail hb tail) s
      (ringWord hb (ringBlock hb + 0x10) (tail % 2 ^ 16) (2 ^ 64 - 1) s.fresh)) ∧
  (∀ (hb : Bool) (index : Nat) (s : State), s.usable = true → (s.ep hb).link = true →
    Gives (.cmdHaEvtRead hb index) s
      (ringWord hb (ringBlock hb + 0x28) (index % 2 ^ 16) (2 ^ 64 - 1) s.fresh)) ∧
  (∀ (hb : Bool) (offset value : Nat) (s : State), s.usable = true → (s.ep hb).link = true → ringBlock hb ≤ offset →
    offset < ringBlock hb + 0x30 → offset % 8 = 0 → value < 2 ^ 64 →
    Gives (.bar0Write hb offset 8 value) s (ringWord hb offset value (2 ^ 64 - 1) s.fresh)) ∧
  (∀ (hb : Bool) (offset size value : Nat) (s : State), s.sys.power = 3 → (s.ep hb).link = true →
    (offset < ringBlock hb ∨ ringBlock hb + 0x30 ≤ offset) →
    Gives (.bar0Write hb offset size value) s (s.fresh.inc CMD_BAR0_WRITES.f)) ∧
  (∀ (hb : Bool) (entry packet : List Byte) (s : State), s.Up → (s.ep hb).link = true →
    s.on (CMD_Hx_RING_EN.f (hx hb)) = true → s.rd (CMD_Hx_RING_TAIL.f (hx hb)) < 2 ^ s.rd (CMD_Hx_RING_LOG2.f (hx hb)) →
    s.rd (CMD_Hx_RING_HEAD.f (hx hb)) % 2 ^ s.rd (CMD_Hx_RING_LOG2.f (hx hb)) ≠ s.rd (CMD_Hx_RING_TAIL.f (hx hb)) →
    28 ≤ leAt entry 20 4 → leAt entry 20 4 ≤ 65536 → 28 ≤ leAt entry 16 4 → leAt entry 16 4 ≤ 65536 →
    leAt entry 16 4 ≤ packet.length →
    Gives (.commandRingFetch hb entry packet) s
      (let size := 2 ^ s.rd (CMD_Hx_RING_LOG2.f (hx hb))
       let head := s.rd (CMD_Hx_RING_HEAD.f (hx hb)) % size
       queueRing hb
         { via := { port := if hb then .hb else .ha, slot := head, room := leAt entry 20 4, addr := leAt entry 8 8,
                    node := 0, epoch := 0, rport := 0, tag := 0, xid := 0 },
           bytes := fitBytes (leAt entry 16 4) packet }
         (s.fresh.wr (CMD_Hx_RING_HEAD.f (hx hb)) ((head + 1) % size)))) ∧
  (∀ (hb : Bool) (entry packet : List Byte) (s : State), s.Up → (s.ep hb).link = true →
    s.on (CMD_Hx_RING_EN.f (hx hb)) = true → s.rd (CMD_Hx_RING_TAIL.f (hx hb)) < 2 ^ s.rd (CMD_Hx_RING_LOG2.f (hx hb)) →
    s.rd (CMD_Hx_RING_HEAD.f (hx hb)) % 2 ^ s.rd (CMD_Hx_RING_LOG2.f (hx hb)) ≠ s.rd (CMD_Hx_RING_TAIL.f (hx hb)) →
    28 ≤ leAt entry 20 4 → leAt entry 20 4 ≤ 65536 → 28 ≤ leAt entry 16 4 → leAt entry 16 4 ≤ 65536 →
    packet.length < leAt entry 16 4 →
    Gives (.commandRingFetch hb entry packet) s
      (let size := 2 ^ s.rd (CMD_Hx_RING_LOG2.f (hx hb))
       let head := s.rd (CMD_Hx_RING_HEAD.f (hx hb)) % size
       let r := takeFree 16 (s.fresh.wr (CMD_Hx_RING_HEAD.f (hx hb)) ((head + 1) % size))
       (r.2.emit (.ringWriteBack hb head 0 r.1 5)).emit (.msix hb 0))) ∧
  (∀ (hb : Bool) (entry packet : List Byte) (s : State), s.Up → (s.ep hb).link = true →
    s.on (CMD_Hx_RING_EN.f (hx hb)) = true → s.rd (CMD_Hx_RING_TAIL.f (hx hb)) < 2 ^ s.rd (CMD_Hx_RING_LOG2.f (hx hb)) →
    s.rd (CMD_Hx_RING_HEAD.f (hx hb)) % 2 ^ s.rd (CMD_Hx_RING_LOG2.f (hx hb)) ≠ s.rd (CMD_Hx_RING_TAIL.f (hx hb)) →
    (leAt entry 20 4 < 28 ∨ 65536 < leAt entry 20 4) →
    Gives (.commandRingFetch hb entry packet) s
      (let size := 2 ^ s.rd (CMD_Hx_RING_LOG2.f (hx hb))
       let head := s.rd (CMD_Hx_RING_HEAD.f (hx hb)) % size
       ((s.fresh.wr (CMD_Hx_RING_HEAD.f (hx hb)) ((head + 1) % size)).emit
         (.ringWriteBack hb head 0 stBadLength 1)).emit (.msix hb 0)))

/-- Coherent reads, `BAR2`, heartbeat and endpoint reset: a read of the first word of a group latches the others for its own
path and answers the word; `BAR2` of an endpoint with its link up serves the firmware state, the diagnostic address and the word
it points at, zero beyond the space; a heartbeat adds one to its count, modulo 2^32 (that it wraps is the model's choice, log
entry 78); an endpoint reset is `ringReset` of that endpoint alone. -/
def Obligations.LatchesHeartbeatAndEndpointReset : Prop :=
  (∀ (path : ReadPath) (s : State), s.sys.power = 3 → s.pathOpen path = true →
    Gives (.timSecRead path) s
      (let t := aim path 0x40000 s.fresh
       State.emit { t with cmd := { t.cmd with
          latches := modifyAt (pathIdx path) (fun l => { l with tim := s.clk.latch }) s.cmd.latches } }
        (.words [s.clk.now / 1000000000 % 2 ^ 48]))) ∧
  (∀ (path : ReadPath) (s : State), s.sys.power = 3 → s.pathOpen path = true →
    Gives (.posPositionRead path) s
      (let t := aim path 0x50008 s.fresh
       State.emit { t with cmd := { t.cmd with
          latches := modifyAt (pathIdx path)
            (fun l => { l with posVel := s.positionNow.2.1, posTime := s.positionNow.2.2 }) s.cmd.latches } }
        (.words [s.positionNow.1]))) ∧
  (∀ (hb : Bool) (s : State), (s.ep hb).link = true →
    s.bar2Read hb 0x10 = s.plainWord 0x20 ∧ s.bar2Read hb 0 = (s.ep hb).diagAddr ∧
    (∀ off, off < spaceEnd → (writeDiagAddr hb off s).bar2Read hb 8 = (writeDiagAddr hb off s).wordOn (if hb then 4 else 3) (off / 8 * 8)) ∧
    (∀ off, spaceEnd ≤ off → off < 2 ^ 64 → (writeDiagAddr hb off s).bar2Read hb 8 = 0)) ∧
  (∀ (s : State), s.sys.power = 3 → (s.sys.stage = 3 ∨ s.sys.stage = 5) → s.pair.fwLate = false →
    Gives .firmwareHeartbeat s { s.fresh with sys := { s.sys with beats := (s.sys.beats + 1) % 2 ^ 32 } }) ∧
  (∀ (hb : Bool) (s : State), s.sys.power = 3 →
    Gives (.pcieReset hb) s (ringReset hb s.fresh))

/-- Register writes with a meaning of their own, in time, position, line phase and lane speed: within its range each writes its
words and does what follows from it; beyond it nothing changes. -/
def Obligations.TimeAndPositionRegisterWrites : Prop :=
  (∀ (ppb : Nat) (s : State), s.Running → 1 ≤ ppb → ppb ≤ s.rd TIM_SLEW_PPB.f →
    Gives (.timSlewPpb ppb) s (clampSlew (s.fresh.wr TIM_SLEW_PPB.f ppb))) ∧
  (∀ (ppb : Nat) (s : State), s.Running → (ppb = 0 ∨ s.rd TIM_SLEW_PPB.f < ppb) → Gives (.timSlewPpb ppb) s s.fresh) ∧
  (∀ (freeze : Nat) (s : State), s.Running → freeze ≤ 1 → Gives (.timFreeze freeze) s (s.fresh.wr TIM_FREEZE.f freeze)) ∧
  (∀ (axle diam ppr : Nat) (s : State), s.Running → axle < 4 → 200000 ≤ diam → diam ≤ 1500000 → 1 ≤ ppr → ppr ≤ 4096 →
    Gives (.posAxnDiamUm axle diam ppr) s
      (newRun axle ((s.fresh.wr (POS_AXn_DIAM_UM.f axle) diam).wr (POS_AXn_PPR.f axle) ppr))) ∧
  (∀ (axle diam ppr : Nat) (s : State), s.Running → (diam < 200000 ∨ 1500000 < diam ∨ ppr = 0 ∨ 4096 < ppr) →
    Gives (.posAxnDiamUm axle diam ppr) s s.fresh) ∧
  (∀ (sys : Nat) (s : State), s.Running → sys ≤ 4 →
    Gives (.posLpSys sys) s
      (lineChange (fun t => restartLine (setLineValid false (t.wr POS_LP_SYS.f sys))) s.fresh)) ∧
  (∀ (pe speed ext : Nat) (s : State), s.Running → pe < 4 → speedOk speed ext = true →
    Gives (.bkbPepCtlSpeed pe speed ext) s
      ((List.range 4).foldl (fun t l => untrain (4 * pe + l) t)
        ((s.fresh.wr (BKB_PEp_CTL_SPEED.f pe) speed).wr (BKB_PEp_CTL_EXT.f pe) ext))) ∧
  (∀ (pe speed ext : Nat) (s : State), s.Running → speedOk speed ext = false →
    Gives (.bkbPepCtlSpeed pe speed ext) s s.fresh)

/-- Register writes of units: each writes its CFG or mode and settles what follows; a value outside its range changes nothing;
the vehicle ID is written in recovery by class SAFETY alone, and its record waits while no `MRAM` write may start. -/
def Obligations.UnitRegisterWritesSettleTheirUnits : Prop :=
  (∀ (engine cfg : Nat) (s : State), s.Up → engine < 512 →
    Gives (.stlEngeCfg engine cfg) s (writeEngineCfg engine cfg s.fresh)) ∧
  (∀ (domain cfg : Nat) (s : State), s.Up → domain ≤ 183 → cfg ≤ 1 →
    Gives (.ladDdCfg domain cfg) s
      (settleMismatch (unitId 9 domain) (settleDomain domain (s.fresh.wr (LAD_Dd_CFG.f domain) cfg)))) ∧
  (∀ (mac cfg : Nat) (s : State), s.Up → mac ≤ 80 → cfg ≤ 1 → Gives (.macNCfgEn mac cfg) s (writeMacCfg mac cfg s.fresh)) ∧
  (∀ (mac en id count timer burst burstTimer : Nat) (s : State), s.Up →
    plcaOk mac en id count timer burst burstTimer = true →
    Gives (.macNPlcaEn mac en id count timer burst burstTimer) s
      (setPlca mac false (en = 1 && (s.on (MAC_n_PLCA_ACTIVE.f mac) || !s.on (MAC_n_PLCA_EN.f mac)))
        ((((((s.fresh.wr (MAC_n_PLCA_EN.f mac) en).wr (MAC_n_PLCA_ID.f mac) id).wr (MAC_n_PLCA_COUNT.f mac) count).wr
          (MAC_n_PLCA_TO.f mac) timer).wr (MAC_n_PLCA_BURST.f mac) burst).wr (MAC_n_PLCA_BTMR.f mac) burstTimer))) ∧
  (∀ (mac en id count timer burst burstTimer : Nat) (s : State), s.Up →
    plcaOk mac en id count timer burst burstTimer = false →
    Gives (.macNPlcaEn mac en id count timer burst burstTimer) s s.fresh) ∧
  (∀ (vehId : Nat) (s : State), s.sys.power = 3 → s.sys.stage = 5 → s.pair.noMram = false →
    Gives (.glbVehIdSet .safety vehId) s
      (noteWritten 0x130
        { s.fresh.wr GLB_VEH_ID_SET.f vehId with sto :=
            { s.sto with vehId := vehId % 2 ^ 64, installOk := true, vehDue := false } })) ∧
  (∀ (vehId : Nat) (s : State), s.sys.power = 3 → s.sys.stage = 5 → s.pair.noMram = true →
    Gives (.glbVehIdSet .safety vehId) s
      (noteWritten 0x130 { s.fresh.wr GLB_VEH_ID_SET.f vehId with sto := { s.sto with vehDue := true } })) ∧
  (∀ (c : PrivClass) (vehId : Nat) (s : State), (s.sys.stage ≠ 5 ∨ c ≠ .safety) → Gives (.glbVehIdSet c vehId) s s.fresh) ∧
  (∀ (channel mode : Nat) (s : State), s.Up → channel < 256 → mode ≤ 5 → s.fmode channel ≠ mode →
    Gives (.fcMode channel mode) s
      (settleMismatch (unitId 7 channel)
        (syncBank (channel / 32)
          (let t := unguard channel (s.fresh.wr (FC_MODE.f channel) mode)
           if s.dieUp (dieOf channel) then syncChan channel (leaveMode channel t) else t)))) ∧
  (∀ (channel mode : Nat) (s : State), s.Up → 5 < mode → Gives (.fcMode channel mode) s s.fresh) ∧
  (∀ (channel : Nat) (s : State), s.Running → channel < 256 → (s.chan channel).changing = true →
    Gives (.newModeConnect channel) s (connectMode channel s.fresh)) ∧
  (∀ (en mask : Nat) (s : State), s.Up →
    Gives (.redReqEn en mask) s (rehealth ((s.fresh.wr RED_REQ_EN.f en).wr RED_HEALTH_MASK.f mask))) ∧
  (∀ (hb : Bool) (tx rx : Nat) (s : State), s.Up → tx ≤ 1 → rx ≤ 1 →
    Gives (.schHxTxEn hb tx rx) s ((s.fresh.wr (SCH_Hx_TX_EN.f (hx hb)) tx).wr (SCH_Hx_RX_EN.f (hx hb)) rx))

/-- A frame that an enabled, trained lane takes: no receive error, the Ethernet header of its kind, and header version 1 (R73,
R308). -/
structure Sys2Proof.Claims.Arrives (rx : RxBb) (s : State) : Prop where
  running : s.Running
  on : s.laneOn rx.mac = true
  trained : (s.lane rx.mac).trained = true
  clean : rxError rx.len 4200 rx.fcsOk rx.symOk = none
  version : rx.frame.version = 1
  addressed : addressed rx.frame = true

/-- Field links and the power link: a good frame restarts the count of misses, its measurements and the cab level are taken, and
the output image is sent; a bad one counts a CRC error, on a lost link and on the power link too, and the third running takes a
field link down; a lost link counts a loss and its channels' states follow; the power link raises `FIELD` die events as it is
lost and returns, and the preference is sent again when it returns; a loss of a link that is down and a return of one that is up
change nothing. -/
def Obligations.FieldAndPowerLinksCountLossesAndReturn : Prop :=
  (∀ (die senses : Nat) (meas : List ChanMeas) (s : State), s.Running → die < 2 → s.dieUp die = true →
    Gives (.fieldLinkFrame die true senses meas) s
      (let s1 : State := { s.fresh with fld := { s.fld with missed := putAt die 0 s.fld.missed } }
       let s2 := (meas.filter (fun m => m.channel < 256 && dieOf m.channel == die)).foldl (fun t m => takeMeas m t) s1
       let s3 : State := if die = 0 then { s2 with hst := { s2.hst with cabActive := bit senses 2 } } else s2
       s3.emit (.fieldFrame die (s3.outputImage die)))) ∧
  (∀ (die senses : Nat) (meas : List ChanMeas) (s : State), s.Running → die < 2 → s.dieUp die = true →
    s.fld.missed.getD die 0 + 1 < 3 →
    Gives (.fieldLinkFrame die false senses meas) s
      { s.fresh.inc (GLB_LINKl_CRC.f die) with fld :=
          { s.fld with missed := putAt die (s.fld.missed.getD die 0 + 1) s.fld.missed } }) ∧
  (∀ (die senses : Nat) (meas : List ChanMeas) (s : State), s.Running → die < 2 → s.dieUp die = true →
    3 ≤ s.fld.missed.getD die 0 + 1 →
    Gives (.fieldLinkFrame die false senses meas) s
      (rehealth (loseFieldLink die
        { s.fresh.inc (GLB_LINKl_CRC.f die) with fld :=
            { s.fld with missed := putAt die (s.fld.missed.getD die 0 + 1) s.fld.missed } }))) ∧
  (∀ (die senses : Nat) (meas : List ChanMeas) (s : State), s.Running → die ≤ 2 → (die = 2 ∨ s.dieUp die = false) →
    Gives (.fieldLinkFrame die false senses meas) s (s.fresh.inc (GLB_LINKl_CRC.f die)) ∧
    Gives (.fieldLinkFrame die true senses meas) s s.fresh) ∧
  (∀ (die : Nat) (s : State), s.Running → die < 2 → s.dieUp die = true →
    Gives (.fieldLinkLost die) s
      (let s1 := (setFieldLink die false s.fresh).inc (GLB_LINKl_LOSS.f die)
       rehealth ((s1.dieChans die).foldl (fun t c => t.setOper (unitId 7 c) (t.chanOper c)) s1))) ∧
  (∀ (die : Nat) (s : State), s.Running → die < 2 → s.dieUp die = false →
    Gives (.fieldLinkLost die) s (rehealth s.fresh)) ∧
  (∀ (die : Nat) (s : State), s.Running → die < 2 →
    Gives (.fieldLinkUp die) s (rehealth (raiseFieldLink die s.fresh))) ∧
  (∀ (s : State), s.sys.power = 3 → s.on PWR_LINK_UP.f = true →
    Gives .pwrLinkLost s
      (((((s.fresh.wr PWR_LINK_UP.f 0).wr (GLB_LINKl_UP.f 2) 0).inc (GLB_LINKl_LOSS.f 2)).setOper (unitId 0x0A 2) 2).raise
        0x0801 (unitId 0x0A 2) [])) ∧
  (∀ (s : State), s.sys.power = 3 → s.on PWR_LINK_UP.f = false →
    Gives .powerLinkReturn s
      (let s1 := ((s.fresh.wr PWR_LINK_UP.f 1).wr (GLB_LINKl_UP.f 2) 1).setOper (unitId 0x0A 2) 1
       writePrefer (s1.rd PWR_PREFER.f) ((syncPwr s1).raise 0x0801 (unitId 0x0A 2) [] true))) ∧
  (∀ (s : State), s.sys.power = 3 →
    (s.on PWR_LINK_UP.f = false → Gives .pwrLinkLost s s.fresh) ∧
    (s.on PWR_LINK_UP.f = true → Gives .powerLinkReturn s s.fresh))

/-- Memory errors, reference clocks and mismatches: each error is counted under its memory (a corrected one of DRAM or `MRAM`
below rung Run with those that wait; the memory with parity alone has none), an uncorrectable one is then handled by
`memoryError` of its place: a stored value or map entry is marked faulty, a recorder record damaged, an event entry's state
FAULT with its event; a lost or returned reference clock moves its OPER and raises `REFCLK_LOST` set or cleared; a unit found
inconsistent raises `STATE_MISMATCH` once. -/
def Obligations.ErrorsClocksAndMismatchesAreCountedAndRaised : Prop :=
  (∀ (memory : Nat) (s : State), 2 ≤ s.sys.power → memory ≤ 8 → memory ≠ 5 →
    (memory < 7 ∨ s.rd (LAD_Dd_RUNG.f (171 + memory)) = 0) →
    Gives (.correctedError memory) s (s.fresh.inc (GLB_MEMm_CORR.f memory))) ∧
  (∀ (memory : Nat) (s : State), 2 ≤ s.sys.power → (memory = 7 ∨ memory = 8) → s.rd (LAD_Dd_RUNG.f (171 + memory)) ≠ 0 →
    Gives (.correctedError memory) s
      { s.fresh with lad := { s.lad with corrected := modifyAt (memory - 7) (· + 1) s.lad.corrected } }) ∧
  (∀ (place : MemPlace) (s : State), 2 ≤ s.sys.power →
    Gives (.uncorrectableError place) s (memoryError place (s.fresh.inc (GLB_MEMm_UNCORR.f (memoryOf place))))) ∧
  (∀ (i : Nat) (s : State), s.Running →
    Gives (.uncorrectableError (.value i)) s
      (let t := s.fresh.inc (GLB_MEMm_UNCORR.f (memoryOf (.value i)))
       { t with sig := { t.sig with valueFaults := i :: t.sig.valueFaults.filter (· != i) } })) ∧
  (∀ (i : Nat) (s : State), s.Running →
    Gives (.uncorrectableError (.mapEntry i)) s
      (let t := s.fresh.inc (GLB_MEMm_UNCORR.f (memoryOf (.mapEntry i)))
       { t with sig := { t.sig with mapFaults := i :: t.sig.mapFaults.filter (· != i) } })) ∧
  (∀ (q : Nat) (s : State), 2 ≤ s.sys.power →
    Gives (.uncorrectableError (.record q)) s
      (let t := s.fresh.inc (GLB_MEMm_UNCORR.f (memoryOf (.record q)))
       { t with sto := { t.sto with ring := t.sto.ring.map (fun r => if r.seq == q then { r with damaged := true } else r) } })) ∧
  (∀ (i : Nat) (e : EvEntry) (s : State), s.Running → s.event i = some e →
    Gives (.uncorrectableError (.event i)) s
      ((dropBound i true ((s.fresh.inc (GLB_MEMm_UNCORR.f (memoryOf (.event i)))).wr (SCH_EVi_STATE.f i) 5)).raise 0x0401 0
        (toBE 2 i))) ∧
  (∀ (place : MemPlace) (memory : Nat) (s : State), s.sys.power < 2 →
    Gives (.uncorrectableError place) s s.fresh ∧ Gives (.correctedError memory) s s.fresh) ∧
  (∀ (k : Nat) (s : State), s.sys.power = 3 → k ≤ 1 →
    (s.clockLost k = true → Gives (.refclkLost k) s s.fresh) ∧
    (s.clockLost k = false → Gives (.refclkReturn k) s s.fresh)) ∧
  (∀ (unit : Nat) (s : State), s.Running → (s.consistent unit = true ∨ s.sys.mismatch.contains unit = true) →
    Gives (.stateMismatch unit) s s.fresh) ∧
  (∀ (k : Nat) (s : State), s.sys.power = 3 → k ≤ 1 → s.clockLost k = false →
    Gives (.refclkLost k) s
      (((setClockLost k true s.fresh).setOper (unitId 0x0B k) 2).raise 0x0302 (unitId 0x0B k)
        (toBE 1 (if s.clockLost (1 - k) then 2 else 1 - k)))) ∧
  (∀ (k : Nat) (s : State), s.sys.power = 3 → k ≤ 1 → s.clockLost k = true →
    Gives (.refclkReturn k) s
      (((setClockLost k false s.fresh).setOper (unitId 0x0B k) 1).raise 0x0302 (unitId 0x0B k) (toBE 1 (1 - k)) true)) ∧
  (∀ (unit : Nat) (s : State), s.Running → s.consistent unit = false → s.sys.mismatch.contains unit = false →
    Gives (.stateMismatch unit) s
      (let t : State := { s.fresh with sys := { s.sys with mismatch := s.sys.mismatch ++ [unit] } }
       t.raise 0x0101 unit (toBE 1 (s.cfgOf unit) ++ toBE 1 (s.operOf unit)) false))

/-- Lanes: a trained lane with the plane-end's speed has its link up; a loss is timed from its report, counted as a burst or a
disturbance-window burst when it ends unqualified, and takes the link down and voids the delay when it qualifies; a lane that
kept its speed long enough is no longer recovering; a lane state frame tells the neighbour which lanes are good, and waits while
the lane is not in a gap. -/
def Obligations.LanesTrainLoseAndRecover : Prop :=
  (∀ (mac speed : Nat) (s : State), s.Running → s.laneOn mac = true → speed ≤ 2 →
    ((s.lane mac).trained = false ∨ (s.lane mac).qualified = true) →
    Gives (.laneTrained mac speed) s
      (withGroup (mac / 4) 0 (fun t =>
        setLink mac (speed == s.rd (BKB_PEp_CTL_SPEED.f (mac / 4))) (t.groupCode (mac / 4))
          ((clearDelay mac t).setLane mac (fun x =>
            { x with trained := true, speed := speed, inLoss := false, qualified := false }))) s.fresh)) ∧
  (∀ (mac : Nat) (s : State), s.Running → s.laneOn mac = true → (s.lane mac).trained = true →
    (s.lane mac).inLoss = false →
    Gives (.laneLossReport mac) s
      (s.fresh.setLane mac (fun x =>
        { x with inLoss := true, lossStart := s.clk.now, lossInWindow := s.inWindow (mac / 4) s.clk.now }))) ∧
  (∀ (mac : Nat) (s : State), s.Running → s.laneOn mac = true → (s.lane mac).inLoss = true →
    (s.lane mac).qualified = false → (s.lane mac).lossInWindow = true →
    Gives (.laneLossEnd mac) s
      ((s.fresh.setLane mac (fun x => { x with inLoss := false })).inc (BKB_PEp_Ll_DWERR.f (mac / 4) (mac % 4)))) ∧
  (∀ (mac : Nat) (s : State), s.Running → s.laneOn mac = true → (s.lane mac).inLoss = true →
    (s.lane mac).qualified = false → (s.lane mac).lossInWindow = false →
    Gives (.laneLossEnd mac) s
      (countError mac s.clk.up
        ((s.fresh.setLane mac (fun x => { x with inLoss := false })).inc (BKB_PEp_Ll_BURST.f (mac / 4) (mac % 4))))) ∧
  (∀ (mac : Nat) (s : State), s.Running → s.laneOn mac = true → (s.lane mac).inLoss = true →
    (s.lane mac).qualified = true →
    Gives (.laneLossEnd mac) s
      (withGroup (mac / 4) 0 (fun t =>
        setLink mac ((s.lane mac).trained && (s.lane mac).speed == t.rd (BKB_PEp_CTL_SPEED.f (mac / 4)))
          (t.groupCode (mac / 4)) (t.setLane mac (fun x => { x with inLoss := false, qualified := false }))) s.fresh)) ∧
  (∀ (mac : Nat) (s : State), s.Running → s.laneOn mac = true → (s.lane mac).inLoss = true →
    (s.lane mac).qualified = false →
    Gives (.lossQualified mac) s
      (withGroup (mac / 4) 0 (fun t =>
        setLink mac false 0 (clearDelay mac ((t.inc (BKB_PEp_Ll_QLOSS.f (mac / 4) (mac % 4))).setLane mac (fun x =>
          { x with qualified := true, recovering := true })))) s.fresh)) ∧
  (∀ (mac : Nat) (s : State), s.Running → s.laneOn mac = true → (s.lane mac).recovering = true →
    (s.lane mac).trained = true → (s.lane mac).inLoss = false →
    (s.lane mac).speed = s.rd (BKB_PEp_CTL_SPEED.f (mac / 4)) →
    Gives (.laneRecover mac) s
      (withGroup (mac / 4) 0 (fun t =>
        let t1 := t.setLane mac (fun x => { x with recovering := false })
        if t1.on (BKB_PEp_Ll_DEGRADED.f (mac / 4) (mac % 4)) then
          (t1.wr (BKB_PEp_Ll_DEGRADED.f (mac / 4) (mac % 4)) 0).raise 0x0506 (unitId 3 (mac / 4))
            (toBE 1 (mac % 4) ++ toBE 1 0)
        else t1) s.fresh)) ∧
  (∀ (mac : Nat) (s : State), s.Running → s.laneOn mac = true → (s.lane mac).trained = true → s.laneGap mac = false →
    Gives (.laneStateFrameSend mac) s (holdGap mac .laneState s.fresh)) ∧
  (∀ (mac : Nat) (s : State), s.Running → s.laneOn mac = true → (s.lane mac).trained = true → s.laneGap mac = true →
    Gives (.laneStateFrameSend mac) s
      (sendLane mac (localFrame s.fresh 8
        (toBE 1 (laneMask (s.rxGood (mac / 4))) ++ toBE 1 (s.rd (BKB_PEp_TABLE.f (mac / 4))) ++ zeros 28)) s.fresh))

/-- Frames that end where they arrive: a good frame of a trained lane wakes the lane, is counted, and reaches the unit of its
kind: lane state, Pennant, startup, provisional schedule, delay exchange, or the Hoist control frame of its type. -/
def Obligations.LocalFramesReachTheirUnits : Prop :=
  (∀ (rx : RxBb) (s : State), Arrives rx s → rx.frame.linkLocal = true →
    Gives (.laneStateFrameReceive rx) s
      (takeLsf rx.mac { rx.frame with kind := 8 } (countRx rx.mac rx.len 1 false (wake rx.mac s.fresh))) ∧
    Gives (.provisionalFrameReceive rx) s
      (takeProvisional (rx.mac / 4) { rx.frame with kind := 5 } (countRx rx.mac rx.len 1 false (wake rx.mac s.fresh))) ∧
    Gives (.startupFrameReceive rx) s
      (takeStartup (rxAsKind rx 3) (countRx rx.mac rx.len 1 false (wake rx.mac s.fresh)))) ∧
  (∀ (rx : RxBb) (s : State), Arrives rx s → rx.frame.linkLocal = true →
    ((countRx rx.mac rx.len 1 false (wake rx.mac s.fresh)).laneDelay rx.mac).isSome = true →
    Gives (.pennantReceive rx) s
      (takePennant (rxAsKind rx 0) (countRx rx.mac rx.len 1 false (wake rx.mac s.fresh)))) ∧
  (∀ (rx : RxBb) (s : State), Arrives rx s → rx.frame.linkLocal = true →
    Gives (.delayRequestReceive rx) s (receiveDx (rxAsDelay rx 1) (countRx rx.mac rx.len 1 false (wake rx.mac s.fresh))) ∧
    Gives (.delayResponseReceive rx) s (receiveDx (rxAsDelay rx 2) (countRx rx.mac rx.len 1 false (wake rx.mac s.fresh))) ∧
    Gives (.delayFollowUpReceive rx) s (receiveDx (rxAsDelay rx 3) (countRx rx.mac rx.len 1 false (wake rx.mac s.fresh)))) ∧
  (∀ (rx : RxBb) (s : State), Arrives rx s →
    let hoist (typ : Nat) : State :=
      takeHoist (rx.mac / 4) (rxAsHoist rx typ).frame (countRx rx.mac rx.len 1 false (wake rx.mac s.fresh))
    Gives (.triggerFrame rx) s (hoist 1) ∧ Gives (.topologyFrame rx) s (hoist 2) ∧ Gives (.recordFrame rx) s (hoist 3) ∧
    Gives (.proposalFrame rx) s (hoist 4) ∧ Gives (.readyFrame rx) s (hoist 5) ∧ Gives (.refuseFrame rx) s (hoist 6) ∧
    Gives (.commitFrame rx) s (hoist 7) ∧ Gives (.strikeFrame rx) s (hoist 8) ∧ Gives (.yieldFrame rx) s (hoist 9) ∧
    Gives (.sleepAckFrame rx) s (hoist 10))

/-- Frames of the ring: a frame with a bad header, an Ethernet header that is not its kind's among them, is discarded and
counted; a lane of a plane-end that is not THROUGH discards forwarded kinds and counts them; a good bridge frame, position
report or other frame of the ring goes to the ring's judgement; a symbol error is classed before any other. -/
def Obligations.RingFramesAreJudged : Prop :=
  (∀ (rx : RxBb) (s : State), Arrives rx s → rx.frame.linkLocal = false →
    (wake rx.mac s.fresh).through (rx.mac / 4) = true →
    Gives (.bridgeFrameReceive rx) s (ringReceive (rxAsKind rx 6) (wake rx.mac s.fresh)) ∧
    Gives (.positionReportReceive rx) s (ringReceive (rxAsReport rx) (wake rx.mac s.fresh)) ∧
    ((rx.frame.kind = 0 ∨ rx.frame.kind = 1 ∨ rx.frame.kind = 2 ∨ rx.frame.kind = 6) →
      Gives (.backboneFrameReceive rx) s (ringReceive rx (wake rx.mac s.fresh)))) ∧
  (∀ (rx : RxBb) (s : State), s.Running → s.laneOn rx.mac = true → (s.lane rx.mac).trained = true →
    rxError rx.len 4200 rx.fcsOk rx.symOk = none → (rx.frame.version ≠ 1 ∨ 8 < rx.frame.kind ∨ addressed rx.frame = false) →
    Gives (.backboneFrameReceive rx) s (stat rx.mac 22 1 ((wake rx.mac s.fresh).inc BKB_HDR_DISC.f))) ∧
  (∀ (rx : RxBb) (s : State), Arrives rx s → rx.frame.kind ≤ 8 → (wake rx.mac s.fresh).through (rx.mac / 4) = false →
    rx.frame.linkLocal = false → rx.frame.kind ≠ 4 →
    Gives (.backboneFrameReceive rx) s (stat rx.mac 28 1 ((wake rx.mac s.fresh).inc BKB_LOOPED_DISC.f))) ∧
  (∀ (rx : RxBb) (s : State), s.Running → s.laneOn rx.mac = true → (s.lane rx.mac).trained = true → rx.symOk = false →
    Gives (.backboneFrameReceive rx) s (erroredReceive rx 17 (wake rx.mac s.fresh)))

/-- Slots and phases: the own slot frame is composed once at its content cutoff with the slot header Table 04-5 gives; a frame
that waits goes out within 200 ns of its slot's instant on the lane the slot table names, its buffer let go; it is skipped where
the bank may not be used or names no lane, dropped and counted where the lane is out of the group, and skipped and counted once
past; the message phase starts once a cycle; a boundary turns the cycle in the order the model fixes (log entry 24); a
disturbance window is active from its start and gone at its end, when it is kept with the closed ones. -/
def Obligations.SlotsAndPhasesKeepTheirTimes : Prop :=
  (∀ (n : Nat) (x : Slot) (fallback : Bool) (s : State), s.Running → s.slot n = some x → s.originates x = some fallback →
    Gives (.slotContentCutoff n) s
      (let (st, data, time, late) := s.slotContent x
       let body := toBE 4 s.cycle ++ toBE 2 (x.len - 66) ++ toBE 1 (st + 4 * b2n fallback) ++ s.windowReports ++ toBE 8 time ++ data
       let s1 : State := { s.fresh with tcy := { s.tcy with cut := n :: s.tcy.cut } }
       let s2 := if late then s1.inc TCY_LATE_PUBLISH.f else s1
       holdSlot { ringFrame s2 1 s.bkb.seq body with slot := n } s2)) ∧
  (∀ (n p t : Nat) (w : SlotOut) (s : State), s.Running → s.slotWaiting n p = some w → s.slotAt n p = some t →
    t ≤ s.clk.now → s.clk.now ≤ t + 200 → s.slotsOn = true → (s.tcy.mismatch = false ∨ n = 0) → s.slotLane p n ≠ 255 →
    s.inGroup p (s.slotLane p n) = true → w.frame.kind ≠ 0 →
    Gives (.slotEgress n p) s
      (unref w.buf (countTx (4 * p + s.slotLane p n) (wireLen (.bb w.frame)) 1
        ((dropWaiting w s.fresh).emit (.lane (4 * p + s.slotLane p n) w.frame))))) ∧
  (∀ (n p t : Nat) (w : SlotOut) (s : State), s.Running → s.slotWaiting n p = some w → s.slotAt n p = some t →
    t ≤ s.clk.now → s.clk.now ≤ t + 200 → (s.slotsOn = false ∨ (s.tcy.mismatch = true ∧ n ≠ 0) ∨ s.slotLane p n = 255) →
    Gives (.slotEgress n p) s (skipSlot w s.fresh)) ∧
  (∀ (n p t : Nat) (w : SlotOut) (s : State), s.Running → s.slotWaiting n p = some w → s.slotAt n p = some t →
    t ≤ s.clk.now → s.clk.now ≤ t + 200 → s.slotsOn = true → (s.tcy.mismatch = false ∨ n = 0) → s.slotLane p n ≠ 255 →
    s.inGroup p (s.slotLane p n) = false →
    Gives (.slotEgress n p) s
      (unref w.buf (stat (4 * p + s.slotLane p n) 60 1 ((dropWaiting w s.fresh).inc (BKB_PEp_LANEDROP.f p))))) ∧
  (∀ (n p t : Nat) (w : SlotOut) (s : State), s.Running → s.slotWaiting n p = some w → s.slotAt n p = some t →
    t + 200 < s.clk.now → s.slotLane p n < 4 →
    Gives (.slotSkip n p) s
      (unref w.buf (stat (4 * p + s.slotLane p n) 55 1 ((dropWaiting w s.fresh).inc TCY_SKIP.f)))) ∧
  (∀ (s : State), s.Running → s.keepsCycle = true → s.tcy.phaseDone = false → s.inMsgPhase = true →
    Gives .messagePhaseStart s
      (bridgePhase (reportPhase (hoistPhase { s.fresh with tcy := { s.tcy with phaseDone := true } })))) ∧
  (∀ (s : State), s.Running → s.keepsCycle = true → s.tcy.start + s.rd TCY_CYCLE_NS.f ≤ s.clk.now →
    Gives .cycleBoundary s
      (let s2 := applyStep (nextCycle (clearWaiting (if s.isLead then designate s.cycle s.fresh else s.fresh)))
       let s3 := (List.range 4).foldl (fun t p => flipLanes (s2.upAt s2.tcy.start) p t) (applyDue s2)
       let s6 := sleepBoundary (yieldRestart (leadBoundary (hoistBoundary (overlapBoundary (applySwitch (profileBoundary s3))))))
       if s6.sys.power != 3 || !s6.keepsCycle then s6 else openCycle s6)) ∧
  (∀ (w : Nat) (s : State), s.Running → w < 16 → s.on (BKB_DW_n_VALID.f w) = true →
    Gives (.disturbWindowOpen w) s (s.fresh.wr (BKB_DW_n_ACTIVE.f w) 1)) ∧
  (∀ (w : Nat) (x : Nat × Nat × Nat) (s : State), s.Running → w < 16 → s.window w = some x →
    Gives (.disturbWindowEnd w) s
      (let t := ((holdWindow w 0 0 0 0 0 s.fresh).wr (BKB_DW_n_ACTIVE.f w) 0).wr (BKB_DW_n_VALID.f w) 0
       { t with bkb := { t.bkb with
           closed := x :: s.bkb.closed.filter (fun y => compactDiff s.ts y.1 < y.2.1 + 1000000) } }))

/-- A node in state `st` of Table 04-7 judges the Pennant of its cycle: it has accepted none, has not judged yet, and the message
phase has begun (R133). -/
structure Sys2Proof.Claims.Judges (st : Nat) (s : State) : Prop where
  running : s.Running
  state : s.rd TCY_STATE.f = st
  none : s.tcy.acceptedNow = false
  first : s.tcy.missedNow = false
  due : s.msgStart ≤ s.clk.now

/-- Cold start and loss of the Lead. With an image's cycle section and a neighbour a node leaves OFF and listens. When the
listen timer expires, a cold-start node that has heard something listens on, and one that has heard nothing draws its backoff;
after the backoff it sends its startup frames and contends, and after an undisturbed contest it leads from cycle 0; in any other
state the three timers do nothing. A missing Pennant counts in SYNC, zeroes the consistency count in REFUSING, and ends the run
of good ones; the second in a row marks the Lead lost, which strikes a pending Hoist; an INTEGRATING node returns to LISTEN at
the second, and a node in SYNC or SILENT at the number of `TCY_LOST_CYCLES`; a Pennant that is not due or not missing changes
nothing. -/
def Obligations.ColdStartAndLossFollowTheCycleStates : Prop :=
  (∀ (s : State), s.Running → s.rd TCY_STATE.f = 0 →
    (bit (s.rd GLB_IMAGE_SECTIONS.f) 1 = true ∨ bit (s.rd GLB_CFG_SOURCE.f) 1 = true) →
    s.presentEnds.isEmpty = false → Gives .listenStart s (toListen s.fresh)) ∧
  (∀ (s : State), s.Running →
    (s.rd TCY_STATE.f ≠ 0 ∨ s.presentEnds.isEmpty = true ∨
      (bit (s.rd GLB_IMAGE_SECTIONS.f) 1 = false ∧ bit (s.rd GLB_CFG_SOURCE.f) 1 = false)) →
    Gives .listenStart s s.fresh) ∧
  (∀ (s : State), s.Running → s.rd TCY_STATE.f = 1 → s.on TCY_COLD_CAP.f = true → s.tcy.heard = false →
    Gives .listenTimerExpiry s
      (enterState 2 { s.fresh with tcy :=
        { s.tcy with lfsr := lfsrDraw s.tcy.lfsr, backoff := lfsrDraw s.tcy.lfsr % 256 } })) ∧
  (∀ (s : State), s.Running → s.rd TCY_STATE.f = 1 → s.on TCY_COLD_CAP.f = true → s.tcy.heard = true →
    Gives .listenTimerExpiry s { s.fresh with tcy := { s.tcy with heard := false } }) ∧
  (∀ (s : State), s.Running → (s.rd TCY_STATE.f ≠ 1 ∨ s.on TCY_COLD_CAP.f = false) →
    Gives .listenTimerExpiry s s.fresh) ∧
  (∀ (s : State), s.Running → s.rd TCY_STATE.f = 2 →
    Gives .backoffExpiry s
      (let f := localFrame s.fresh 3 (toBE 8 (s.rd HST_UID.f) ++ toBE 4 (s.rd TCY_CYCLE_NS.f) ++ toBE 2 (s.rd TCY_CFG_ID.f) ++
         zeros 2 ++ toBE 6 (s.clk.now / 1000000000) ++ toBE 4 (s.clk.now % 1000000000) ++ zeros 14)
       let s1 := enterState 3 (hearStartup (s.rd HST_UID.f) s.clk.now s.fresh)
       (s1.presentEnds.foldl (fun t p => sendLocal p f t) s1).inc TCY_STARTUP_TX.f)) ∧
  (∀ (s : State), s.Running → s.rd TCY_STATE.f ≠ 2 → Gives .backoffExpiry s s.fresh) ∧
  (∀ (s : State), s.Running → s.rd TCY_STATE.f = 3 →
    Gives .contestTimerExpiry s
      (let s1 := clearTrain s.fresh
       let s2 : State := { s1 with tcy := { s1.tcy with start := ceil100 s.clk.now, bootstrap := true, successor := false,
                                                        missed := 0, missedNow := false, cut := [], phaseDone := false,
                                                        mismatch := false } }
       let s3 := (((takeCounts s2).wr TCY_CYCLE_NUM.f 0).wr TCY_LEAD_UID.f (s2.rd HST_UID.f)).wr TCY_LEAD_NODE.f 0
       leadCycle (enterLeadMachine 4 (enterState 6 (raiseLeadChange 0 0 0 0 (s3.wr TCY_ALIGN_ERR_NS.f 0)))))) ∧
  (∀ (s : State), s.Running → s.rd TCY_STATE.f ≠ 3 → Gives .contestTimerExpiry s s.fresh) ∧
  (∀ (s : State), s.Running →
    (s.rd TCY_STATE.f ∉ [4, 5, 7, 8] ∨ s.tcy.acceptedNow = true ∨ s.tcy.missedNow = true ∨ s.clk.now < s.msgStart) →
    Gives .pennantMissed s s.fresh) ∧
  (∀ (s : State), Judges 4 s → s.tcy.missed + 1 < 2 → Gives .pennantMissed s (notePennantMissed s.fresh)) ∧
  (∀ (s : State), Judges 4 s → 2 ≤ s.tcy.missed + 1 → s.on TCY_LEAD_LOST.f = true →
    Gives .pennantMissed s (toListen (notePennantMissed s.fresh))) ∧
  (∀ (s : State), Judges 5 s → (s.tcy.missed + 1 < 2 ∨ s.on TCY_LEAD_LOST.f = true) →
    (s.tcy.missed + 1 < s.tcy.lost →
      Gives .pennantMissed s ((notePennantMissed s.fresh).inc TCY_PN_MISSED.f)) ∧
    (s.tcy.lost ≤ s.tcy.missed + 1 →
      Gives .pennantMissed s (toListen ((notePennantMissed s.fresh).inc TCY_PN_MISSED.f)))) ∧
  (∀ (s : State), Judges 7 s → (s.tcy.missed + 1 < 2 ∨ s.on TCY_LEAD_LOST.f = true) →
    (s.tcy.missed + 1 < s.tcy.lost → Gives .pennantMissed s (notePennantMissed s.fresh)) ∧
    (s.tcy.lost ≤ s.tcy.missed + 1 → Gives .pennantMissed s (toListen (notePennantMissed s.fresh)))) ∧
  (∀ (s : State), Judges 8 s → (s.tcy.missed + 1 < 2 ∨ s.on TCY_LEAD_LOST.f = true) →
    Gives .pennantMissed s
      { (notePennantMissed s.fresh).wr TIM_CONSIST_COUNT.f 0 with tim := { s.tim with lastPn := none } }) ∧
  (∀ (s : State), Judges 5 s → 2 ≤ s.tcy.missed + 1 → s.tcy.missed + 1 < s.tcy.lost → s.on TCY_LEAD_LOST.f = false →
    let t := ((notePennantMissed s.fresh).inc TCY_PN_MISSED.f).wr TCY_LEAD_LOST.f 1
    let u : State := { t with tcy := { t.tcy with lostAt := (s.cycle + 2 ^ 32 - 1) % 2 ^ 32 } }
    (s.strikable = false → Gives .pennantMissed s u) ∧
    (∀ p, s.strikable = true → s.hst.proposal = some p → Gives .pennantMissed s (takeStrike p.hoistId 5 u)))

/-- The stages of a Hoist: a coupling sense edge detects at its end; the Lead's join hold, collection, numbering and ready
collection each end by moving `HST_LEAD_STATE` on; a proposed node that has built its shadows installs them and reports ready,
or refuses with its reason; an armed train sleep counts its acknowledgements, and a node alone long enough goes to sleep. -/
def Obligations.HoistStagesCloseInOrder : Prop :=
  (∀ (level : Nat) (s : State), s.Running → level ≤ 1 → b2n s.hst.senseE1 ≠ level →
    Gives (.coupleSenseDebounce 0 level) s (detect 1 0 0 { s.fresh with hst := { s.hst with senseE1 := level == 1 } })) ∧
  (∀ (level : Nat) (s : State), s.Running → level ≤ 1 → b2n s.hst.senseE2 ≠ level →
    Gives (.coupleSenseDebounce 1 level) s (detect 2 0 0 { s.fresh with hst := { s.hst with senseE2 := level == 1 } })) ∧
  (∀ (s : State), s.Running → s.isLead = true → s.rd HST_LEAD_STATE.f = 2 →
    Gives .joinHoldExpiry s (startFresh 6 (noteTrigger 6 { s.fresh with hst := { s.hst with joins := [] } }))) ∧
  (∀ (s : State), s.Running → s.isLead = true → s.rd HST_LEAD_STATE.f = 3 → s.hst.topologySent = true →
    s.hst.collectLeft ≤ 1 → Gives .collectionClose s (s.fresh.wr HST_LEAD_STATE.f 4)) ∧
  (∀ (p : Proposal) (left miss : Nat) (s : State), s.Running → s.isLead = true → s.rd HST_LEAD_STATE.f = 4 →
    makeProposal s.fresh = (p, left, miss) →
    Gives .numberingDone s
      (let s1 := ((s.fresh.incBy HST_OVER_LIMIT.f left).incBy HST_UNPLACED.f miss).wr HST_PROPOSED_LAST.f p.epoch
       { s1.wr HST_LEAD_STATE.f 5 with hst :=
         { s1.hst with leadProposal := some p, proposeReady := true, proposedSinceSwap := true, readies := [],
                       missing := [] } })) ∧
  (∀ (p : Proposal) (r d : Nat) (s : State), s.Running → s.hst.proposal = some p → s.rd HST_STATE.f = 1 →
    s.shadowsBuilt p = false → s.fresh.refusal p (ownSlots s.fresh p) (ownLanes s.fresh p) = some (r, d) →
    Gives .runaheadComplete s (sendRefuse p r d s.fresh)) ∧
  (∀ (p : Proposal) (s : State), s.Running → s.hst.proposal = some p → s.rd HST_STATE.f = 1 →
    s.shadowsBuilt p = false → s.fresh.refusal p (ownSlots s.fresh p) (ownLanes s.fresh p) = none →
    Gives .runaheadComplete s
      (let num := match s.fresh.ownRec p with | some r => r.node | none => 0
       let s1 := s.fresh.setSlotShadow { slots := ownSlots s.fresh p, sched := p.epoch, ready := true, faulty := false }
       tryReady (writeBindings p.recs num { s1 with bkb := { s1.bkb with shadow := ownLanes s.fresh p } }))) ∧
  (∀ (p : Proposal) (s : State), s.Running → s.hst.leadProposal = some p → s.isLead = true →
    s.rd HST_LEAD_STATE.f = 5 → s.hst.proposeReady = false → s.hst.collectLeft ≤ 1 →
    (nodesOf p.recs).all (fun r => s.hst.readies.contains r.uid) = true →
    Gives .readyCollectionClose s
      { s.fresh.wr HST_LEAD_STATE.f 6 with hst :=
          { s.hst with commitAt := none, commitSent := 0, incomplete := false } }) ∧
  (∀ (p : Proposal) (s : State), s.Running → s.hst.leadProposal = some p → s.isLead = true →
    s.rd HST_LEAD_STATE.f = 5 → s.hst.proposeReady = false → s.hst.collectLeft ≤ 1 →
    (nodesOf p.recs).all (fun r => s.hst.readies.contains r.uid) = false → s.mayRetry = true →
    Gives .readyCollectionClose s (retryHoist 3 s.fresh)) ∧
  (∀ (s : State), s.Running → s.isLead = true → s.on LAD_SLEEP_ARMED.f = true →
    (s.cycle + 1) % 2 ^ 32 = s.rd LAD_SLEEP_CYCLE.f → s.msgEnd ≤ s.clk.now →
    Gives .sleepAckClose s
      (let n := s.lad.acks.length + b2n (s.on LAD_SLEEP_EN.f)
       cmdDoneAll 0x0504 (fun _ => true) stOk (fun _ => toBE 2 n) (s.fresh.wr LAD_ACKS.f n))) ∧
  (∀ (s : State), s.Running → s.rd TCY_STATE.f = 1 → s.rd LAD_ORPHAN_S.f ≠ 0 →
    (List.range 4).all (fun p => !s.on (BKB_PEp_PRESENT.f p)) = true →
    Gives .orphanTimeout s (enterBog s.fresh))

/-- Time inputs: the exchange is started on every trained lane and a void one counts; a pulse of the selected edge with time of
day waits for its message, one of the other edge does nothing; a bad message or none drops the pulse and counts `TIM_TOD_BAD`
(of a message that did not come, the row of the command table says so); a lost pulse takes its reference's state; the end of a
good 60 s window qualifies the reference; a PTP master answers a delay request, takes an announce timeout by its decision and
sends `Sync` with its follow-up and `Announce` with its data; a slave takes a one-step `Sync`; `PPS_OUT` pulses where the node's
time admits it. -/
def Obligations.TimeInputsMoveReferencesAndPorts : Prop :=
  (∀ (s : State), s.Running →
    Gives .delayExchangeStart s
      ((List.range 16).foldl (fun t m => if (t.lane m).trained then startDx m t else t) s.fresh)) ∧
  (∀ (mac : Nat) (s : State), s.Running → mac < 16 → (s.dly mac).dx.isSome = true →
    Gives (.delayExchangeVoid mac) s
      ((s.fresh.setDly mac { s.dly mac with dx := none }).inc (TIM_DX_FAIL_PEp_Ll.f (mac / 4) (mac % 4)))) ∧
  (∀ (time : Nat) (s : State), s.Running → s.todOn 0 = true → (s.ref 2).waiting = none →
    Gives (.ppsPulse (2 * b2n (s.ppsFalling 0)) time) s
      (let t := ((time : Int) + s.rdS TIM_PPSA_COMP_NS.f).toNat
       s.fresh.setRef 2 { s.ref 2 with waiting := some (t, s.upAt t), timedOut := false })) ∧
  (∀ (time : Nat) (s : State), s.Running → s.todOn 1 = false →
    Gives (.ppsPulse (1 + 2 * b2n (s.ppsFalling 1)) time) s
      (let t := ((time : Int) + s.rdS TIM_PPSB_COMP_NS.f).toNat
       barePulse 1 t (s.upAt t) s.fresh)) ∧
  (∀ (x time : Nat) (s : State), s.Running → x < 2 → Gives (.ppsPulse (x + 2 * b2n (!s.ppsFalling x)) time) s s.fresh) ∧
  (∀ (x t up : Nat) (b : List Byte) (s : State), s.Running → x < 2 → s.todOn x = true →
    (s.ref (x + 2)).waiting = some (t, up) → (b.length ≠ 16 ∨ beAt b 0 2 ≠ 0xCE54 ∨ beAt b 12 4 ≠ crc32c (b.take 12)) →
    Gives (.todMessage x b) s ((missPulse x s.fresh).inc TIM_TOD_BAD.f)) ∧
  (∀ (x t up : Nat) (b : List Byte) (s : State), s.Running → x < 2 → s.todOn x = true →
    (s.ref (x + 2)).waiting = some (t, up) → b.length = 16 → beAt b 0 2 = 0xCE54 → beAt b 12 4 = crc32c (b.take 12) →
    10000000 ≤ s.clk.now - t → s.clk.now - t ≤ 900000000 → bit (byteAt b 10) 0 = true →
    Gives (.todMessage x b) s
      (let ns : Int := (beAt b 2 6 : Nat) * 1000000000
       let (s1, present) := countPulse x up (s.fresh.setRef (x + 2) { s.ref (x + 2) with waiting := none })
       firstTime ns t (refEvent (x + 2) ns t up present s1))) ∧
  (∀ (x : Nat) (s : State), s.Running → x < 2 → s.todOn x = true → (s.ref (x + 2)).waiting.isSome = true →
    Gives (.todMessageTimeout x) s
      (let t := (missPulse x s.fresh).inc TIM_TOD_BAD.f
       t.setRef (x + 2) { t.ref (x + 2) with timedOut := true })) ∧
  (∀ (x : Nat) (s : State), s.Running → x < 2 → s.refState (x + 2) ≠ 0 →
    Gives (.ppsLossTimeout x) s (toRefState (x + 2) 0 true (s.fresh.setRef (x + 2) refNone))) ∧
  (∀ (r : Nat) (s : State), s.Running → 2 ≤ r → r ≤ 4 → s.refState r = 1 → (s.ref r).bad = false →
    absNat (freqPpt ((s.ref r).lastE - (s.ref r).startE)) ≤ 100000 →
    Gives (.referenceWindowEnd r 60) s
      (anchor r ((s.ref r).anchorRef + ((s.clk.up : Int) - (s.ref r).anchorUp)
          + roundOpen (((s.clk.up : Int) - (s.ref r).anchorUp) * s.rdS TIM_HOLD_FREQ.f + (s.ref r).lastE) (2 ^ 32)) s.clk.up
        (toRefState r 2 true (s.fresh.wr (TIM_REFr_FREQ_PPT.f r)
          (satSigned 32 (freqPpt ((s.ref r).lastE - (s.ref r).startE))))))) ∧
  (∀ (m : PtpMsg) (s : State), s.Running → m.port < 48 → bit (s.rd TIM_PTP_EN.f) m.port = true →
    m.domain = s.rd TIM_PTP_DOMAIN.f → m.kind = 2 → (s.ptpPort m.port).state = 2 →
    Gives (.ptpMessageReceive m) s (s.fresh.emit (.ptp m.port 3 m.seq (compact (m.rxTime - s.qsgRx m.port)) [m.requester]))) ∧
  (∀ (k : Nat) (s : State), s.Running → k < 48 → bit (s.rd TIM_PTP_EN.f) k = true →
    Gives (.announceReceiptTimeout k) s
      (let s1 := s.fresh.setPtp k { s.ptpPort k with best := none }
       setPtpState k (ptpDecide k s1) s1)) ∧
  (∀ (k : Nat) (s : State), s.Running → k < 48 → bit (s.rd TIM_PTP_EN.f) k = true → (s.ptpPort k).state = 2 →
    Gives (.ptpMessageInterval k 4) s
      (let t := s.fresh.emit (.ptp k 4 (s.ptpPort k).sendSeq 0 (s.fresh.ownKey ++ [0]))
       t.setPtp k { t.ptpPort k with sendSeq := ((s.ptpPort k).sendSeq + 1) % 65536 })) ∧
  (∀ (k : Nat) (s : State), s.Running → k < 48 → bit (s.rd TIM_PTP_EN.f) k = true → (s.ptpPort k).state = 2 →
    Gives (.ptpMessageInterval k 0) s
      (let out := compact (s.clk.now + s.rd (TIM_QSGk_TX_NS.f (k / 4)))
       let t := (s.fresh.emit (.ptp k 0 (s.ptpPort k).sendSeq 0 [])).emit (.ptp k 1 (s.ptpPort k).sendSeq out [])
       t.setPtp k { t.ptpPort k with sendSeq := ((s.ptpPort k).sendSeq + 1) % 65536 })) ∧
  (∀ (m : PtpMsg) (s : State), s.Running → m.port < 48 → bit (s.rd TIM_PTP_EN.f) m.port = true →
    m.domain = s.rd TIM_PTP_DOMAIN.f → m.kind = 0 → (s.ptpPort m.port).state = 4 → m.oneStep = true →
    Gives (.ptpMessageReceive m) s (ptpSync m.port (m.rxTime - s.qsgRx m.port) m.time m.correction s.fresh)) ∧
  (∀ (s : State), s.Running → s.ppsOutAllowed = true →
    Gives .ppsOutPulse s ((s.fresh.emit (.pin .ppsOut 1)).emit (.pin .ppsOut 0)))

/-- Position and line phase: a counting edge that comes within 2.5 µs of the one before, or that moves both channels of a
quadrature axle, is a signal fault; an edge of a direction axle that does not count is noted alone; on a direction channel a
rising edge counts one step with its time; the slip check judges every enabled axle, and of two included axles that disagree
both become suspect; the fusion follows the good axles and extrapolates when there is none; a first crossing starts the count,
and a period end unlocks after low amplitudes and locks after eight good periods, and after each change of validity the entries
are evaluated; an armed event whose base is invalid is suspended, else it is evaluated. -/
def Obligations.PositionInputsMoveAxlesFusionAndPhase : Prop :=
  (∀ (e : AxleEdge) (s : State), s.Running → e.axle < 4 → s.axleOn e.axle = true → (s.axle e.axle).seen = true →
    s.axleAge e.axle e.time < 2500 →
    (if bit (s.rd POS_AX_PD.f) e.axle then (s.axle e.axle).a = false ∧ e.a = true
      else e.a ≠ (s.axle e.axle).a ∨ e.b ≠ (s.axle e.axle).b) →
    Gives (.axleEdge e) s (axleFault e s.fresh)) ∧
  (∀ (e : AxleEdge) (s : State), s.Running → e.axle < 4 → s.axleOn e.axle = true →
    bit (s.rd POS_AX_PD.f) e.axle = false → e.a ≠ (s.axle e.axle).a → e.b ≠ (s.axle e.axle).b →
    Gives (.axleEdge e) s (axleFault e s.fresh)) ∧
  (∀ (e : AxleEdge) (s : State), s.Running → e.axle < 4 → s.axleOn e.axle = true → bit (s.rd POS_AX_PD.f) e.axle = true →
    (e.a = false ∨ (s.axle e.axle).a = true) →
    Gives (.axleEdge e) s (s.fresh.setAxle e.axle { s.axle e.axle with a := e.a, b := e.b })) ∧
  (∀ (e : AxleEdge) (s : State), s.Running → e.axle < 4 → s.axleOn e.axle = true → (s.axle e.axle).seen = false →
    bit (s.rd POS_AX_PD.f) e.axle = true → bit (s.rd POS_AX_INV.f) e.axle = false → (s.axle e.axle).a = false → e.a = true →
    Gives (.axleEdge e) s
      (let d : Int := if e.b == Config.highIsForward then 1 else -1
       s.fresh.setAxle e.axle { s.axle e.axle with
         pos := (s.axle e.axle).pos + d * s.axleStep e.axle, te := e.time, dir := d, dt := 0, seen := true, fresh := false,
         step := s.axleStep e.axle, a := e.a, b := e.b })) ∧
  (∀ (s : State), s.Running → s.included.length ≠ 2 →
    Gives .slipCheck s
      ((List.range 4).foldl (fun u n => u.wr (POS_AXn_SUSPECT.f n) 0)
        (((List.range 4).filter (fun n => s.axleOn n)).foldl
          (fun u n => slipAxle n s.clk.now (s.slipRef2 s.clk.now) s.included.length u) s.fresh))) ∧
  (∀ (s : State), s.Running → s.included.length = 2 →
    Gives .slipCheck s
      (s.included.foldl (fun u n => markSuspect (s.included.any (fun n => s.disagrees n s.clk.now (s.slipRef2 s.clk.now)))
          (s.axleVel n s.clk.now) (roundOpen (s.slipRef2 s.clk.now) 2) n u)
        (((List.range 4).filter (fun n => s.axleOn n)).foldl
          (fun u n => slipAxle n s.clk.now (s.slipRef2 s.clk.now) 2 u) s.fresh))) ∧
  (∀ (n : Nat) (v ref : Int) (s : State), s.on (POS_AXn_SUSPECT.f n) = false →
      markSuspect false v ref n s = s ∧
      markSuspect true v ref n s = raiseAxle n 2 v ref false (s.wr (POS_AXn_SUSPECT.f n) 1)) ∧
  (∀ (s : State), s.Running → s.on POS_ODO_CAP.f = true → s.odoGood = true →
    Gives .fusionUpdate s
      (let vel := (s.included.map (fun n => s.axleVel n s.clk.now)).foldl (· + ·) 0
       let p : PosUnit :=
         { s.pos with axles := (List.range 4).map (fun n => { s.axle n with fused := s.axlePos n s.clk.now }),
                      fusedAt := s.clk.now, fused := s.pos.fused + s.increment s.clk.now,
                      vel := s.odoSign * roundOpen vel s.included.length, extrapFrom := none }
       { s.fresh with pos := keepHistory p s.clk.now })) ∧
  (∀ (s : State), s.Running → s.on POS_ODO_CAP.f = true →
    s.included.any (fun n => !s.on (POS_AXn_SUSPECT.f n)) = false → s.pos.extrapFrom = none →
    Gives .fusionUpdate s
      (let p : PosUnit :=
         { s.pos with axles := (List.range 4).map (fun n => { s.axle n with fused := s.axlePos n s.clk.now }),
                      fusedAt := s.clk.now, fused := s.pos.fused + roundOpen s.pos.vel 100000, extrapFrom := some s.clk.up,
                      valid := s.pos.valid && s.clk.up - s.clk.up < s.rd POS_EXTRAP_MS.f * 1000000 }
       { s.fresh with pos := keepHistory p s.clk.now })) ∧
  (∀ (period ampl : Nat) (s : State), s.Running → s.rd POS_LP_SYS.f = 0 → s.pos.pll = false → s.pos.crossings = 0 →
    Gives (.lineCrossing period ampl) s (lineChange (lineCrossing period ampl) s.fresh) ∧
    lineCrossing period ampl s = { s.wr POS_LP_AMPL_MV.f ampl with pos := { s.pos with crossings := 1, intervals := [] } }) ∧
  (∀ (period ampl : Nat) (s : State), s.Running → s.rd POS_LP_SYS.f ≠ 4 → s.pos.pll = true → 0 < period →
    s.bandOk (lineBand (roundOpen 1000000000000 period).toNat) = true →
    Gives (.lineCrossing period ampl) s (lineChange (lineCrossing period ampl) s.fresh) ∧
    lineCrossing period ampl s =
      (s.wr POS_LP_AMPL_MV.f ampl).wr POS_LP_FREQ_MHZ.f (roundOpen 1000000000000 period).toNat) ∧
  (∀ (ampl : Nat) (err : Int) (s : State), s.Running → s.pos.pll = true → ampl < s.rd POS_LP_MIN_MV.f →
    1 ≤ s.pos.lowAmpl → absNat err < 23860929 →
    Gives (.linePeriodEnd ampl err) s (lineChange (linePeriodEnd ampl err) s.fresh) ∧
    linePeriodEnd ampl err s =
      lineUnlock { s.wr POS_LP_AMPL_MV.f ampl with pos :=
        { s.pos with lowAmpl := s.pos.lowAmpl + 1, highErr := 0, goodPeriods := s.pos.goodPeriods + 1,
                     angle := ofSigned 32 err, angleAt := s.clk.up } }) ∧
  (∀ (ampl : Nat) (err : Int) (s : State), s.Running → s.pos.pll = true → s.rd POS_LP_MIN_MV.f ≤ ampl →
    7 ≤ s.pos.goodPeriods → absNat err < 23860929 →
    Gives (.linePeriodEnd ampl err) s (lineChange (linePeriodEnd ampl err) s.fresh) ∧
    linePeriodEnd ampl err s =
      setLineValid true { s.wr POS_LP_AMPL_MV.f ampl with pos :=
        { s.pos with lowAmpl := 0, highErr := 0, goodPeriods := s.pos.goodPeriods + 1,
                     angle := ofSigned 32 err, angleAt := s.clk.up } }) ∧
  (∀ (s : State), s.Running → s.rd POS_LP_SYS.f = 0 → s.pos.pll = false →
    Gives .dcDetect s (lineChange dcDetect s.fresh) ∧
    dcDetect s = restartLine (setLineValid false (s.wr POS_LP_DETECTED.f 4))) ∧
  (∀ (i : Nat) (s : State), s.Running → i < 4096 → Gives (.eventFire i) s (evaluateAll false s.fresh)) ∧
  (∀ (i : Nat) (e : EvEntry) (s : State), s.event i = some e → (s.evState i = 1 ∨ s.evState i = 2) →
    s.baseInvalid (evBase e.bytes) = true →
    evaluate false i s = (s.setEvent { e with haveAngle := false }).wr (SCH_EVi_STATE.f i) 2) ∧
  (∀ (i : Nat) (e : EvEntry) (s : State), s.event i = some e → s.evState i = 1 →
    s.baseInvalid (evBase e.bytes) = false → evAction e.bytes ≠ 3 →
    evaluate false i s = evaluateArmed e false (s.wr (SCH_EVi_STATE.f i) 1))

/-- Host rings and MAC ports: a polled tail in range is taken; a good descriptor's bytes are padded to 60 and queued to its
ports, one whose bytes could not be read is written back with status 0x0013, and the head moves on; a port sends what waits for
a gap and then selects, completes (the time of the copy that started first is the frame's) and drops the copy that first reaches
the age limit it entered with; a frame with a bad FCS counts and a good one is routed; collisions, back-offs that end in a
retry, pauses, link and PLCA changes act on their MAC. -/
def Obligations.HostRingsAndPortsMoveFrames : Prop :=
  (∀ (hb : Bool) (word : Nat) (sizes : List Nat) (s : State), s.Running → s.on (SCH_Hx_TX_EN.f (hx hb)) = true →
    s.on (SCH_Hx_RX_EN.f (hx hb)) = false → bits word 0 16 < 2 ^ s.rd (SCH_Hx_TX_LOG2.f (hx hb)) →
    Gives (.tailWordPoll hb word sizes) s
      (s.fresh.setRings hb { s.rings hb with txTail := bits word 0 16, txStopped := false })) ∧
  (∀ (hb : Bool) (desc : List Byte) (s : State), s.Running → s.on (SCH_Hx_TX_EN.f (hx hb)) = true →
    (s.rings hb).txStopped = false → s.rd (SCH_Hx_TX_HEAD.f (hx hb)) ≠ (s.rings hb).txTail → s.sch.bound.length < 1024 →
    desc.length = 32 → s.descOk desc = true → bit (byteAt desc 23) 0 = false →
    Gives (.transmitDescriptorFetch hb desc none) s
      (let i := s.rd (SCH_Hx_TX_HEAD.f (hx hb))
       let back := bit (byteAt desc 23) 2
       let d := newDesc hb i (leAt desc 20 2)
         (if back then (descPlanes (byteAt desc 23)).length else (bitsOf 80 (leAt desc 10 10)).length)
       txWriteBack d 0x0013
         ((s.fresh.wr (SCH_Hx_TX_HEAD.f (hx hb)) ((i + 1) % 2 ^ s.rd (SCH_Hx_TX_LOG2.f (hx hb)))).inc
           (SCH_Hx_DMA_ERR.f (hx hb))))) ∧
  (∀ (hb : Bool) (desc got : List Byte) (s : State), s.Running → s.on (SCH_Hx_TX_EN.f (hx hb)) = true →
    (s.rings hb).txStopped = false → s.rd (SCH_Hx_TX_HEAD.f (hx hb)) ≠ (s.rings hb).txTail → s.sch.bound.length < 1024 →
    desc.length = 32 → s.descOk desc = true → bit (byteAt desc 23) 0 = false → bit (byteAt desc 23) 2 = false →
    Gives (.transmitDescriptorFetch hb desc (some got)) s
      (let i := s.rd (SCH_Hx_TX_HEAD.f (hx hb))
       let ports := bitsOf 80 (leAt desc 10 10)
       let bytes := fitBytes (leAt desc 8 2) got
       queueHost hb (bytes ++ zeros (60 - bytes.length)) ports (byteAt desc 22 % 8)
         (newDesc hb i (leAt desc 20 2) ports.length)
         (s.fresh.wr (SCH_Hx_TX_HEAD.f (hx hb)) ((i + 1) % 2 ^ s.rd (SCH_Hx_TX_LOG2.f (hx hb)))))) ∧
  (∀ (mac : Nat) (s : State), s.Running → s.portIdle mac = true →
    Gives (.portTransmitSelect mac) s
      (let t := if mac < 16 then sendGaps mac s.fresh else s.fresh
       selectNext mac (t.queueOf mac 8).length t)) ∧
  (∀ (mac : Nat) (c : Copy) (w : Wire) (s : State), s.Running → s.sendingOn mac = some c → s.wireOf c = some w →
    c.queue < 8 →
    Gives (.frameTransmitComplete mac) s
      (let note (d : TxDesc) : TxDesc :=
         if d.sent = 0 ∨ c.started < d.startedAt then
           { d with sent := d.sent ||| 2 ^ portOfMac mac, time := compact c.started, startedAt := c.started,
                    launchLate := false }
         else { d with sent := d.sent ||| 2 ^ portOfMac mac }
       unref c.buf (noteDesc c.buf note (clearAttempts mac (endSending mac
         (countTx mac (wireLen w) (addrKind w) s.fresh)))))) ∧
  (∀ (rx : RxEth) (s : State), s.Running → 16 ≤ rx.mac → rx.mac < 80 → s.on (MAC_n_CFG_EN.f rx.mac) = true →
    s.on (MAC_n_LINK.f rx.mac) = true → s.rd (LAD_Dd_RUNG.f rx.mac) = 0 → rx.symOk = true → 64 ≤ rx.len → rx.fcsOk = false →
    rx.len ≤ s.maxLen rx.mac →
    Gives (.macFrameReceive rx) s (stat rx.mac 16 1 s.fresh)) ∧
  (∀ (rx : RxEth) (s : State), s.Running → 64 ≤ rx.mac → rx.mac < 80 → s.on (MAC_n_CFG_EN.f rx.mac) = true →
    s.on (MAC_n_LINK.f rx.mac) = true → s.rd (LAD_Dd_RUNG.f rx.mac) = 0 → rx.symOk = true → 64 ≤ rx.len → rx.fcsOk = true →
    rx.len ≤ s.maxLen rx.mac → ethType rx.bytes ≠ 0x8808 →
    Gives (.macFrameReceive rx) s (routeRx rx s.fresh)) ∧
  (∀ (mac : Nat) (s : State), s.Running → mac ≤ 80 → s.on (MAC_n_PAUSED.f mac) = true →
    Gives (.pauseExpiry mac) s
      (({ s.fresh with net := { s.net with pauses := s.net.pauses.filter (fun p => p.1 != mac) } }.wr
        (MAC_n_PAUSED.f mac) 0).wr (MAC_n_PAUSE_LEFT.f mac) 0)) ∧
  (∀ (mac q : Nat) (c : Copy) (s : State), s.Running → q < 8 → s.firstAged mac q = some c →
    Gives (.queueAgeExpiry mac q) s (dropCopy c 52 (s.fresh.dequeue c))) ∧
  (∀ (mac link speed : Nat) (half : Bool) (s : State), s.Running → 16 ≤ mac → mac ≤ 80 → s.on (MAC_n_CFG_EN.f mac) = true →
    Gives (.linkStatusChange mac link speed half) s
      (withMt (setLink mac (link == 1 && speedAdmitted mac speed && !(half && mac < 64)) speed) s.fresh)) ∧
  (∀ (mac : Nat) (c : Copy) (s : State), s.Running → s.sendingOn mac = some c → 64 ≤ mac → mac ≤ 79 →
    Gives (.collision mac true) s (dropCopy c 47 (clearAttempts mac (endSending mac (stat mac 46 1 s.fresh)))) ∧
    ((endSending mac (stat mac 46 1 s.fresh)).collisions mac < 15 →
      Gives (.collision mac false) s
        (backOff mac ((endSending mac (stat mac 46 1 s.fresh)).collisions mac + 1) c
          (endSending mac (stat mac 46 1 s.fresh))))) ∧
  (∀ (mac : Nat) (c : Copy) (s : State), s.Running → s.backoffOn mac = some c →
    Gives (.csmaBackoffExpiry mac) s
      (startCopy c { s.fresh with net := { s.net with backoff := s.net.backoff.filter (fun x => x.mac != mac) } })) ∧
  (∀ (mac : Nat) (ok : Bool) (s : State), s.Running → 64 ≤ mac → mac ≤ 79 → s.on (MAC_n_PLCA_EN.f mac) = true →
    Gives (.plcaStatusChange mac ok) s (setPlca mac ok (s.on (MAC_n_PLCA_ACTIVE.f mac) && !ok) s.fresh) ∧
    (s.rd (MAC_n_PLCA_ID.f mac) = 0 → Gives (.plcaBeacon mac) s (stat mac 61 1 s.fresh))) ∧
  (∀ (hb up : Bool) (s : State), s.sys.power = 3 →
    Gives (.pcieLinkChange hb up) s (settleDomains (s.fresh.setEp hb { s.ep hb with link := up })))

/-- Engines and stores: an engine takes the first job it may, counts a rerun, and finishes it; a search moves the batch it
finds, and counts one that finds only what it may not take; an engine is quarantined and tested; a chunk is applied once per
write, and one of an epoch no longer in force is discarded and counted; a cyclic release closes a generation; an exceeded
envelope counts; the recorder and the journal take the record that waits. -/
def Obligations.EnginesAndStoresTakeWhatWaits : Prop :=
  (∀ (e : Nat) (j : Job) (rest : List Job) (s : State), s.Running → e < 512 → (s.engine e).running = none →
    (dropShed e (s.engine e).deque.length s.fresh).mine e = j :: rest →
    Gives (.jobTake e) s
      (let s1 := dropShed e (s.engine e).deque.length s.fresh
       let s2 := s1.setEngine { s1.engine e with
         deque := (s1.engine e).deque.erase j, stolen := (s1.engine e).stolen.filter (· != j.id),
         running := some { job := { j with rerun := false }, done := false, writes := [], triggers := [] } }
       attemptRun e (if j.rerun then s2.inc STL_RERUNS.f else s2))) ∧
  (∀ (e : Nat) (s : State), s.Running → e < 512 → (s.engOper e = 1 ∨ s.engOper e = 6) → s.on STL_STEAL_EN.f = true →
    (s.engine e).running = none → s.ownWork e = [] → (s.engine e).deque.length < 64 →
    searchVictims s.fresh (64 - (s.engine e).deque.length) (searchOrder e (Nat.min 4 (s.rd STL_MAX_HOPS.f))) false =
      (none, true) →
    Gives (.stealSearch e) s (s.fresh.inc STL_STEAL_INELIG.f)) ∧
  (∀ (e v : Nat) (b : List Job) (inelig : Bool) (s : State), s.Running → e < 512 → (s.engOper e = 1 ∨ s.engOper e = 6) →
    s.on STL_STEAL_EN.f = true → (s.engine e).running = none → s.ownWork e = [] → (s.engine e).deque.length < 64 →
    searchVictims s.fresh (64 - (s.engine e).deque.length) (searchOrder e (Nat.min 4 (s.rd STL_MAX_HOPS.f))) false =
      (some (v, b), inelig) →
    Gives (.stealSearch e) s
      (moveBatch e v b (if inelig then s.fresh.inc STL_STEAL_INELIG.f else s.fresh))) ∧
  (∀ (e : Nat) (r : Running) (s : State), s.Running → e < 512 → (s.engine e).running = some r → r.done = true →
    r.triggers = [] →
    Gives (.jobComplete e) s
      (settleEngine e (instDone r.job.inst (handChunks r.job.root r.job.tag.epoch (r.job.staged ++ r.writes)
        (countMiss r.job ((s.fresh.setEngine { s.engine e with running := none }).inc (STL_ENGe_JOBS.f e))))))) ∧
  (∀ (r : RecRecord) (q : List RecRecord) (s : State), s.Running → s.sto.queue = r :: q → s.sto.ring.length < 132120576 →
    (r.seq + 1) % 32768 ≠ 0 →
    Gives .recorderWrite s { s.fresh with sto := { s.sto with queue := q, ring := s.sto.ring ++ [r] } }) ∧
  (∀ (first count : Nat) (s : State), s.Running →
    Gives (.stalenessSweep first count) s
      (pushSweep (Nat.min count (2 ^ 18 - first) / 64 + 1) first (Nat.min count (2 ^ 18 - first)) s.fresh)) ∧
  (∀ (s : State), s.Running → Gives .fieldImagePresent s (presentLoop (presentDigital s.fresh))) ∧
  (∀ (unit layout : Nat) (c : Chunk) (s : State), s.Running →
    s.eng.chunks.find? (fun c => c.layout == 128 * unit + layout) = some c → s.epochLive c.epoch = false →
    Gives (.chunkApply unit layout) s
      (tryReleases (settleOwed c.root (128 * unit + layout)
        (State.inc { s.fresh with eng := { s.eng with chunks := s.eng.chunks.erase c } } SIG_OLD_EPOCH_DISC.f)))) ∧
  (∀ (unit layout : Nat) (c : Chunk) (s : State), s.Running →
    s.eng.chunks.find? (fun c => c.layout == 128 * unit + layout) = some c → s.epochLive c.epoch = true →
    Gives (.chunkApply unit layout) s
      (tryReleases (settleOwed c.root (128 * unit + layout) (c.writes.foldl (fun t w => writeImage w t)
        { s.fresh with eng := { s.eng with chunks := s.eng.chunks.erase c } })))) ∧
  (∀ (unit layout : Nat) (s : State), s.Running → s.layoutOn (128 * unit + layout) = true →
    s.layoutMode (128 * unit + layout) = 1 →
    Gives (.releasePointCyclic unit layout) s (closeGeneration (128 * unit + layout) none s.fresh)) ∧
  (∀ (e cause : Nat) (s : State), s.Running → e < 512 → 1 ≤ cause → cause ≤ 4 → cause ≠ 3 → s.engOper e ≠ 4 →
    (s.engine e).running = none →
    Gives (.engineQuarantine e cause) s
      (setEngOper e 4 ((s.fresh.wr (STL_ENGe_QCAUSE.f e) cause).inc STL_QUARANTINES.f))) ∧
  (∀ (e : Nat) (s : State), s.Running → e < 512 → (s.engine e).testing = true → (s.engine e).running = none →
    (s.engine e).deque = [] →
    Gives (.engineSelftestDone e true) s
      (let s2 := s.fresh.inc STL_SELFTEST_RUNS.f
       advanceTest e 0 (markTest e false
         (if s2.engOper e == 4 && s2.on (STL_ENGe_CFG.f e) then setEngOper e 1 (s2.wr (STL_ENGe_QCAUSE.f e) 0) else s2)))) ∧
  (∀ (s : State), s.Running → s.eng.envelope.any (fun n => s.rd STL_ENV_RECORDS.f < n) = true →
    Gives .envelopeInterval s
      (State.inc { s.fresh with eng := { s.eng with envelope := List.replicate 32 0 } } STL_ENV_EXCEED.f)) ∧
  (∀ (r : JRecord) (s : State), s.sto.inFlight = some r → s.sto.journal.length < 32768 →
    Gives .journalRecordCommitted s
      { s.fresh with sto := { s.sto with journal := s.sto.journal ++ [r], inFlight := none } })

/-- Legacy buses MVB and WTB (what arrives wakes its lines first): the basic period counts modulo 1,024 off mastership; a master
frame of a source port or of the own device status is answered, one good on no enabled line only counts its errors, and an
unknown one counts; a slave frame of a mapped port that is good on an enabled line is delivered and ends its poll, one of a
wrong length only counts its errors, and an unanswered poll counts; mastership is taken over a silent bus; a WTB inauguration
starts and, with the node at one end, fills its registers; process data good on a line goes to its node's entry, and good on
none counts; an own frame without data is zeros; a silent line's link goes down. -/
def Obligations.LegacyBusesReceiveAndTimeOut : Prop :=
  (∀ (c : Nat) (s : State), s.Running → s.mvbOn c = true → s.on (LEG_MVBc_MASTER.f c) = false →
    Gives (.mvbBasicPeriod c) s
      { s.fresh with leg := { s.leg with periods := putAt c ((s.leg.periods.getD c 0 + 1) % 1024) s.leg.periods,
                                         starts := putAt c s.clk.up s.leg.starts } }) ∧
  (∀ (c fcode addr lines : Nat) (s t : State), s.Running → t = mvbWake c lines s.fresh → t.mvbOn c = true →
    (mvbArrive c lines (lines / 4) t).2 = false →
    Gives (.mvbMasterFrameReceive c fcode addr lines) s (mvbArrive c lines (lines / 4) t).1) ∧
  (∀ (c fcode addr lines : Nat) (s t w : State), s.Running → t = mvbWake c lines s.fresh → t.mvbOn c = true →
    w = (mvbArrive c lines (lines / 4) t).1 → (mvbArrive c lines (lines / 4) t).2 = true → 4 < fcode → fcode ≠ 8 → fcode ≠ 15 →
    Gives (.mvbMasterFrameReceive c fcode addr lines) s (w.inc (LEG_MVBc_IGNORED.f c))) ∧
  (∀ (c fcode addr lines : Nat) (s t w : State), s.Running → t = mvbWake c lines s.fresh → t.mvbOn c = true →
    w = (mvbArrive c lines (lines / 4) t).1 → (mvbArrive c lines (lines / 4) t).2 = true →
    (∀ x, fcode ≤ 4 → w.mvbAnswer c fcode addr = some x →
      Gives (.mvbMasterFrameReceive c fcode addr lines) s (sendSlave c fcode addr x w)) ∧
    (fcode ≤ 4 → w.mvbAnswer c fcode addr = none → Gives (.mvbMasterFrameReceive c fcode addr lines) s w) ∧
    (addr = w.rd (LEG_MVBc_DEVADDR.f c) → w.gateOpen (w.mvbGated c) = true →
      Gives (.mvbMasterFrameReceive c 15 addr lines) s
        (let (v, u) := takeFree 16 w
         u.emit (.mvb c 1 15 addr (toBE 2 v))))) ∧
  (∀ (c i lines fcode addr : Nat) (data : List Byte) (goodA goodB : Bool) (s t w : State), s.Running →
    t = mvbWake c lines s.fresh → t.mvbOn c = true → data.length = fcodeBytes fcode →
    w = (mvbArrive c lines (b2n goodA + 2 * b2n goodB) t).1 → (mvbArrive c lines (b2n goodA + 2 * b2n goodB) t).2 = true →
    w.mvbEntry c addr false = some i → w.rd (MP_FCODE.f c i) = fcode →
    Gives (.mvbSlaveFrameReceive c lines fcode addr data goodA goodB) s
      (let u := deliverLegacy (80 + 2 * c) addr data (endSilence 0 c i w)
       match u.leg.polls.getD c [] with
       | [] => u
       | (f, a) :: _ => if f = fcode && a = addr then pollDone c u else u)) ∧
  (∀ (c : Nat) (s : State), s.Running → c < 4 → (s.leg.polls.getD c []).isEmpty = false →
    s.on (LEG_MVBc_MASTER.f c) = true →
    Gives (.mvbReplyTimeout c) s (pollDone c (s.fresh.inc (LEG_MVBc_NOREPLY.f c)))) ∧
  (∀ (c : Nat) (s : State), s.Running → s.mvbOn c = true → s.on (LEG_MVBc_ADMIN.f c) = true →
    s.on (LEG_MVBc_MASTER.f c) = false → s.gateOpen (s.mvbGated c) = true →
    Gives (.mvbSilenceTakeover c) s ((s.fresh.wr (LEG_MVBc_MASTER.f c) 1).inc (LEG_MVBc_TAKEOVERS.f c))) ∧
  (∀ (s t : State), s.Running → t = wakeLegacy [88, 89, 90, 91] s.fresh → t.wtbOn = true → t.rd LEG_WTB_STATE.f = 2 →
    Gives .wtbInaugurationStart s
      ((clearForeign { t with leg := { t.leg with foreignBefore := t.rd LEG_WTB_FOREIGN.f } }).wr LEG_WTB_STATE.f 1)) ∧
  (∀ (w : WtbInaug) (s : State), s.Running → s.rd LEG_WTB_STATE.f = 1 → s.on LEG_WTB_FOREIGN_DIR.f = false →
    s.leg.foreignBefore = 0 → w.dir1 = [] → w.lines = 0 →
    Gives (.wtbInaugurationComplete w) s
      (let s2 := ((((((fillForeign 1 [] (clearForeign s.fresh)).wr LEG_WTB_STATE.f 2).wrB LEG_WTB_MASTER.f w.master).wrB
         LEG_WTB_END_NODE.f w.endNode).wr LEG_WTB_ADDR.f w.addr).wr LEG_WTB_FOREIGN.f 0).wr LEG_WTB_NODES.f
           (1 + 0 + w.dir2.length) |>.wr LEG_WTB_OTHERSIDE.f w.dir2.length
       { s2.inc LEG_WTB_INAUGS.f with
         leg := { s2.leg with foreignBefore := 0, silent := s2.leg.silent.filter (fun x => x.1 != 1) } })) ∧
  (∀ (addr k lines : Nat) (data : List Byte) (s t : State), s.Running → lines % 16 ≠ 0 → data.length ≤ 128 →
    t = wtbLines lines (wakeLegacy [88, 89, 90, 91] s.fresh) → t.rd LEG_WTB_STATE.f = 2 →
    (List.range 64).find? (fun k => 1 ≤ k && t.on (LEG_WTB_FNk_VALID.f k) && t.rd (LEG_WTB_FNk_ADDR.f k) == addr) = some k →
    Gives (.wtbProcessDataReceive addr data lines) s (deliverLegacy 88 k data (endSilence 1 0 k t))) ∧
  (∀ (s : State), s.Running → s.rd LEG_WTB_STATE.f = 2 → s.txImage 88 0 = none →
    Gives .wtbOwnFrameSend s (s.fresh.emit (.wtb (zeros (s.rd LEG_WTB_FRAME_SIZE.f))))) ∧
  (∀ (port : Nat) (s : State), s.Running → 88 ≤ port → port < 92 → s.leg.lines.contains port = true →
    Gives (.lineLinkTimeout port) s
      (legSettle port true { s.fresh with leg := { s.leg with lines := s.leg.lines.filter (· != port) } })) ∧
  (∀ (addr : Nat) (data : List Byte) (s t : State), s.Running → t = wakeLegacy [88, 89, 90, 91] s.fresh →
    t.rd LEG_WTB_STATE.f = 2 → Gives (.wtbProcessDataReceive addr data 0) s (t.inc LEG_WTB_ERR.f)) ∧
  (∀ (c lines fcode addr : Nat) (data : List Byte) (goodA goodB : Bool) (s t : State), s.Running →
    t = mvbWake c lines s.fresh → t.mvbOn c = true → fcode ≤ 4 → data.length ≠ fcodeBytes fcode →
    Gives (.mvbSlaveFrameReceive c lines fcode addr data goodA goodB) s (mvbArrive c lines 0 t).1)

/-- CAN and serial ports (what arrives wakes the port first): a data frame with an entry is delivered and one without counts; an
FD frame with FD off counts as an error frame and a remote frame is counted; a frame at the front is sent with its identifier
and bytes; an image too old is dropped and counted; bus off drops what waits and is left by recovery; error counters move the
error state; a serial frame that matches an entry is delivered, one with errors or without a match counts; a serial frame is
sent whole where no answer is awaited, and a missing answer counts; a silent timed entry is delivered empty, once. -/
def Obligations.CanAndSerialPortsFollowTheirTables : Prop :=
  (∀ (k id ide rtr : Nat) (data : List Byte) (s t : State), s.Running → k < 12 → t = wakeLegacy [92 + k] s.fresh →
    t.canOn k = true → data.length ≤ 64 → t.on (LEG_CANk_FD_EN.f k) = false →
    Gives (.canFrameReceive k id ide 1 rtr data) s (t.inc (LEG_CANk_ERRFRAMES.f k))) ∧
  (∀ (k id ide : Nat) (data : List Byte) (s t : State), s.Running → k < 12 → t = wakeLegacy [92 + k] s.fresh →
    t.canOn k = true → data.length ≤ 8 →
    Gives (.canFrameReceive k id ide 0 1 data) s ((canRxGood k t).inc (LEG_CANk_REMOTE.f k))) ∧
  (∀ (k id ide i : Nat) (data : List Byte) (s t : State), s.Running → k < 12 → t = wakeLegacy [92 + k] s.fresh →
    t.canOn k = true → data.length ≤ 8 → (canRxGood k t).canMatch k id ide 0 = some i →
    (canRxGood k t).rd (CM_LEN.f k i) = data.length →
    Gives (.canFrameReceive k id ide 0 0 data) s
      (deliverLegacy (92 + k) ((canRxGood k t).canNum k i) data (endSilence 2 k i (canRxGood k t)))) ∧
  (∀ (k id ide : Nat) (data : List Byte) (s t : State), s.Running → k < 12 → t = wakeLegacy [92 + k] s.fresh →
    t.canOn k = true → data.length ≤ 8 → (canRxGood k t).canMatch k id ide 0 = none →
    Gives (.canFrameReceive k id ide 0 0 data) s ((canRxGood k t).inc (LEG_CANk_NOMATCH.f k))) ∧
  (∀ (k i : Nat) (x : TxImage) (s : State), s.Running → s.canOn k = true → s.on (LEG_CANk_LISTEN.f k) = false →
    s.gateOpen (s.canGated k) = true → s.canNext k = some (i, x) →
    s.rd (LEG_CANk_TEC.f k) = 0 →
    Gives (.canTransmitComplete k) s
      ((measureDelay k i (s.fresh.setTxImage { x with unsent := false })).emit
        (.can k (s.rd (CM_ID.f k i)) (s.rd (CM_IDE.f k i)) (s.rd (CM_FDF.f k i)) (s.rd (CM_BRS.f k i)) x.bytes))) ∧
  (∀ (k e : Nat) (x : TxImage) (s : State), s.Running → k < 12 → e < 128 → s.on (CM_VALID.f k e) = true →
    s.on (CM_TX.f k e) = true → s.txImage (92 + k) (s.canNum k e) = some x → x.unsent = true →
    Gives (.canTxAgeExpiry k e) s ((s.fresh.dropImages (fun y => y == x)).inc (LEG_CANk_TX_AGED.f k))) ∧
  (∀ (k : Nat) (s : State), s.Running → s.canOn k = true →
    Gives (.canBusOff k) s
      ((setCanErrors k 255 (s.rd (LEG_CANk_REC.f k)) 2 (s.fresh.dropImages (fun x => x.port == 92 + k && x.unsent))).inc
        (LEG_CANk_BUSOFF.f k))) ∧
  (∀ (k : Nat) (s : State), s.Running → k < 12 → s.on (LEG_CANk_CFG_EN.f k) = true → s.rd (LEG_CANk_ESTATE.f k) = 2 →
    s.on (LEG_CANk_AUTO_RECOVER.f k) = true → Gives (.canBusOffRecovery k) s (setCanErrors k 0 0 0 s.fresh)) ∧
  (∀ (k tec rec : Nat) (s t : State), s.Running → k < 12 → t = wakeLegacy [92 + k] s.fresh → t.canOn k = true → tec ≤ 255 →
    Gives (.canErrorFrame k tec rec) s
      (setCanErrors k tec (Nat.min rec 255) (canEstate tec rec) (t.inc (LEG_CANk_ERRFRAMES.f k)))) ∧
  (∀ (x : Nat) (data : List Byte) (s t : State), s.Running → x < 12 → t = wakeLegacy [104 + x] s.fresh →
    t.on (LEG_SERs_CFG_EN.f x) = true → data.length ≤ 256 →
    Gives (.serialFrameClose x data true false) s (t.inc (LEG_SERs_FRAME_ERR.f x))) ∧
  (∀ (x : Nat) (data : List Byte) (s t : State), s.Running → x < 12 → t = wakeLegacy [104 + x] s.fresh →
    t.on (LEG_SERs_CFG_EN.f x) = true → data.length ≤ 256 →
    t.on (LEG_SERs_CRC.f x) = false → (List.range 64).find? (fun i => t.serMatch x i data) = none →
    Gives (.serialFrameClose x data false false) s (t.inc (LEG_SERs_NOMATCH.f x))) ∧
  (∀ (x i : Nat) (data : List Byte) (s t : State), s.Running → x < 12 → t = wakeLegacy [104 + x] s.fresh →
    t.on (LEG_SERs_CFG_EN.f x) = true → data.length ≤ 256 →
    t.on (LEG_SERs_CRC.f x) = false → (List.range 64).find? (fun i => t.serMatch x i data) = some i →
    t.leg.late.any (fun p => p.1 == x) = false →
    Gives (.serialFrameClose x data false false) s
      (deliverLegacy (104 + x) i data (endSilence 3 x i (t.wr (LEG_SERs_WAITING.f x) 0)))) ∧
  (∀ (x : Nat) (f : SerFrame) (rest : List SerFrame) (s : State), s.Running → x < 12 → s.on (LEG_SERs_CFG_EN.f x) = true →
    s.on (LEG_SERs_WAITING.f x) = false → s.gateOpen (s.serGated x) = true → s.serQueue (104 + x) = f :: rest →
    s.on (LEG_SERs_CRC.f x) = false → s.on (LEG_SERs_MODE.f x) = false →
    Gives (.serialTransmit x) s
      (State.emit { s.fresh with leg := { s.leg with serial := s.leg.serial.erase f } } (.serial x f.bytes))) ∧
  (∀ (x : Nat) (s : State), s.Running → x < 12 → s.on (LEG_SERs_WAITING.f x) = true →
    Gives (.serialResponseTimeout x) s
      (let s1 := (s.fresh.wr (LEG_SERs_WAITING.f x) 0).inc (LEG_SERs_NORESP.f x)
       { s1 with leg := { s.leg with late := (x, s.clk.up) :: s.leg.late.filter (fun p => p.1 != x) } })) ∧
  (∀ (bus unit entry port m : Nat) (tmo : Fld) (s : State), s.Running → s.timedEntry bus unit entry = some (port, m, tmo) →
    s.leg.silent.contains (bus, unit, entry) = false →
    Gives (.receiveTimeout bus unit entry) s
      (deliverLegacy port m []
        (State.inc { s.fresh with leg := { s.leg with silent := (bus, unit, entry) :: s.leg.silent } } tmo)))

/-- Bridge timers: an incomplete reassembly fails and what waits is drained; a gap in the order is skipped over and the skipped
numbers are counted; a request without its answer is answered `TIMEOUT` and counted; and a held semaphore whose time is over is
freed. -/
def Obligations.BridgeTimersEndWhatWaits : Prop :=
  (∀ (origin xid : Nat) (s : State), s.Running →
    Gives (.reassemblyTimeout origin xid) s
      (let due (x : BrPart) : Bool := x.origin == origin && (if x.typ == 2 then x.oseq else x.xid) == xid
       drainRequests ((s.rab.parts.filter due).foldl (fun t x => reassemblyFailed x t)
         { s.fresh with rab := { s.rab with parts := s.rab.parts.filter (fun x => !due x) } }))) ∧
  (∀ (uid n : Nat) (w : BrWait) (s : State), s.Running →
    s.rab.waits.find? (fun w => w.originUid == uid && w.epoch != s.rd HST_EPOCH.f) = none →
    s.firstWaiting uid (s.rd HST_EPOCH.f) = some (w, n) → n ≠ 0 →
    Gives (.orderGapTimeout uid) s (drainRequests ((setOrder uid w.epoch w.oseq s.fresh).incBy RAB_GAP_SKIPS.f n))) ∧
  (∀ (port tag : Nat) (r : BrReq) (s : State), s.Running →
    s.rab.open_.find? (fun r => cmdPortNum r.via.port == port && r.tag == tag) = some r →
    Gives (.transactionTimeout port tag) s
      (deliverRemote r (mkReply r.hdr r.opcode stTimeout []) ((closeOpen r s.fresh).inc RAB_TIMEOUTS.f))) ∧
  (∀ (i : Nat) (s : State), s.Running → i ≤ 63 → s.on (RAB_SEMi_HELD.f i) = true →
    Gives (.semExpiry i) s (expireSem 0 i s.fresh))

/-! The whole machine. -/

/-- A step takes the command at the front of the queue and runs it with the queue's rest (the form of this model). -/
def Obligations.StepRunsTheFrontCommand : Prop :=
  ∀ (c : Instr) (rest : List Instr) (s : State), s.pending = c :: rest → step s = exec c { s with pending := rest }

/-- With no command waiting a step is one `TB` clock: the local clock of a released node adds 1 ns and the rate correction, its
seconds wrapping modulo 2^48, and nothing else moves but the answers of the step before, which go. That a step is one clock is
the model's choice (log entry 1). -/
def Obligations.IdleStepIsOneClock : Prop :=
  ∀ (s : State), s.pending = [] →
    (s.sys.power = 3 → step s = .next { s with clk := s.clk.tick (s.rdS TIM_RATE.f), out := [] }) ∧
    (s.sys.power ≠ 3 → step s = .next { s with out := [] }) ∧
    (-42949 ≤ s.rdS TIM_RATE.f →
      let t := s.clk.tick (s.rdS TIM_RATE.f)
      (t.now : Int) * 2 ^ 32 + t.frac =
        ((s.clk.now : Int) * 2 ^ 32 + s.clk.frac + 2 ^ 32 + s.rdS TIM_RATE.f) % (2 ^ 48 * 1000000000 * 2 ^ 32) ∧
      t.now < 2 ^ 48 * 1000000000 ∧ t.up = s.clk.up + 1 ∧
      t.frac < 2 ^ 32)

/-- Every command completes in every state, and none moves the queue of those that wait behind it: no command of this block
stops, because the spec gives each an effect or none (log entry 2). -/
def Obligations.CommandsCompleteAndLeaveTheQueue : Prop :=
  ∀ (c : Instr) (s : State), ∃ t, exec c s = .next t ∧ t.pending = s.pending

/-- Reset: every field of the parameter space reads the reset value its table gives, nothing waits, and the register file and
the queue are in form. -/
def Obligations.ResetHoldsTheTableValues : Prop :=
  (∀ f : Fld, State.reset.rd f = f.reset % 2 ^ f.width) ∧ State.reset.pending = [] ∧ State.reset.regsWf = true ∧
  State.reset.queueWf = true ∧ State.reset.clk.now = 0 ∧ State.reset.sys.stage = 0

/-- A state whose waiting commands are all well-formed keeps them so at every step, the queue never grows, and no run of steps
stops, however long. -/
def Obligations.WaitingCommandsStayWellFormed : Prop :=
  (∀ (s t : State), s.queueWf = true → step s = .next t → t.queueWf = true ∧ t.pending.length ≤ s.pending.length) ∧
  (∀ (s : State) (k : Nat), s.runsFor k)

/-- Registers: a field reads what was last written to it, narrowed to its width, and a write leaves every field of another place
alone and the file in its canonical form; a count saturates at its width's largest value; a canonical file is determined by what
it reads. -/
def Obligations.RegistersReadBackAndKeepTheirForm : Prop :=
  (∀ (s : State) (f g : Fld) (v : Nat), (s.wr f v).rd f = v % 2 ^ f.width ∧
    (g.key ≠ f.key → (s.wr f v).rd g = s.rd g) ∧ (s.regsWf = true → (s.wr f v).regsWf = true)) ∧
  (∀ (s : State) (f : Fld) (n : Nat), (s.incBy f n).rd f = Nat.min (s.rd f + n) (2 ^ f.width - 1)) ∧
  (∀ (a b : List (Nat × Nat)), regWf a = true → regWf b = true → (∀ k, regGet k a = regGet k b) → a = b)

/-- A rail fault or a full `RESET_N` pulse resets the core and the field dies: of the parameter space only the words that the
power die and the straps keep hold their content, every other field reads its reset value, the local clock reads 0, and the
journal stays where no record was being written. Which words are kept is the model's reading of the spec's reset tables
(DEDUCED). -/
def Obligations.CoreResetKeepsOnlyTheNamedFields : Prop :=
  ∀ (die ns : Nat) (s : State), 2 ≤ s.sys.power → 10000 ≤ ns →
    ∃ t u, exec (.railSupervisorFault die) s = .next t ∧ exec (.resetNPulse ns) s = .next u ∧
      (∀ f : Fld, f.key ∉ keptFields.map Fld.key →
        t.rd f = f.reset % 2 ^ f.width ∧ u.rd f = f.reset % 2 ^ f.width) ∧
      (∀ f ∈ keptFields, t.rd f = s.rd f ∧ u.rd f = s.rd f) ∧
      t.clk.now = 0 ∧ u.clk.now = 0 ∧ t.sys.power = 2 ∧ u.sys.power = 2 ∧ t.sys.resetCause = 4 ∧ u.sys.resetCause = 1 ∧
      (s.sto.inFlight = none → t.sto.journal = s.sto.journal ∧ u.sto.journal = s.sto.journal)

/-- The command processor: an `SS` packet goes first; otherwise the first path from the turn on that has one waiting is served;
a packet that spells a command, taken from ring HA, does exactly what that command does; a repeated `SS` packet is answered from
the cache and not executed. -/
def Obligations.CommandTakeServesThePathsInTurn : Prop :=
  (∀ (p : Packet) (rest : List Packet) (s : State), s.sys.power = 3 → (s.sys.stage = 3 ∨ s.sys.stage = 5) →
    s.cmd.waitSS = p :: rest →
    Gives .commandTake s (takeCommand p { s.fresh with cmd := { s.cmd with waitSS := rest } })) ∧
  (∀ (c : Instr) (h : CmdHdr) (op : Nat) (params : List Byte) (rest : List Packet) (s : State), s.sys.power = 3 →
    (s.sys.stage = 3 ∨ s.sys.stage = 5) → c.spell = some (h, op, params) → c.wf = true → h.via.port = .ha →
    s.cmd.waitSS = [] → s.cmd.turn = 0 → s.cmd.waitHA = { via := h.via, bytes := packetBytes h op params } :: rest →
    exec .commandTake s = exec c { s with cmd := s.cmd.popWait 0 }) ∧
  (∀ (k : Nat) (p : Packet) (rest : List Packet) (s : State), s.sys.power = 3 → (s.sys.stage = 3 ∨ s.sys.stage = 5) →
    s.cmd.waitSS = [] → k < 4 → (∀ j < k, s.cmd.waiting ((s.cmd.turn + j) % 4) = []) →
    s.cmd.waiting ((s.cmd.turn + k) % 4) = p :: rest →
    Gives .commandTake s (takeCommand p { s.fresh with cmd := s.cmd.popWait ((s.cmd.turn + k) % 4) })) ∧
  (∀ (p : Packet) (rest : List Packet) (r : Reply) (s : State), s.sys.power = 3 → (s.sys.stage = 3 ∨ s.sys.stage = 5) →
    s.cmd.waitSS = p :: rest → p.via.port = .ss → s.cachedReply p = some r →
    Gives .commandTake s (deliverReply p.via r { s.fresh with cmd := { s.cmd with waitSS := rest } }))

/-- Decode and encode agree for every command that comes as a packet: the bytes that a well-formed command spells pass checks 1
to 5 and 8, their header is the command's, and the processor does with them exactly what the command does, with every operand at
every value its field admits. -/
def Obligations.PacketsDecodeToTheirCommands : Prop :=
  ∀ (c : Instr) (h : CmdHdr) (op : Nat) (params : List Byte) (s : State), c.spell = some (h, op, params) → c.wf = true →
    packetFault (packetBytes h op params) = none ∧ paramLenOk op params = true ∧
    headerOf { via := h.via, bytes := packetBytes h op params } = h ∧
    exec c s = act (whenServing (runPacket { via := h.via, bytes := packetBytes h op params })) s

/-- Reserved header bytes and flag bits: two packets of one path that pass checks 1 to 5 and differ only in reserved bits and in
the trailer have one effect, and the reply's reserved bytes and bits are zero. -/
def Obligations.ReservedHeaderBitsAreIgnored : Prop :=
  (∀ (v : Via) (a b : List Byte) (s : State), packetFault a = none → packetFault b = none → a.length = b.length →
    byteAt a 3 % 8 = byteAt b 3 % 8 → slice a 4 13 = slice b 4 13 → slice a 24 (a.length - 28) = slice b 24 (b.length - 28) →
    runPacket { via := v, bytes := a } s = runPacket { via := v, bytes := b } s) ∧
  (∀ (r : Reply), byteAt (replyBytes r) 3 < 8 ∧ slice (replyBytes r) 17 7 = zeros 7)

/-- The reply to a packet that fails checks 1 to 4 echoes the bytes 4 to 11 and 14 to 16 that were received and copies `POSTED`
and `EPOCH_CHECK` from byte 3; what was not received is zero. -/
def Obligations.FailedPacketsAreEchoedAsReceived : Prop :=
  ∀ (p : Packet) (st : Nat) (s : State), packetFault p.bytes = some st → st ≠ stBadOpcode →
    ∃ r : Reply, runPacket p s = deliverReply p.via r s ∧ r.status = st ∧ r.data = [] ∧
      (∀ i, 4 ≤ i → i ≤ 11 → byteAt (replyBytes r) i = byteAt p.bytes i) ∧
      (∀ i, 14 ≤ i → i ≤ 16 → byteAt (replyBytes r) i = byteAt p.bytes i) ∧
      byteAt (replyBytes r) 3 = 1 + byteAt p.bytes 3 / 2 % 4 * 2

/-- The order of the checks of a packet: the first failure gives the status, nothing is executed, and only the reply leaves: bad
length, bad version, a parameter length that does not fit, a bad CRC, an unknown opcode, a class that may not, a target out of
range, a stale epoch, and a bad parameter length of the opcode, in that order. -/
def Obligations.PacketChecksAnswerTheFirstFailure : Prop :=
  (∀ (b : List Byte), (b.length < 28 ∨ 65536 < b.length → packetFault b = some stBadLength) ∧
    (28 ≤ b.length → b.length ≤ 65536 → (beAt b 0 2 ≠ 0xCE4E ∨ byteAt b 2 ≠ 1) → packetFault b = some stBadVersion) ∧
    (28 ≤ b.length → b.length ≤ 65536 → beAt b 0 2 = 0xCE4E → byteAt b 2 = 1 → 24 + beAt b 12 2 + 4 ≠ b.length →
      packetFault b = some stBadLength) ∧
    (28 ≤ b.length → b.length ≤ 65536 → beAt b 0 2 = 0xCE4E → byteAt b 2 = 1 → 24 + beAt b 12 2 + 4 = b.length →
      fromBE (lastN 4 b) ≠ crc32c (b.take (b.length - 4)) → packetFault b = some stBadCrc)) ∧
  (∀ (p : Packet) (st : Nat) (s : State), packetFault p.bytes = some st →
    runPacket p s = deliverReply p.via (mkReply (headerOf p) (opcodeOf p) st []) s) ∧
  (∀ (p : Packet) (s : State), packetFault p.bytes = none →
    let h := headerOf p
    let op := opcodeOf p
    let params := slice p.bytes 24 (p.bytes.length - 28)
    let answer (st : Nat) (d : List Byte) : State := deliverReply p.via (mkReply h op st d) s
    (opClasses op = none → runPacket p s = answer stBadOpcode []) ∧
    (∀ cl, opClasses op = some cl → cl.contains (classOf p.via.port) = false → paramLenOk op params = false →
      runPacket p s = answer stPrivDenied []) ∧
    (∀ cl, opClasses op = some cl → cl.contains (classOf p.via.port) = true → 128 < h.target → paramLenOk op params = false →
      runPacket p s = answer stRange []) ∧
    (∀ cl, opClasses op = some cl → cl.contains (classOf p.via.port) = true → h.target ≤ 128 →
      (h.target ≠ 0 ∨ h.epochCheck = true) → s.epochOk h.epoch = false → paramLenOk op params = false →
      runPacket p s = answer stStaleEpoch (toBE 2 (s.rd HST_EPOCH.f))) ∧
    (∀ cl, opClasses op = some cl → cl.contains (classOf p.via.port) = true → h.target = 0 → h.epochCheck = false →
      paramLenOk op params = false → runPacket p s = answer stBadLength [])) ∧
  (∀ (c : Instr) (h : CmdHdr) (op : Nat) (params : List Byte) (cl : List PrivClass) (s : State), s.sys.power = 3 →
    s.sys.stage = 3 → c.spell = some (h, op, params) → opClasses op = some cl → cl.contains (classOf h.via.port) = false →
    exec c s = .next { deliverReply h.via (mkReply h op stPrivDenied []) s.fresh with pending := s.pending })

/-- Before the internal release the core and field dies are held in reset: in a node that is not released every command leaves
the whole state as it is, but for the inputs that the supervisors, the feeds, the sensors and `MRAM` take there (`actsHeld`;
that list is the model's, DEDUCED). -/
def Obligations.HeldInResetNothingMoves : Prop :=
  ∀ (c : Instr) (s : State), s.sys.power ≠ 3 → c.actsHeld = false → Gives c s s.fresh

/-- Duplicate discard of one key: a number just delivered is judged a repeat; after one further frame, it is still not delivered
unless that frame moved the window on by more than 2^31 − 1,024; a frame that is not delivered leaves the window; and the window
stays in form. -/
def Obligations.NoSequenceNumberIsDeliveredTwice : Prop :=
  ∀ (d d' e : Dup) (a b : Nat) (w : DupVerdict), a < 2 ^ 32 → b < 2 ^ 32 → d.high < 2 ^ 32 → d.seen < 2 ^ 1024 →
    d.judge a = (.deliver, d') → d'.judge b = (w, e) →
    d'.judge a = (.duplicate, d') ∧ d'.high < 2 ^ 32 ∧ d'.seen < 2 ^ 1024 ∧
    ((b + 2 ^ 32 - d'.high) % 2 ^ 32 ≤ 2 ^ 31 - 1024 ∨ 2 ^ 31 ≤ (b + 2 ^ 32 - d'.high) % 2 ^ 32 → (e.judge a).1 ≠ .deliver) ∧
    (w ≠ .deliver → e = d')

/-- One owner at a time: after an issuer has acquired a semaphore, another issuer is answered `BUSY` when it acquires and
`STATE_CONFLICT` when it releases, and nothing moves; the owner releases it and it reads free. -/
def Obligations.SemaphoresHaveOneOwner : Prop :=
  ∀ (h g : CmdHdr) (i a b : Nat) (s : State), Serves 0x0A01 h s → Serves 0x0A01 g s → Serves 0x0A02 g s → Serves 0x0A02 h s →
    i ≤ 63 → 1 ≤ a → a ≤ 60000 → 1 ≤ b → b ≤ 60000 → (s.semOwner h).1 < 2 ^ 64 → (s.semOwner g).1 < 2 ^ 64 →
    (s.semOwner h).2 < 2 ^ 8 → (s.semOwner g).2 < 2 ^ 8 → s.semOwner h ≠ s.semOwner g → s.on (RAB_SEMi_HELD.f i) = false →
    ∃ t, exec (.semAcquire h i a) s = .next t ∧ t.on (RAB_SEMi_HELD.f i) = true ∧
      t.rd (RAB_SEMi_OWNER_UID.f i) = (s.semOwner h).1 ∧ t.rd (RAB_SEMi_PORT.f i) = (s.semOwner h).2 ∧
      Answers (.semAcquire g i b) 0x0A01 g t stBusy [] t.fresh ∧
      Answers (.semRelease g i) 0x0A02 g t stConflict (toBE 2 0) t.fresh ∧
      ∃ u, exec (.semRelease h i) t = .next u ∧ u.on (RAB_SEMi_HELD.f i) = false

/-- Compact timestamps: the difference of two is the signed difference of their seconds modulo 2^34, half range counting as
past, times 10^9 plus that of their nanoseconds; of two instants less than half range apart it is their distance in ns. -/
def Obligations.CompactTimesCompareByTheirDifference : Prop :=
  (∀ (sa na sb nb : Nat), sa < 2 ^ 34 → sb < 2 ^ 34 → na < 1000000000 → nb < 1000000000 →
    let ds : Int := ((sa : Int) - sb) % 2 ^ 34
    let ds' : Int := if ds ≥ 2 ^ 33 then ds - 2 ^ 34 else ds
    compactDiff (sa * 2 ^ 30 + na) (sb * 2 ^ 30 + nb) = ds' * 1000000000 + ((na : Int) - nb)) ∧
  (∀ t u : Nat, t ≤ u + (2 ^ 33 - 1) * 1000000000 → u ≤ t + (2 ^ 33 - 1) * 1000000000 →
    compactDiff (compact t) (compact u) = (t : Int) - u)

/-- A reset of an endpoint: its command and event rings close, their indices return to 0, and its ring bases and sizes, its
urgent flag and its group mask keep their values. -/
def Obligations.EndpointResetStopsItsRings : Prop :=
  ∀ (hb : Bool) (s : State), s.sys.power = 3 →
    ∃ t, exec (.pcieReset hb) s = .next t ∧
      t.rd (CMD_Hx_RING_EN.f (hx hb)) = 0 ∧ t.rd (CMD_Hx_EVT_EN.f (hx hb)) = 0 ∧ t.rd (CMD_Hx_RING_HEAD.f (hx hb)) = 0 ∧
      t.rd (CMD_Hx_RING_TAIL.f (hx hb)) = 0 ∧ t.rd (CMD_Hx_EVT_WRITE.f (hx hb)) = 0 ∧ t.rd (CMD_Hx_EVT_READ.f (hx hb)) = 0 ∧
      (∀ r ∈ [CMD_Hx_RING_BASE, CMD_Hx_RING_LOG2, CMD_Hx_EVT_BASE, CMD_Hx_EVT_LOG2, CMD_Hx_EVT_URGENT, CMD_Hx_EVT_GROUPS],
        t.rd (r.f (hx hb)) = s.rd (r.f (hx hb)))

/-- The trailer of every command packet and every reply is the CRC-32C of every byte before it: bit by bit, the least
significant of each byte first, with polynomial 0x1EDC_6F41 processed reflected, initial value and final exclusive-or
0xFFFF_FFFF; that of the ASCII string "123456789" is 0xE306_9283. -/
def Obligations.TrailersHoldTheCrcOfTheBytesBefore : Prop :=
  (∀ i < 32, Nat.testBit 0x82F63B78 i = Nat.testBit 0x1EDC6F41 (31 - i)) ∧
  (∀ b : List Byte, crc32c b = (messageBits b).foldl crcBit 0xFFFFFFFF ^^^ 0xFFFFFFFF) ∧
  crc32c [0x31, 0x32, 0x33, 0x34, 0x35, 0x36, 0x37, 0x38, 0x39] = 0xE3069283 ∧
  (∀ (h : CmdHdr) (op : Nat) (params : List Byte), let b := packetBytes h op params
    fromBE (lastN 4 b) = crc32c (b.take (b.length - 4))) ∧
  (∀ (r : Reply), let b := replyBytes r
    fromBE (lastN 4 b) = crc32c (b.take (b.length - 4)))
end

