-- ==== Sys2Proof/Laws/Bytes.lean ====
section
/-!
SUPPORT. The laws of bytes: how long an encoding is, that reading back what was laid down gives it, and the bound of the
packet check value.
-/
namespace Sys2Proof.Machine
open Sys2Proof

@[simp] theorem toLE_length (n v : Nat) : (toLE n v).length = n := by
  induction n generalizing v with
  | zero => rfl
  | succ n ih => simp [toLE, ih]

@[simp] theorem toBE_length (n v : Nat) : (toBE n v).length = n := by simp [toBE]

@[simp] theorem zeros_length (n : Nat) : (zeros n).length = n := by simp [zeros]

@[simp] theorem fitBytes_length (n : Nat) (bs : List Byte) : (fitBytes n bs).length = n := by
  simp [fitBytes]; omega

theorem fromLE_toLE (n v : Nat) : fromLE (toLE n v) = v % 256 ^ n := by
  induction n generalizing v with
  | zero => simp [toLE, fromLE, Nat.mod_one]
  | succ n ih =>
    simp only [toLE, fromLE, ih, BitVec.toNat_ofNat]
    rw [show (256 : Nat) ^ (n + 1) = 256 * 256 ^ n by rw [Nat.pow_succ, Nat.mul_comm], Nat.mod_mul]

/-- Bytes laid down most significant first read back as the number, narrowed to their room. -/
theorem fromBE_toBE (n v : Nat) : fromBE (toBE n v) = v % 256 ^ n := by simp [fromBE, toBE, fromLE_toLE]

/-- A slice that begins where the first part ends lies in the second. -/
theorem slice_append_right (a b : List Byte) (o n : Nat) (h : a.length ≤ o) :
    slice (a ++ b) o n = slice b (o - a.length) n := by
  simp [slice, List.drop_append, List.drop_eq_nil_of_le h]

/-- A slice that ends within the first part lies in it. -/
theorem slice_append_left (a b : List Byte) (o n : Nat) (h : o + n ≤ a.length) : slice (a ++ b) o n = slice a o n := by
  have h1 : n - (a.length - o) = 0 := by omega
  have h2 : o - a.length = 0 := by omega
  simp [slice, List.drop_append, List.take_append, h1]

theorem slice_zero_self (a : List Byte) : slice a 0 a.length = a := by simp [slice]

theorem beAt_append_right (a b : List Byte) (o n : Nat) (h : a.length ≤ o) :
    beAt (a ++ b) o n = beAt b (o - a.length) n := by simp [beAt, slice_append_right a b o n h]

theorem beAt_append_left (a b : List Byte) (o n : Nat) (h : o + n ≤ a.length) : beAt (a ++ b) o n = beAt a o n := by
  simp [beAt, slice_append_left a b o n h]

/-- The field laid down at the front of bytes. -/
theorem beAt_toBE_append (n v : Nat) (b : List Byte) : beAt (toBE n v ++ b) 0 n = v % 256 ^ n := by
  rw [beAt_append_left _ _ _ _ (by simp), beAt, show slice (toBE n v) 0 n = toBE n v by
    simp only [slice, List.drop_zero]; exact List.take_of_length_le (by simp), fromBE_toBE]

/-- A reflected CRC of 32 bits stays below 2^32. -/
theorem crcReflBit_lt (p c : Nat) (hp : p < 2 ^ 32) (hc : c < 2 ^ 32) : crcReflBit p c < 2 ^ 32 := by
  unfold crcReflBit
  split
  · exact Nat.xor_lt_two_pow (by omega) hp
  · omega

theorem crcReflByte_lt (p c : Nat) (b : Byte) (hp : p < 2 ^ 32) (hc : c < 2 ^ 32) : crcReflByte p c b < 2 ^ 32 := by
  have h0 : c ^^^ b.toNat < 2 ^ 32 := Nat.xor_lt_two_pow hc (by have := b.isLt; omega)
  have : ∀ n x, x < 2 ^ 32 → Nat.repeat (crcReflBit p) n x < 2 ^ 32 := by
    intro n
    induction n with
    | zero => intro x hx; exact hx
    | succ n ih => intro x hx; exact crcReflBit_lt p _ hp (ih x hx)
  exact this 8 _ h0

/-- The packet check value is a number of 32 bits. -/
theorem crc32c_lt (bs : List Byte) : crc32c bs < 2 ^ 32 := by
  have h : ∀ (l : List Byte) (c : Nat), c < 2 ^ 32 → l.foldl (crcReflByte 0x82F63B78) c < 2 ^ 32 := by
    intro l
    induction l with
    | nil => intro c hc; exact hc
    | cons b l ih => intro c hc; exact ih _ (crcReflByte_lt _ _ _ (by decide) hc)
  exact Nat.xor_lt_two_pow (h bs _ (by decide)) (by decide)

theorem byteAt_append_left (a b : List Byte) (o : Nat) (h : o < a.length) : byteAt (a ++ b) o = byteAt a o := by
  unfold byteAt; rw [List.getD_eq_getElem?_getD, List.getD_eq_getElem?_getD, List.getElem?_append_left h]

theorem byteAt_append_right (a b : List Byte) (o : Nat) (h : a.length ≤ o) :
    byteAt (a ++ b) o = byteAt b (o - a.length) := by
  unfold byteAt; rw [List.getD_eq_getElem?_getD, List.getD_eq_getElem?_getD, List.getElem?_append_right h]

theorem toBE_one (v : Nat) : toBE 1 v = [BitVec.ofNat 8 v] := by
  simp [toBE, toLE]

theorem byteAt_toBE1 (v : Nat) : byteAt (toBE 1 v) 0 = v % 256 := by
  rw [toBE_one]; simp [byteAt]

theorem beAt_toBE (n v : Nat) : beAt (toBE n v) 0 n = v % 256 ^ n := by
  have := beAt_toBE_append n v []; simpa using this

theorem be_take (b : List Byte) (o n k : Nat) (h : o + n ≤ k) : beAt (b.take k) o n = beAt b o n := by
  unfold beAt slice; rw [List.drop_take, List.take_take, Nat.min_eq_left (by omega)]

theorem byte_take (b : List Byte) (o k : Nat) (h : o < k) : byteAt (b.take k) o = byteAt b o := by
  unfold byteAt; rw [List.getD_eq_getElem?_getD, List.getD_eq_getElem?_getD, List.getElem?_take_of_lt h]

end Sys2Proof.Machine
end

