-- ==== Sys2Proof/Laws/Fresh.lean ====
section
/-!
SUPPORT. No reading of the state looks at the outputs of the command before.
-/
namespace Sys2Proof.Machine
open Sys2Proof

@[simp] theorem State.fresh_regs (s : State) : s.fresh.regs = s.regs := by cases s; rfl
@[simp] theorem State.fresh_clk (s : State) : s.fresh.clk = s.clk := by cases s; rfl
@[simp] theorem State.fresh_sys (s : State) : s.fresh.sys = s.sys := by cases s; rfl
@[simp] theorem State.fresh_cmd (s : State) : s.fresh.cmd = s.cmd := by cases s; rfl
@[simp] theorem State.fresh_bkb (s : State) : s.fresh.bkb = s.bkb := by cases s; rfl
@[simp] theorem State.fresh_tcy (s : State) : s.fresh.tcy = s.tcy := by cases s; rfl
@[simp] theorem State.fresh_hst (s : State) : s.fresh.hst = s.hst := by cases s; rfl
@[simp] theorem State.fresh_rab (s : State) : s.fresh.rab = s.rab := by cases s; rfl
@[simp] theorem State.fresh_net (s : State) : s.fresh.net = s.net := by cases s; rfl
@[simp] theorem State.fresh_sch (s : State) : s.fresh.sch = s.sch := by cases s; rfl
@[simp] theorem State.fresh_tim (s : State) : s.fresh.tim = s.tim := by cases s; rfl
@[simp] theorem State.fresh_pos (s : State) : s.fresh.pos = s.pos := by cases s; rfl
@[simp] theorem State.fresh_sig (s : State) : s.fresh.sig = s.sig := by cases s; rfl
@[simp] theorem State.fresh_eng (s : State) : s.fresh.eng = s.eng := by cases s; rfl
@[simp] theorem State.fresh_fld (s : State) : s.fresh.fld = s.fld := by cases s; rfl
@[simp] theorem State.fresh_pair (s : State) : s.fresh.pair = s.pair := by cases s; rfl
@[simp] theorem State.fresh_lad (s : State) : s.fresh.lad = s.lad := by cases s; rfl
@[simp] theorem State.fresh_leg (s : State) : s.fresh.leg = s.leg := by cases s; rfl
@[simp] theorem State.fresh_sto (s : State) : s.fresh.sto = s.sto := by cases s; rfl
@[simp] theorem State.fresh_free (s : State) : s.fresh.free = s.free := by cases s; rfl
@[simp] theorem State.fresh_pending (s : State) : s.fresh.pending = s.pending := by cases s; rfl
@[simp] theorem State.fresh_out (s : State) : s.fresh.out = [] := rfl
@[simp] theorem State.fresh_lane (s : State) : s.fresh.lane = s.lane := by cases s; rfl
@[simp] theorem State.fresh_rxGood (s : State) : s.fresh.rxGood = s.rxGood := by cases s; rfl
@[simp] theorem State.fresh_inGroup (s : State) : s.fresh.inGroup = s.inGroup := by cases s; rfl
@[simp] theorem State.fresh_group (s : State) : s.fresh.group = s.group := by cases s; rfl
@[simp] theorem State.fresh_present (s : State) : s.fresh.present = s.present := by cases s; rfl
@[simp] theorem State.fresh_lowLane (s : State) : s.fresh.lowLane = s.lowLane := by cases s; rfl
@[simp] theorem State.fresh_through (s : State) : s.fresh.through = s.through := by cases s; rfl
@[simp] theorem State.fresh_groupCode (s : State) : s.fresh.groupCode = s.groupCode := by cases s; rfl
@[simp] theorem State.fresh_msgLanes (s : State) : s.fresh.msgLanes = s.msgLanes := by cases s; rfl
@[simp] theorem State.fresh_msgLane (s : State) : s.fresh.msgLane = s.msgLane := by cases s; rfl
@[simp] theorem State.fresh_pathOut (s : State) : s.fresh.pathOut = s.pathOut := by cases s; rfl
@[simp] theorem State.fresh_originOut (s : State) : s.fresh.originOut = s.originOut := by cases s; rfl
@[simp] theorem State.fresh_msgStart (s : State) : s.fresh.msgStart = s.msgStart := by cases s; rfl
@[simp] theorem State.fresh_msgEnd (s : State) : s.fresh.msgEnd = s.msgEnd := by cases s; rfl
@[simp] theorem State.fresh_inMsgPhase (s : State) : s.fresh.inMsgPhase = s.inMsgPhase := by cases s; rfl
@[simp] theorem State.fresh_fitsPhase (s : State) : s.fresh.fitsPhase = s.fitsPhase := by cases s; rfl
@[simp] theorem State.fresh_presentEnds (s : State) : s.fresh.presentEnds = s.presentEnds := by cases s; rfl
@[simp] theorem State.fresh_egressMac (s : State) : s.fresh.egressMac = s.egressMac := by cases s; rfl
@[simp] theorem State.fresh_oseq (s : State) : s.fresh.oseq = s.oseq := by cases s; rfl
@[simp] theorem State.fresh_unsentRequests (s : State) : s.fresh.unsentRequests = s.unsentRequests := by cases s; rfl
@[simp] theorem State.fresh_nextOrder (s : State) : s.fresh.nextOrder = s.nextOrder := by cases s; rfl
@[simp] theorem State.fresh_completionUse (s : State) : s.fresh.completionUse = s.completionUse := by cases s; rfl
@[simp] theorem State.fresh_mayExecute (s : State) : s.fresh.mayExecute = s.mayExecute := by cases s; rfl
@[simp] theorem State.fresh_semOwner (s : State) : s.fresh.semOwner = s.semOwner := by cases s; rfl
@[simp] theorem State.fresh_openOf (s : State) : s.fresh.openOf = s.openOf := by cases s; rfl
@[simp] theorem State.fresh_bridgeForMe (s : State) : s.fresh.bridgeForMe = s.bridgeForMe := by cases s; rfl
@[simp] theorem State.fresh_firstWaiting (s : State) : s.fresh.firstWaiting = s.firstWaiting := by cases s; rfl
@[simp] theorem State.fresh_recordsFrom (s : State) : s.fresh.recordsFrom = s.recordsFrom := by cases s; rfl
@[simp] theorem State.fresh_mismatchByte (s : State) : s.fresh.mismatchByte = s.mismatchByte := by cases s; rfl
@[simp] theorem State.fresh_operTime (s : State) : s.fresh.operTime = s.operTime := by cases s; rfl
@[simp] theorem State.fresh_cacheOf (s : State) : s.fresh.cacheOf = s.cacheOf := by cases s; rfl
@[simp] theorem State.fresh_cachedReply (s : State) : s.fresh.cachedReply = s.cachedReply := by cases s; rfl
@[simp] theorem State.fresh_ssStatus (s : State) : s.fresh.ssStatus = s.ssStatus := by cases s; rfl
@[simp] theorem State.fresh_evtNLow (s : State) : s.fresh.evtNLow = s.evtNLow := by cases s; rfl
@[simp] theorem State.fresh_pollFor (s : State) : s.fresh.pollFor = s.pollFor := by cases s; rfl
@[simp] theorem State.fresh_pennantBody (s : State) : s.fresh.pennantBody = s.pennantBody := by cases s; rfl
@[simp] theorem State.fresh_ownOuts (s : State) : s.fresh.ownOuts = s.ownOuts := by cases s; rfl
@[simp] theorem State.fresh_leadOk (s : State) : s.fresh.leadOk = s.leadOk := by cases s; rfl
@[simp] theorem State.fresh_slotsOn (s : State) : s.fresh.slotsOn = s.slotsOn := by cases s; rfl
@[simp] theorem State.fresh_slot (s : State) : s.fresh.slot = s.slot := by cases s; rfl
@[simp] theorem State.fresh_originates (s : State) : s.fresh.originates = s.originates := by cases s; rfl
@[simp] theorem State.fresh_windowReports (s : State) : s.fresh.windowReports = s.windowReports := by cases s; rfl
@[simp] theorem State.fresh_slotContent (s : State) : s.fresh.slotContent = s.slotContent := by cases s; rfl
@[simp] theorem State.fresh_slotWaiting (s : State) : s.fresh.slotWaiting = s.slotWaiting := by cases s; rfl
@[simp] theorem State.fresh_slotLane (s : State) : s.fresh.slotLane = s.slotLane := by cases s; rfl
@[simp] theorem State.fresh_slotAt (s : State) : s.fresh.slotAt = s.slotAt := by cases s; rfl
@[simp] theorem State.fresh_accusers (s : State) : s.fresh.accusers = s.accusers := by cases s; rfl
@[simp] theorem State.fresh_engine (s : State) : s.fresh.engine = s.engine := by cases s; rfl
@[simp] theorem State.fresh_engOper (s : State) : s.fresh.engOper = s.engOper := by cases s; rfl
@[simp] theorem State.fresh_fenUp (s : State) : s.fresh.fenUp = s.fenUp := by cases s; rfl
@[simp] theorem State.fresh_fenAble (s : State) : s.fresh.fenAble = s.fenAble := by cases s; rfl
@[simp] theorem State.fresh_fenNeed (s : State) : s.fresh.fenNeed = s.fenNeed := by cases s; rfl
@[simp] theorem State.fresh_fenOper (s : State) : s.fresh.fenOper = s.fenOper := by cases s; rfl
@[simp] theorem State.fresh_estimate (s : State) : s.fresh.estimate = s.estimate := by cases s; rfl
@[simp] theorem State.fresh_slackOver (s : State) : s.fresh.slackOver = s.slackOver := by cases s; rfl
@[simp] theorem State.fresh_shed (s : State) : s.fresh.shed = s.shed := by cases s; rfl
@[simp] theorem State.fresh_tagNow (s : State) : s.fresh.tagNow = s.tagNow := by cases s; rfl
@[simp] theorem State.fresh_budget (s : State) : s.fresh.budget = s.budget := by cases s; rfl
@[simp] theorem State.fresh_home (s : State) : s.fresh.home = s.home := by cases s; rfl
@[simp] theorem State.fresh_owes (s : State) : s.fresh.owes = s.owes := by cases s; rfl
@[simp] theorem State.fresh_instOf (s : State) : s.fresh.instOf = s.instOf := by cases s; rfl
@[simp] theorem State.fresh_shortest (s : State) : s.fresh.shortest = s.shortest := by cases s; rfl
@[simp] theorem State.fresh_latestOf (s : State) : s.fresh.latestOf = s.latestOf := by cases s; rfl
@[simp] theorem State.fresh_entry (s : State) : s.fresh.entry = s.entry := by cases s; rfl
@[simp] theorem State.fresh_tagEpoch (s : State) : s.fresh.tagEpoch = s.tagEpoch := by cases s; rfl
@[simp] theorem State.fresh_maxLen (s : State) : s.fresh.maxLen = s.maxLen := by cases s; rfl
@[simp] theorem State.fresh_pauseOn (s : State) : s.fresh.pauseOn = s.pauseOn := by cases s; rfl
@[simp] theorem State.fresh_carriesPtp (s : State) : s.fresh.carriesPtp = s.carriesPtp := by cases s; rfl
@[simp] theorem State.fresh_routes (s : State) : s.fresh.routes = s.routes := by cases s; rfl
@[simp] theorem State.fresh_lookup (s : State) : s.fresh.lookup = s.lookup := by cases s; rfl
@[simp] theorem State.fresh_lastByte (s : State) : s.fresh.lastByte = s.lastByte := by cases s; rfl
@[simp] theorem State.fresh_wakeMatch (s : State) : s.fresh.wakeMatch = s.wakeMatch := by cases s; rfl
@[simp] theorem State.fresh_prevNode (s : State) : s.fresh.prevNode = s.prevNode := by cases s; rfl
@[simp] theorem State.fresh_carriedHere (s : State) : s.fresh.carriedHere = s.carriedHere := by cases s; rfl
@[simp] theorem State.fresh_wireOf (s : State) : s.fresh.wireOf = s.wireOf := by cases s; rfl
@[simp] theorem State.fresh_copyNs (s : State) : s.fresh.copyNs = s.copyNs := by cases s; rfl
@[simp] theorem State.fresh_knownLaunch (s : State) : s.fresh.knownLaunch = s.knownLaunch := by cases s; rfl
@[simp] theorem State.fresh_launchesAhead (s : State) : s.fresh.launchesAhead = s.launchesAhead := by cases s; rfl
@[simp] theorem State.fresh_mayStart (s : State) : s.fresh.mayStart = s.mayStart := by cases s; rfl
@[simp] theorem State.fresh_neverFits (s : State) : s.fresh.neverFits = s.neverFits := by cases s; rfl
@[simp] theorem State.fresh_portIdle (s : State) : s.fresh.portIdle = s.portIdle := by cases s; rfl
@[simp] theorem State.fresh_sendingOn (s : State) : s.fresh.sendingOn = s.sendingOn := by cases s; rfl
@[simp] theorem State.fresh_collisions (s : State) : s.fresh.collisions = s.collisions := by cases s; rfl
@[simp] theorem State.fresh_chan (s : State) : s.fresh.chan = s.chan := by cases s; rfl
@[simp] theorem State.fresh_dieUp (s : State) : s.fresh.dieUp = s.dieUp := by cases s; rfl
@[simp] theorem State.fresh_fmode (s : State) : s.fresh.fmode = s.fmode := by cases s; rfl
@[simp] theorem State.fresh_bankState (s : State) : s.fresh.bankState = s.bankState := by cases s; rfl
@[simp] theorem State.fresh_bankAsleep (s : State) : s.fresh.bankAsleep = s.bankAsleep := by cases s; rfl
@[simp] theorem State.fresh_pairActive (s : State) : s.fresh.pairActive = s.pairActive := by cases s; rfl
@[simp] theorem State.fresh_paired (s : State) : s.fresh.paired = s.paired := by cases s; rfl
@[simp] theorem State.fresh_follows (s : State) : s.fresh.follows = s.follows := by cases s; rfl
@[simp] theorem State.fresh_asked (s : State) : s.fresh.asked = s.asked := by cases s; rfl
@[simp] theorem State.fresh_terminal (s : State) : s.fresh.terminal = s.terminal := by cases s; rfl
@[simp] theorem State.fresh_chanOper (s : State) : s.fresh.chanOper = s.chanOper := by cases s; rfl
@[simp] theorem State.fresh_bankOper (s : State) : s.fresh.bankOper = s.bankOper := by cases s; rfl
@[simp] theorem State.fresh_outputs (s : State) : s.fresh.outputs = s.outputs := by cases s; rfl
@[simp] theorem State.fresh_wdData (s : State) : s.fresh.wdData = s.wdData := by cases s; rfl
@[simp] theorem State.fresh_complianceData (s : State) : s.fresh.complianceData = s.complianceData := by cases s; rfl
@[simp] theorem State.fresh_pairedOutputs (s : State) : s.fresh.pairedOutputs = s.pairedOutputs := by cases s; rfl
@[simp] theorem State.fresh_mirrorImage (s : State) : s.fresh.mirrorImage = s.mirrorImage := by cases s; rfl
@[simp] theorem State.fresh_fieldWords (s : State) : s.fresh.fieldWords = s.fieldWords := by cases s; rfl
@[simp] theorem State.fresh_imageBit (s : State) : s.fresh.imageBit = s.imageBit := by cases s; rfl
@[simp] theorem State.fresh_chanBad (s : State) : s.fresh.chanBad = s.chanBad := by cases s; rfl
@[simp] theorem State.fresh_dieChans (s : State) : s.fresh.dieChans = s.dieChans := by cases s; rfl
@[simp] theorem State.fresh_outputImage (s : State) : s.fresh.outputImage = s.outputImage := by cases s; rfl
@[simp] theorem State.fresh_channelRecord (s : State) : s.fresh.channelRecord = s.channelRecord := by cases s; rfl
@[simp] theorem State.fresh_hostOwned (s : State) : s.fresh.hostOwned = s.hostOwned := by cases s; rfl
@[simp] theorem State.fresh_flips (s : State) : s.fresh.flips = s.flips := by cases s; rfl
@[simp] theorem State.fresh_ownFrame (s : State) : s.fresh.ownFrame = s.ownFrame := by cases s; rfl
@[simp] theorem State.fresh_turn (s : State) : s.fresh.turn = s.turn := by cases s; rfl
@[simp] theorem State.fresh_ringOf (s : State) : s.fresh.ringOf = s.ringOf := by cases s; rfl
@[simp] theorem State.fresh_peOper (s : State) : s.fresh.peOper = s.peOper := by cases s; rfl
@[simp] theorem State.fresh_laneOn (s : State) : s.fresh.laneOn = s.laneOn := by cases s; rfl
@[simp] theorem State.fresh_slotBank (s : State) : s.fresh.slotBank = s.slotBank := by cases s; rfl
@[simp] theorem State.fresh_slotShadow (s : State) : s.fresh.slotShadow = s.slotShadow := by cases s; rfl
@[simp] theorem State.fresh_shadowNum (s : State) : s.fresh.shadowNum = s.shadowNum := by cases s; rfl
@[simp] theorem State.fresh_ownRec (s : State) : s.fresh.ownRec = s.ownRec := by cases s; rfl
@[simp] theorem State.fresh_beyondUid (s : State) : s.fresh.beyondUid = s.beyondUid := by cases s; rfl
@[simp] theorem State.fresh_provEnds (s : State) : s.fresh.provEnds = s.provEnds := by cases s; rfl
@[simp] theorem State.fresh_allConfirmed (s : State) : s.fresh.allConfirmed = s.allConfirmed := by cases s; rfl
@[simp] theorem State.fresh_shadowsBuilt (s : State) : s.fresh.shadowsBuilt = s.shadowsBuilt := by cases s; rfl
@[simp] theorem State.fresh_mayRetry (s : State) : s.fresh.mayRetry = s.mayRetry := by cases s; rfl
@[simp] theorem State.fresh_refusal (s : State) : s.fresh.refusal = s.refusal := by cases s; rfl
@[simp] theorem State.fresh_resolved (s : State) : s.fresh.resolved = s.resolved := by cases s; rfl
@[simp] theorem State.fresh_unfinished (s : State) : s.fresh.unfinished = s.unfinished := by cases s; rfl
@[simp] theorem State.fresh_swapTaken (s : State) : s.fresh.swapTaken = s.swapTaken := by cases s; rfl
@[simp] theorem State.fresh_endsNow (s : State) : s.fresh.endsNow = s.endsNow := by cases s; rfl
@[simp] theorem State.fresh_hostsForeign (s : State) : s.fresh.hostsForeign = s.hostsForeign := by cases s; rfl
@[simp] theorem State.fresh_ownRecord (s : State) : s.fresh.ownRecord = s.ownRecord := by cases s; rfl
@[simp] theorem State.fresh_foreignRecords (s : State) : s.fresh.foreignRecords = s.foreignRecords := by cases s; rfl
@[simp] theorem State.fresh_numbered (s : State) : s.fresh.numbered = s.numbered := by cases s; rfl
@[simp] theorem State.fresh_facing (s : State) : s.fresh.facing = s.facing := by cases s; rfl
@[simp] theorem State.fresh_leadHoist (s : State) : s.fresh.leadHoist = s.leadHoist := by cases s; rfl
@[simp] theorem State.fresh_strikable (s : State) : s.fresh.strikable = s.strikable := by cases s; rfl
@[simp] theorem State.fresh_mayTrigger (s : State) : s.fresh.mayTrigger = s.mayTrigger := by cases s; rfl
@[simp] theorem State.fresh_source (s : State) : s.fresh.source = s.source := by cases s; rfl
@[simp] theorem State.fresh_mapBad (s : State) : s.fresh.mapBad = s.mapBad := by cases s; rfl
@[simp] theorem State.fresh_mine (s : State) : s.fresh.mine = s.mine := by cases s; rfl
@[simp] theorem State.fresh_hostRefusal (s : State) : s.fresh.hostRefusal = s.hostRefusal := by cases s; rfl
@[simp] theorem State.fresh_digitalImage (s : State) : s.fresh.digitalImage = s.digitalImage := by cases s; rfl
@[simp] theorem State.fresh_loopImage (s : State) : s.fresh.loopImage = s.loopImage := by cases s; rfl
@[simp] theorem State.fresh_badDigital (s : State) : s.fresh.badDigital = s.badDigital := by cases s; rfl
@[simp] theorem State.fresh_badLoop (s : State) : s.fresh.badLoop = s.badLoop := by cases s; rfl
@[simp] theorem State.fresh_tjMax (s : State) : s.fresh.tjMax = s.tjMax := by cases s; rfl
@[simp] theorem State.fresh_ecoFloor (s : State) : s.fresh.ecoFloor = s.ecoFloor := by cases s; rfl
@[simp] theorem State.fresh_legLink (s : State) : s.fresh.legLink = s.legLink := by cases s; rfl
@[simp] theorem State.fresh_legOper (s : State) : s.fresh.legOper = s.legOper := by cases s; rfl
@[simp] theorem State.fresh_frameEnd (s : State) : s.fresh.frameEnd = s.frameEnd := by cases s; rfl
@[simp] theorem State.fresh_canNum (s : State) : s.fresh.canNum = s.canNum := by cases s; rfl
@[simp] theorem State.fresh_timedEntry (s : State) : s.fresh.timedEntry = s.timedEntry := by cases s; rfl
@[simp] theorem State.fresh_mvbOn (s : State) : s.fresh.mvbOn = s.mvbOn := by cases s; rfl
@[simp] theorem State.fresh_pollsOf (s : State) : s.fresh.pollsOf = s.pollsOf := by cases s; rfl
@[simp] theorem State.fresh_wtbOn (s : State) : s.fresh.wtbOn = s.wtbOn := by cases s; rfl
@[simp] theorem State.fresh_canOn (s : State) : s.fresh.canOn = s.canOn := by cases s; rfl
@[simp] theorem State.fresh_canNext (s : State) : s.fresh.canNext = s.canNext := by cases s; rfl
@[simp] theorem State.fresh_serMatch (s : State) : s.fresh.serMatch = s.serMatch := by cases s; rfl
@[simp] theorem State.fresh_cycleCfg (s : State) : s.fresh.cycleCfg = s.cycleCfg := by cases s; rfl
@[simp] theorem State.fresh_tf (s : State) : s.fresh.tf = s.tf := by cases s; rfl
@[simp] theorem State.fresh_egressOk (s : State) : s.fresh.egressOk = s.egressOk := by cases s; rfl
@[simp] theorem State.fresh_afterPennant (s : State) : s.fresh.afterPennant = s.afterPennant := by cases s; rfl
@[simp] theorem State.fresh_lanesClear (s : State) : s.fresh.lanesClear = s.lanesClear := by cases s; rfl
@[simp] theorem State.fresh_linkLoadOk (s : State) : s.fresh.linkLoadOk = s.linkLoadOk := by cases s; rfl
@[simp] theorem State.fresh_bankCheck (s : State) : s.fresh.bankCheck = s.bankCheck := by cases s; rfl
@[simp] theorem State.fresh_layoutWord (s : State) : s.fresh.layoutWord = s.layoutWord := by cases s; rfl
@[simp] theorem State.fresh_layoutOn (s : State) : s.fresh.layoutOn = s.layoutOn := by cases s; rfl
@[simp] theorem State.fresh_layoutMsg (s : State) : s.fresh.layoutMsg = s.layoutMsg := by cases s; rfl
@[simp] theorem State.fresh_layoutSize (s : State) : s.fresh.layoutSize = s.layoutSize := by cases s; rfl
@[simp] theorem State.fresh_layoutMode (s : State) : s.fresh.layoutMode = s.layoutMode := by cases s; rfl
@[simp] theorem State.fresh_layoutSafety (s : State) : s.fresh.layoutSafety = s.layoutSafety := by cases s; rfl
@[simp] theorem State.fresh_layoutTrigger (s : State) : s.fresh.layoutTrigger = s.layoutTrigger := by cases s; rfl
@[simp] theorem State.fresh_layoutOffset (s : State) : s.fresh.layoutOffset = s.layoutOffset := by cases s; rfl
@[simp] theorem State.fresh_layoutSafetyId (s : State) : s.fresh.layoutSafetyId = s.layoutSafetyId := by cases s; rfl
@[simp] theorem State.fresh_layouts (s : State) : s.fresh.layouts = s.layouts := by cases s; rfl
@[simp] theorem State.fresh_layoutOf (s : State) : s.fresh.layoutOf = s.layoutOf := by cases s; rfl
@[simp] theorem State.fresh_mvbEntry (s : State) : s.fresh.mvbEntry = s.mvbEntry := by cases s; rfl
@[simp] theorem State.fresh_canEntry (s : State) : s.fresh.canEntry = s.canEntry := by cases s; rfl
@[simp] theorem State.fresh_serEntry (s : State) : s.fresh.serEntry = s.serEntry := by cases s; rfl
@[simp] theorem State.fresh_portMsgOk (s : State) : s.fresh.portMsgOk = s.portMsgOk := by cases s; rfl
@[simp] theorem State.fresh_srcMsgOk (s : State) : s.fresh.srcMsgOk = s.srcMsgOk := by cases s; rfl
@[simp] theorem State.fresh_destSize (s : State) : s.fresh.destSize = s.destSize := by cases s; rfl
@[simp] theorem State.fresh_bindBank (s : State) : s.fresh.bindBank = s.bindBank := by cases s; rfl
@[simp] theorem State.fresh_binding (s : State) : s.fresh.binding = s.binding := by cases s; rfl
@[simp] theorem State.fresh_record (s : State) : s.fresh.record = s.record := by cases s; rfl
@[simp] theorem State.fresh_recordIndex (s : State) : s.fresh.recordIndex = s.recordIndex := by cases s; rfl
@[simp] theorem State.fresh_auxRecs (s : State) : s.fresh.auxRecs = s.auxRecs := by cases s; rfl
@[simp] theorem State.fresh_sourcesOf (s : State) : s.fresh.sourcesOf = s.sourcesOf := by cases s; rfl
@[simp] theorem State.fresh_destsOf (s : State) : s.fresh.destsOf = s.destsOf := by cases s; rfl
@[simp] theorem State.fresh_transformOk (s : State) : s.fresh.transformOk = s.transformOk := by cases s; rfl
@[simp] theorem State.fresh_sourceOk (s : State) : s.fresh.sourceOk = s.sourceOk := by cases s; rfl
@[simp] theorem State.fresh_destOk (s : State) : s.fresh.destOk = s.destOk := by cases s; rfl
@[simp] theorem State.fresh_smeChecks (s : State) : s.fresh.smeChecks = s.smeChecks := by cases s; rfl
@[simp] theorem State.fresh_smeFault (s : State) : s.fresh.smeFault = s.smeFault := by cases s; rfl
@[simp] theorem State.fresh_malformed (s : State) : s.fresh.malformed = s.malformed := by cases s; rfl
@[simp] theorem State.fresh_recordsOf (s : State) : s.fresh.recordsOf = s.recordsOf := by cases s; rfl
@[simp] theorem State.fresh_signalsIn (s : State) : s.fresh.signalsIn = s.signalsIn := by cases s; rfl
@[simp] theorem State.fresh_fanoutOf (s : State) : s.fresh.fanoutOf = s.fanoutOf := by cases s; rfl
@[simp] theorem State.fresh_clockLost (s : State) : s.fresh.clockLost = s.clockLost := by cases s; rfl
@[simp] theorem State.fresh_frame (s : State) : s.fresh.frame = s.frame := by cases s; rfl
@[simp] theorem State.fresh_endDelay (s : State) : s.fresh.endDelay = s.endDelay := by cases s; rfl
@[simp] theorem State.fresh_rd (s : State) : s.fresh.rd = s.rd := by cases s; rfl
@[simp] theorem State.fresh_on (s : State) : s.fresh.on = s.on := by cases s; rfl
@[simp] theorem State.fresh_rdS (s : State) : s.fresh.rdS = s.rdS := by cases s; rfl
@[simp] theorem State.fresh_ts (s : State) : s.fresh.ts = s.ts := by cases s; rfl
@[simp] theorem State.fresh_operOf (s : State) : s.fresh.operOf = s.operOf := by cases s; rfl
@[simp] theorem State.fresh_ep (s : State) : s.fresh.ep = s.ep := by cases s; rfl
@[simp] theorem State.fresh_usable (s : State) : s.fresh.usable = s.usable := by cases s; rfl
@[simp] theorem State.fresh_ringOpen (s : State) : s.fresh.ringOpen = s.ringOpen := by cases s; rfl
@[simp] theorem State.fresh_maintEn (s : State) : s.fresh.maintEn = s.maintEn := by cases s; rfl
@[simp] theorem State.fresh_cfgOf (s : State) : s.fresh.cfgOf = s.cfgOf := by cases s; rfl
@[simp] theorem State.fresh_consistent (s : State) : s.fresh.consistent = s.consistent := by cases s; rfl
@[simp] theorem State.fresh_longCount (s : State) : s.fresh.longCount = s.longCount := by cases s; rfl
@[simp] theorem State.fresh_epochOk (s : State) : s.fresh.epochOk = s.epochOk := by cases s; rfl
@[simp] theorem State.fresh_uidOfNode (s : State) : s.fresh.uidOfNode = s.uidOfNode := by cases s; rfl
@[simp] theorem State.fresh_nodeOfUid (s : State) : s.fresh.nodeOfUid = s.nodeOfUid := by cases s; rfl
@[simp] theorem State.fresh_originSilent (s : State) : s.fresh.originSilent = s.originSilent := by cases s; rfl
@[simp] theorem State.fresh_isLocal (s : State) : s.fresh.isLocal = s.isLocal := by cases s; rfl
@[simp] theorem State.fresh_openCount (s : State) : s.fresh.openCount = s.openCount := by cases s; rfl
@[simp] theorem State.fresh_freeTag (s : State) : s.fresh.freeTag = s.freeTag := by cases s; rfl
@[simp] theorem State.fresh_subjectOf (s : State) : s.fresh.subjectOf = s.subjectOf := by cases s; rfl
@[simp] theorem State.fresh_cycle (s : State) : s.fresh.cycle = s.cycle := by cases s; rfl
@[simp] theorem State.fresh_isLead (s : State) : s.fresh.isLead = s.isLead := by cases s; rfl
@[simp] theorem State.fresh_keepsCycle (s : State) : s.fresh.keepsCycle = s.keepsCycle := by cases s; rfl
@[simp] theorem State.fresh_isPair (s : State) : s.fresh.isPair = s.isPair := by cases s; rfl
@[simp] theorem State.fresh_isE1Node (s : State) : s.fresh.isE1Node = s.isE1Node := by cases s; rfl
@[simp] theorem State.fresh_facingEnds (s : State) : s.fresh.facingEnds = s.facingEnds := by cases s; rfl
@[simp] theorem State.fresh_guidonLanes (s : State) : s.fresh.guidonLanes = s.guidonLanes := by cases s; rfl
@[simp] theorem State.fresh_bbMissed (s : State) : s.fresh.bbMissed = s.bbMissed := by cases s; rfl
@[simp] theorem State.fresh_directoryPartner (s : State) : s.fresh.directoryPartner = s.directoryPartner := by cases s; rfl
@[simp] theorem State.fresh_guidonGap (s : State) : s.fresh.guidonGap = s.guidonGap := by cases s; rfl
@[simp] theorem State.fresh_healthy (s : State) : s.fresh.healthy = s.healthy := by cases s; rfl
@[simp] theorem State.fresh_partnerSeen (s : State) : s.fresh.partnerSeen = s.partnerSeen := by cases s; rfl
@[simp] theorem State.fresh_guidonHeader (s : State) : s.fresh.guidonHeader = s.guidonHeader := by cases s; rfl
@[simp] theorem State.fresh_pairRole (s : State) : s.fresh.pairRole = s.pairRole := by cases s; rfl
@[simp] theorem State.fresh_partnerState (s : State) : s.fresh.partnerState = s.partnerState := by cases s; rfl
@[simp] theorem State.fresh_partnerReady (s : State) : s.fresh.partnerReady = s.partnerReady := by cases s; rfl
@[simp] theorem State.fresh_leftMs (s : State) : s.fresh.leftMs = s.leftMs := by cases s; rfl
@[simp] theorem State.fresh_semLeft (s : State) : s.fresh.semLeft = s.semLeft := by cases s; rfl
@[simp] theorem State.fresh_pauseLeft (s : State) : s.fresh.pauseLeft = s.pauseLeft := by cases s; rfl
@[simp] theorem State.fresh_chanLeft (s : State) : s.fresh.chanLeft = s.chanLeft := by cases s; rfl
@[simp] theorem State.fresh_masked (s : State) : s.fresh.masked = s.masked := by cases s; rfl
@[simp] theorem State.fresh_wordBad (s : State) : s.fresh.wordBad = s.wordBad := by cases s; rfl
@[simp] theorem State.fresh_fieldBad (s : State) : s.fresh.fieldBad = s.fieldBad := by cases s; rfl
@[simp] theorem State.fresh_hostSignal (s : State) : s.fresh.hostSignal = s.hostSignal := by cases s; rfl
@[simp] theorem State.fresh_legBusy (s : State) : s.fresh.legBusy = s.legBusy := by cases s; rfl
@[simp] theorem State.fresh_ringBusy (s : State) : s.fresh.ringBusy = s.ringBusy := by cases s; rfl
@[simp] theorem State.fresh_stateBad (s : State) : s.fresh.stateBad = s.stateBad := by cases s; rfl
@[simp] theorem State.fresh_hostLost (s : State) : s.fresh.hostLost = s.hostLost := by cases s; rfl
@[simp] theorem State.fresh_resSum (s : State) : s.fresh.resSum = s.resSum := by cases s; rfl
@[simp] theorem State.fresh_acctSize (s : State) : s.fresh.acctSize = s.acctSize := by cases s; rfl
@[simp] theorem State.fresh_unreserved (s : State) : s.fresh.unreserved = s.unreserved := by cases s; rfl
@[simp] theorem State.fresh_acctUsed (s : State) : s.fresh.acctUsed = s.acctUsed := by cases s; rfl
@[simp] theorem State.fresh_sharedOf (s : State) : s.fresh.sharedOf = s.sharedOf := by cases s; rfl
@[simp] theorem State.fresh_heldOf (s : State) : s.fresh.heldOf = s.heldOf := by cases s; rfl
@[simp] theorem State.fresh_queueOf (s : State) : s.fresh.queueOf = s.queueOf := by cases s; rfl
@[simp] theorem State.fresh_macUp (s : State) : s.fresh.macUp = s.macUp := by cases s; rfl
@[simp] theorem State.fresh_portAsleep (s : State) : s.fresh.portAsleep = s.portAsleep := by cases s; rfl
@[simp] theorem State.fresh_domainInUse (s : State) : s.fresh.domainInUse = s.domainInUse := by cases s; rfl
@[simp] theorem State.fresh_kindLimit (s : State) : s.fresh.kindLimit = s.kindLimit := by cases s; rfl
@[simp] theorem State.fresh_domainOff (s : State) : s.fresh.domainOff = s.domainOff := by cases s; rfl
@[simp] theorem State.fresh_deepest (s : State) : s.fresh.deepest = s.deepest := by cases s; rfl
@[simp] theorem State.fresh_domainOper (s : State) : s.fresh.domainOper = s.domainOper := by cases s; rfl
@[simp] theorem State.fresh_rings (s : State) : s.fresh.rings = s.rings := by cases s; rfl
@[simp] theorem State.fresh_axleStep (s : State) : s.fresh.axleStep = s.axleStep := by cases s; rfl
@[simp] theorem State.fresh_axle (s : State) : s.fresh.axle = s.axle := by cases s; rfl
@[simp] theorem State.fresh_axleVel (s : State) : s.fresh.axleVel = s.axleVel := by cases s; rfl
@[simp] theorem State.fresh_axlePos (s : State) : s.fresh.axlePos = s.axlePos := by cases s; rfl
@[simp] theorem State.fresh_axleOn (s : State) : s.fresh.axleOn = s.axleOn := by cases s; rfl
@[simp] theorem State.fresh_included (s : State) : s.fresh.included = s.included := by cases s; rfl
@[simp] theorem State.fresh_slipRef2 (s : State) : s.fresh.slipRef2 = s.slipRef2 := by cases s; rfl
@[simp] theorem State.fresh_disagrees (s : State) : s.fresh.disagrees = s.disagrees := by cases s; rfl
@[simp] theorem State.fresh_odoSign (s : State) : s.fresh.odoSign = s.odoSign := by cases s; rfl
@[simp] theorem State.fresh_ownPosFlags (s : State) : s.fresh.ownPosFlags = s.ownPosFlags := by cases s; rfl
@[simp] theorem State.fresh_positionAt (s : State) : s.fresh.positionAt = s.positionAt := by cases s; rfl
@[simp] theorem State.fresh_pennantPos (s : State) : s.fresh.pennantPos = s.pennantPos := by cases s; rfl
@[simp] theorem State.fresh_baliseDelta (s : State) : s.fresh.baliseDelta = s.baliseDelta := by cases s; rfl
@[simp] theorem State.fresh_lineAngle (s : State) : s.fresh.lineAngle = s.lineAngle := by cases s; rfl
@[simp] theorem State.fresh_bandOk (s : State) : s.fresh.bandOk = s.bandOk := by cases s; rfl
@[simp] theorem State.fresh_cutCommits (s : State) : s.fresh.cutCommits = s.cutCommits := by cases s; rfl
@[simp] theorem State.fresh_feed (s : State) : s.fresh.feed = s.feed := by cases s; rfl
@[simp] theorem State.fresh_startFeed (s : State) : s.fresh.startFeed = s.startFeed := by cases s; rfl
@[simp] theorem State.fresh_feedLeft (s : State) : s.fresh.feedLeft = s.feedLeft := by cases s; rfl
@[simp] theorem State.fresh_resumeBody (s : State) : s.fresh.resumeBody = s.resumeBody := by cases s; rfl
@[simp] theorem State.fresh_txImage (s : State) : s.fresh.txImage = s.txImage := by cases s; rfl
@[simp] theorem State.fresh_serQueue (s : State) : s.fresh.serQueue = s.serQueue := by cases s; rfl
@[simp] theorem State.fresh_gateOpen (s : State) : s.fresh.gateOpen = s.gateOpen := by cases s; rfl
@[simp] theorem State.fresh_canGated (s : State) : s.fresh.canGated = s.canGated := by cases s; rfl
@[simp] theorem State.fresh_serGated (s : State) : s.fresh.serGated = s.serGated := by cases s; rfl
@[simp] theorem State.fresh_mvbGated (s : State) : s.fresh.mvbGated = s.mvbGated := by cases s; rfl
@[simp] theorem State.fresh_wtbGated (s : State) : s.fresh.wtbGated = s.wtbGated := by cases s; rfl
@[simp] theorem State.fresh_egressFrame (s : State) : s.fresh.egressFrame = s.egressFrame := by cases s; rfl
@[simp] theorem State.fresh_image (s : State) : s.fresh.image = s.image := by cases s; rfl
@[simp] theorem State.fresh_isOwn (s : State) : s.fresh.isOwn = s.isOwn := by cases s; rfl
@[simp] theorem State.fresh_ingressOf (s : State) : s.fresh.ingressOf = s.ingressOf := by cases s; rfl
@[simp] theorem State.fresh_windowError (s : State) : s.fresh.windowError = s.windowError := by cases s; rfl
@[simp] theorem State.fresh_hopLimited (s : State) : s.fresh.hopLimited = s.hopLimited := by cases s; rfl
@[simp] theorem State.fresh_slotMessages (s : State) : s.fresh.slotMessages = s.slotMessages := by cases s; rfl
@[simp] theorem State.fresh_keepsDup (s : State) : s.fresh.keepsDup = s.keepsDup := by cases s; rfl
@[simp] theorem State.fresh_window (s : State) : s.fresh.window = s.window := by cases s; rfl
@[simp] theorem State.fresh_inWindow (s : State) : s.fresh.inWindow = s.inWindow := by cases s; rfl
@[simp] theorem State.fresh_freeWindow (s : State) : s.fresh.freeWindow = s.freeWindow := by cases s; rfl
@[simp] theorem State.fresh_windowPast (s : State) : s.fresh.windowPast = s.windowPast := by cases s; rfl
@[simp] theorem State.fresh_event (s : State) : s.fresh.event = s.event := by cases s; rfl
@[simp] theorem State.fresh_evState (s : State) : s.fresh.evState = s.evState := by cases s; rfl
@[simp] theorem State.fresh_evOpen (s : State) : s.fresh.evOpen = s.evOpen := by cases s; rfl
@[simp] theorem State.fresh_localOf (s : State) : s.fresh.localOf = s.localOf := by cases s; rfl
@[simp] theorem State.fresh_baseInvalid (s : State) : s.fresh.baseInvalid = s.baseInvalid := by cases s; rfl
@[simp] theorem State.fresh_freeEvent (s : State) : s.fresh.freeEvent = s.freeEvent := by cases s; rfl
@[simp] theorem State.fresh_descOk (s : State) : s.fresh.descOk = s.descOk := by cases s; rfl
@[simp] theorem State.fresh_withDelays (s : State) : s.fresh.withDelays = s.withDelays := by cases s; rfl
@[simp] theorem State.fresh_slotCheck (s : State) : s.fresh.slotCheck = s.slotCheck := by cases s; rfl
@[simp] theorem State.fresh_descsOk (s : State) : s.fresh.descsOk = s.descsOk := by cases s; rfl
@[simp] theorem State.fresh_mapOk (s : State) : s.fresh.mapOk = s.mapOk := by cases s; rfl
@[simp] theorem State.fresh_layoutsUsed (s : State) : s.fresh.layoutsUsed = s.layoutsUsed := by cases s; rfl
@[simp] theorem State.fresh_needsOk (s : State) : s.fresh.needsOk = s.needsOk := by cases s; rfl
@[simp] theorem State.fresh_routesOk (s : State) : s.fresh.routesOk = s.routesOk := by cases s; rfl
@[simp] theorem State.fresh_resOk (s : State) : s.fresh.resOk = s.resOk := by cases s; rfl
@[simp] theorem State.fresh_pollNs (s : State) : s.fresh.pollNs = s.pollNs := by cases s; rfl
@[simp] theorem State.fresh_mvbOk (s : State) : s.fresh.mvbOk = s.mvbOk := by cases s; rfl
@[simp] theorem State.fresh_canOk (s : State) : s.fresh.canOk = s.canOk := by cases s; rfl
@[simp] theorem State.fresh_serOk (s : State) : s.fresh.serOk = s.serOk := by cases s; rfl
@[simp] theorem State.fresh_legOk (s : State) : s.fresh.legOk = s.legOk := by cases s; rfl
@[simp] theorem State.fresh_fieldOk (s : State) : s.fresh.fieldOk = s.fieldOk := by cases s; rfl
@[simp] theorem State.fresh_guardedOk (s : State) : s.fresh.guardedOk = s.guardedOk := by cases s; rfl
@[simp] theorem State.fresh_windowWord (s : State) : s.fresh.windowWord = s.windowWord := by cases s; rfl
@[simp] theorem State.fresh_valueRecord (s : State) : s.fresh.valueRecord = s.valueRecord := by cases s; rfl
@[simp] theorem State.fresh_switchable (s : State) : s.fresh.switchable = s.switchable := by cases s; rfl
@[simp] theorem State.fresh_headerReason (s : State) : s.fresh.headerReason = s.headerReason := by cases s; rfl
@[simp] theorem State.fresh_slotBytes (s : State) : s.fresh.slotBytes = s.slotBytes := by cases s; rfl
@[simp] theorem State.fresh_slotValid (s : State) : s.fresh.slotValid = s.slotValid := by cases s; rfl
@[simp] theorem State.fresh_runs (s : State) : s.fresh.runs = s.runs := by cases s; rfl
@[simp] theorem State.fresh_committing (s : State) : s.fresh.committing = s.committing := by cases s; rfl
@[simp] theorem State.fresh_stagedGood (s : State) : s.fresh.stagedGood = s.stagedGood := by cases s; rfl
@[simp] theorem State.fresh_applyImage (s : State) : s.fresh.applyImage = s.applyImage := by cases s; rfl
@[simp] theorem State.fresh_otherUsable (s : State) : s.fresh.otherUsable = s.otherUsable := by cases s; rfl
@[simp] theorem State.fresh_bankArmed (s : State) : s.fresh.bankArmed = s.bankArmed := by cases s; rfl
@[simp] theorem State.fresh_bootRecord (s : State) : s.fresh.bootRecord = s.bootRecord := by cases s; rfl
@[simp] theorem State.fresh_dly (s : State) : s.fresh.dly = s.dly := by cases s; rfl
@[simp] theorem State.fresh_laneDelay (s : State) : s.fresh.laneDelay = s.laneDelay := by cases s; rfl
@[simp] theorem State.fresh_slew (s : State) : s.fresh.slew = s.slew := by cases s; rfl
@[simp] theorem State.fresh_rate (s : State) : s.fresh.rate = s.rate := by cases s; rfl
@[simp] theorem State.fresh_timeSource (s : State) : s.fresh.timeSource = s.timeSource := by cases s; rfl
@[simp] theorem State.fresh_timeQuality (s : State) : s.fresh.timeQuality = s.timeQuality := by cases s; rfl
@[simp] theorem State.fresh_armedStep (s : State) : s.fresh.armedStep = s.armedStep := by cases s; rfl
@[simp] theorem State.fresh_ref (s : State) : s.fresh.ref = s.ref := by cases s; rfl
@[simp] theorem State.fresh_refState (s : State) : s.fresh.refState = s.refState := by cases s; rfl
@[simp] theorem State.fresh_wantedRef (s : State) : s.fresh.wantedRef = s.wantedRef := by cases s; rfl
@[simp] theorem State.fresh_phaseError (s : State) : s.fresh.phaseError = s.phaseError := by cases s; rfl
@[simp] theorem State.fresh_todOn (s : State) : s.fresh.todOn = s.todOn := by cases s; rfl
@[simp] theorem State.fresh_ptpPort (s : State) : s.fresh.ptpPort = s.ptpPort := by cases s; rfl
@[simp] theorem State.fresh_ownClass (s : State) : s.fresh.ownClass = s.ownClass := by cases s; rfl
@[simp] theorem State.fresh_ownKey (s : State) : s.fresh.ownKey = s.ownKey := by cases s; rfl
@[simp] theorem State.fresh_mayBeSlave (s : State) : s.fresh.mayBeSlave = s.mayBeSlave := by cases s; rfl
@[simp] theorem State.fresh_qsgRx (s : State) : s.fresh.qsgRx = s.qsgRx := by cases s; rfl
@[simp] theorem State.fresh_ppsOutAllowed (s : State) : s.fresh.ppsOutAllowed = s.ppsOutAllowed := by cases s; rfl
@[simp] theorem State.fresh_ahead (s : State) : s.fresh.ahead = s.ahead := by cases s; rfl
@[simp] theorem State.fresh_positionNow (s : State) : s.fresh.positionNow = s.positionNow := by cases s; rfl
@[simp] theorem State.fresh_pathOpen (s : State) : s.fresh.pathOpen = s.pathOpen := by cases s; rfl

end Sys2Proof.Machine
end

