-- ==== Sys2Proof/Laws/State.lean ====
section
/-!
SUPPORT. What the named operations on the state leave alone, field by field: a register write changes `regs` only, an output
`out` only.
-/
namespace Sys2Proof.Machine
open Sys2Proof

@[simp] theorem State.wr_out (s : State) (f : Fld) (v : Nat) : (s.wr f v).out = s.out := rfl
@[simp] theorem State.wr_clk (s : State) (f : Fld) (v : Nat) : (s.wr f v).clk = s.clk := rfl
@[simp] theorem State.wr_sys (s : State) (f : Fld) (v : Nat) : (s.wr f v).sys = s.sys := rfl
@[simp] theorem State.wr_cmd (s : State) (f : Fld) (v : Nat) : (s.wr f v).cmd = s.cmd := rfl
@[simp] theorem State.wr_bkb (s : State) (f : Fld) (v : Nat) : (s.wr f v).bkb = s.bkb := rfl
@[simp] theorem State.wr_tcy (s : State) (f : Fld) (v : Nat) : (s.wr f v).tcy = s.tcy := rfl
@[simp] theorem State.wr_hst (s : State) (f : Fld) (v : Nat) : (s.wr f v).hst = s.hst := rfl
@[simp] theorem State.wr_rab (s : State) (f : Fld) (v : Nat) : (s.wr f v).rab = s.rab := rfl
@[simp] theorem State.wr_net (s : State) (f : Fld) (v : Nat) : (s.wr f v).net = s.net := rfl
@[simp] theorem State.wr_sch (s : State) (f : Fld) (v : Nat) : (s.wr f v).sch = s.sch := rfl
@[simp] theorem State.wr_tim (s : State) (f : Fld) (v : Nat) : (s.wr f v).tim = s.tim := rfl
@[simp] theorem State.wr_pos (s : State) (f : Fld) (v : Nat) : (s.wr f v).pos = s.pos := rfl
@[simp] theorem State.wr_sig (s : State) (f : Fld) (v : Nat) : (s.wr f v).sig = s.sig := rfl
@[simp] theorem State.wr_eng (s : State) (f : Fld) (v : Nat) : (s.wr f v).eng = s.eng := rfl
@[simp] theorem State.wr_fld (s : State) (f : Fld) (v : Nat) : (s.wr f v).fld = s.fld := rfl
@[simp] theorem State.wr_pair (s : State) (f : Fld) (v : Nat) : (s.wr f v).pair = s.pair := rfl
@[simp] theorem State.wr_lad (s : State) (f : Fld) (v : Nat) : (s.wr f v).lad = s.lad := rfl
@[simp] theorem State.wr_leg (s : State) (f : Fld) (v : Nat) : (s.wr f v).leg = s.leg := rfl
@[simp] theorem State.wr_sto (s : State) (f : Fld) (v : Nat) : (s.wr f v).sto = s.sto := rfl
@[simp] theorem State.wr_free (s : State) (f : Fld) (v : Nat) : (s.wr f v).free = s.free := rfl
@[simp] theorem State.wr_pending (s : State) (f : Fld) (v : Nat) : (s.wr f v).pending = s.pending := rfl
@[simp] theorem State.incBy_out (s : State) (f : Fld) (n : Nat) : (s.incBy f n).out = s.out := rfl
@[simp] theorem State.incBy_clk (s : State) (f : Fld) (n : Nat) : (s.incBy f n).clk = s.clk := rfl
@[simp] theorem State.incBy_sys (s : State) (f : Fld) (n : Nat) : (s.incBy f n).sys = s.sys := rfl
@[simp] theorem State.incBy_cmd (s : State) (f : Fld) (n : Nat) : (s.incBy f n).cmd = s.cmd := rfl
@[simp] theorem State.incBy_bkb (s : State) (f : Fld) (n : Nat) : (s.incBy f n).bkb = s.bkb := rfl
@[simp] theorem State.incBy_tcy (s : State) (f : Fld) (n : Nat) : (s.incBy f n).tcy = s.tcy := rfl
@[simp] theorem State.incBy_hst (s : State) (f : Fld) (n : Nat) : (s.incBy f n).hst = s.hst := rfl
@[simp] theorem State.incBy_rab (s : State) (f : Fld) (n : Nat) : (s.incBy f n).rab = s.rab := rfl
@[simp] theorem State.incBy_net (s : State) (f : Fld) (n : Nat) : (s.incBy f n).net = s.net := rfl
@[simp] theorem State.incBy_sch (s : State) (f : Fld) (n : Nat) : (s.incBy f n).sch = s.sch := rfl
@[simp] theorem State.incBy_tim (s : State) (f : Fld) (n : Nat) : (s.incBy f n).tim = s.tim := rfl
@[simp] theorem State.incBy_pos (s : State) (f : Fld) (n : Nat) : (s.incBy f n).pos = s.pos := rfl
@[simp] theorem State.incBy_sig (s : State) (f : Fld) (n : Nat) : (s.incBy f n).sig = s.sig := rfl
@[simp] theorem State.incBy_eng (s : State) (f : Fld) (n : Nat) : (s.incBy f n).eng = s.eng := rfl
@[simp] theorem State.incBy_fld (s : State) (f : Fld) (n : Nat) : (s.incBy f n).fld = s.fld := rfl
@[simp] theorem State.incBy_pair (s : State) (f : Fld) (n : Nat) : (s.incBy f n).pair = s.pair := rfl
@[simp] theorem State.incBy_lad (s : State) (f : Fld) (n : Nat) : (s.incBy f n).lad = s.lad := rfl
@[simp] theorem State.incBy_leg (s : State) (f : Fld) (n : Nat) : (s.incBy f n).leg = s.leg := rfl
@[simp] theorem State.incBy_sto (s : State) (f : Fld) (n : Nat) : (s.incBy f n).sto = s.sto := rfl
@[simp] theorem State.incBy_free (s : State) (f : Fld) (n : Nat) : (s.incBy f n).free = s.free := rfl
@[simp] theorem State.incBy_pending (s : State) (f : Fld) (n : Nat) : (s.incBy f n).pending = s.pending := rfl
@[simp] theorem State.inc_out (s : State) (f : Fld) : (s.inc f).out = s.out := rfl
@[simp] theorem State.inc_clk (s : State) (f : Fld) : (s.inc f).clk = s.clk := rfl
@[simp] theorem State.inc_sys (s : State) (f : Fld) : (s.inc f).sys = s.sys := rfl
@[simp] theorem State.inc_cmd (s : State) (f : Fld) : (s.inc f).cmd = s.cmd := rfl
@[simp] theorem State.inc_bkb (s : State) (f : Fld) : (s.inc f).bkb = s.bkb := rfl
@[simp] theorem State.inc_tcy (s : State) (f : Fld) : (s.inc f).tcy = s.tcy := rfl
@[simp] theorem State.inc_hst (s : State) (f : Fld) : (s.inc f).hst = s.hst := rfl
@[simp] theorem State.inc_rab (s : State) (f : Fld) : (s.inc f).rab = s.rab := rfl
@[simp] theorem State.inc_net (s : State) (f : Fld) : (s.inc f).net = s.net := rfl
@[simp] theorem State.inc_sch (s : State) (f : Fld) : (s.inc f).sch = s.sch := rfl
@[simp] theorem State.inc_tim (s : State) (f : Fld) : (s.inc f).tim = s.tim := rfl
@[simp] theorem State.inc_pos (s : State) (f : Fld) : (s.inc f).pos = s.pos := rfl
@[simp] theorem State.inc_sig (s : State) (f : Fld) : (s.inc f).sig = s.sig := rfl
@[simp] theorem State.inc_eng (s : State) (f : Fld) : (s.inc f).eng = s.eng := rfl
@[simp] theorem State.inc_fld (s : State) (f : Fld) : (s.inc f).fld = s.fld := rfl
@[simp] theorem State.inc_pair (s : State) (f : Fld) : (s.inc f).pair = s.pair := rfl
@[simp] theorem State.inc_lad (s : State) (f : Fld) : (s.inc f).lad = s.lad := rfl
@[simp] theorem State.inc_leg (s : State) (f : Fld) : (s.inc f).leg = s.leg := rfl
@[simp] theorem State.inc_sto (s : State) (f : Fld) : (s.inc f).sto = s.sto := rfl
@[simp] theorem State.inc_free (s : State) (f : Fld) : (s.inc f).free = s.free := rfl
@[simp] theorem State.inc_pending (s : State) (f : Fld) : (s.inc f).pending = s.pending := rfl
@[simp] theorem State.wrB_out (s : State) (f : Fld) (b : Bool) : (s.wrB f b).out = s.out := rfl
@[simp] theorem State.wrB_clk (s : State) (f : Fld) (b : Bool) : (s.wrB f b).clk = s.clk := rfl
@[simp] theorem State.wrB_sys (s : State) (f : Fld) (b : Bool) : (s.wrB f b).sys = s.sys := rfl
@[simp] theorem State.wrB_cmd (s : State) (f : Fld) (b : Bool) : (s.wrB f b).cmd = s.cmd := rfl
@[simp] theorem State.wrB_bkb (s : State) (f : Fld) (b : Bool) : (s.wrB f b).bkb = s.bkb := rfl
@[simp] theorem State.wrB_tcy (s : State) (f : Fld) (b : Bool) : (s.wrB f b).tcy = s.tcy := rfl
@[simp] theorem State.wrB_hst (s : State) (f : Fld) (b : Bool) : (s.wrB f b).hst = s.hst := rfl
@[simp] theorem State.wrB_rab (s : State) (f : Fld) (b : Bool) : (s.wrB f b).rab = s.rab := rfl
@[simp] theorem State.wrB_net (s : State) (f : Fld) (b : Bool) : (s.wrB f b).net = s.net := rfl
@[simp] theorem State.wrB_sch (s : State) (f : Fld) (b : Bool) : (s.wrB f b).sch = s.sch := rfl
@[simp] theorem State.wrB_tim (s : State) (f : Fld) (b : Bool) : (s.wrB f b).tim = s.tim := rfl
@[simp] theorem State.wrB_pos (s : State) (f : Fld) (b : Bool) : (s.wrB f b).pos = s.pos := rfl
@[simp] theorem State.wrB_sig (s : State) (f : Fld) (b : Bool) : (s.wrB f b).sig = s.sig := rfl
@[simp] theorem State.wrB_eng (s : State) (f : Fld) (b : Bool) : (s.wrB f b).eng = s.eng := rfl
@[simp] theorem State.wrB_fld (s : State) (f : Fld) (b : Bool) : (s.wrB f b).fld = s.fld := rfl
@[simp] theorem State.wrB_pair (s : State) (f : Fld) (b : Bool) : (s.wrB f b).pair = s.pair := rfl
@[simp] theorem State.wrB_lad (s : State) (f : Fld) (b : Bool) : (s.wrB f b).lad = s.lad := rfl
@[simp] theorem State.wrB_leg (s : State) (f : Fld) (b : Bool) : (s.wrB f b).leg = s.leg := rfl
@[simp] theorem State.wrB_sto (s : State) (f : Fld) (b : Bool) : (s.wrB f b).sto = s.sto := rfl
@[simp] theorem State.wrB_free (s : State) (f : Fld) (b : Bool) : (s.wrB f b).free = s.free := rfl
@[simp] theorem State.wrB_pending (s : State) (f : Fld) (b : Bool) : (s.wrB f b).pending = s.pending := rfl
@[simp] theorem State.wrS_out (s : State) (f : Fld) (v : Int) : (s.wrS f v).out = s.out := rfl
@[simp] theorem State.wrS_clk (s : State) (f : Fld) (v : Int) : (s.wrS f v).clk = s.clk := rfl
@[simp] theorem State.wrS_sys (s : State) (f : Fld) (v : Int) : (s.wrS f v).sys = s.sys := rfl
@[simp] theorem State.wrS_cmd (s : State) (f : Fld) (v : Int) : (s.wrS f v).cmd = s.cmd := rfl
@[simp] theorem State.wrS_bkb (s : State) (f : Fld) (v : Int) : (s.wrS f v).bkb = s.bkb := rfl
@[simp] theorem State.wrS_tcy (s : State) (f : Fld) (v : Int) : (s.wrS f v).tcy = s.tcy := rfl
@[simp] theorem State.wrS_hst (s : State) (f : Fld) (v : Int) : (s.wrS f v).hst = s.hst := rfl
@[simp] theorem State.wrS_rab (s : State) (f : Fld) (v : Int) : (s.wrS f v).rab = s.rab := rfl
@[simp] theorem State.wrS_net (s : State) (f : Fld) (v : Int) : (s.wrS f v).net = s.net := rfl
@[simp] theorem State.wrS_sch (s : State) (f : Fld) (v : Int) : (s.wrS f v).sch = s.sch := rfl
@[simp] theorem State.wrS_tim (s : State) (f : Fld) (v : Int) : (s.wrS f v).tim = s.tim := rfl
@[simp] theorem State.wrS_pos (s : State) (f : Fld) (v : Int) : (s.wrS f v).pos = s.pos := rfl
@[simp] theorem State.wrS_sig (s : State) (f : Fld) (v : Int) : (s.wrS f v).sig = s.sig := rfl
@[simp] theorem State.wrS_eng (s : State) (f : Fld) (v : Int) : (s.wrS f v).eng = s.eng := rfl
@[simp] theorem State.wrS_fld (s : State) (f : Fld) (v : Int) : (s.wrS f v).fld = s.fld := rfl
@[simp] theorem State.wrS_pair (s : State) (f : Fld) (v : Int) : (s.wrS f v).pair = s.pair := rfl
@[simp] theorem State.wrS_lad (s : State) (f : Fld) (v : Int) : (s.wrS f v).lad = s.lad := rfl
@[simp] theorem State.wrS_leg (s : State) (f : Fld) (v : Int) : (s.wrS f v).leg = s.leg := rfl
@[simp] theorem State.wrS_sto (s : State) (f : Fld) (v : Int) : (s.wrS f v).sto = s.sto := rfl
@[simp] theorem State.wrS_free (s : State) (f : Fld) (v : Int) : (s.wrS f v).free = s.free := rfl
@[simp] theorem State.wrS_pending (s : State) (f : Fld) (v : Int) : (s.wrS f v).pending = s.pending := rfl
@[simp] theorem State.emit_regs (s : State) (o : Output) : (s.emit o).regs = s.regs := rfl
@[simp] theorem State.emit_clk (s : State) (o : Output) : (s.emit o).clk = s.clk := rfl
@[simp] theorem State.emit_sys (s : State) (o : Output) : (s.emit o).sys = s.sys := rfl
@[simp] theorem State.emit_cmd (s : State) (o : Output) : (s.emit o).cmd = s.cmd := rfl
@[simp] theorem State.emit_bkb (s : State) (o : Output) : (s.emit o).bkb = s.bkb := rfl
@[simp] theorem State.emit_tcy (s : State) (o : Output) : (s.emit o).tcy = s.tcy := rfl
@[simp] theorem State.emit_hst (s : State) (o : Output) : (s.emit o).hst = s.hst := rfl
@[simp] theorem State.emit_rab (s : State) (o : Output) : (s.emit o).rab = s.rab := rfl
@[simp] theorem State.emit_net (s : State) (o : Output) : (s.emit o).net = s.net := rfl
@[simp] theorem State.emit_sch (s : State) (o : Output) : (s.emit o).sch = s.sch := rfl
@[simp] theorem State.emit_tim (s : State) (o : Output) : (s.emit o).tim = s.tim := rfl
@[simp] theorem State.emit_pos (s : State) (o : Output) : (s.emit o).pos = s.pos := rfl
@[simp] theorem State.emit_sig (s : State) (o : Output) : (s.emit o).sig = s.sig := rfl
@[simp] theorem State.emit_eng (s : State) (o : Output) : (s.emit o).eng = s.eng := rfl
@[simp] theorem State.emit_fld (s : State) (o : Output) : (s.emit o).fld = s.fld := rfl
@[simp] theorem State.emit_pair (s : State) (o : Output) : (s.emit o).pair = s.pair := rfl
@[simp] theorem State.emit_lad (s : State) (o : Output) : (s.emit o).lad = s.lad := rfl
@[simp] theorem State.emit_leg (s : State) (o : Output) : (s.emit o).leg = s.leg := rfl
@[simp] theorem State.emit_sto (s : State) (o : Output) : (s.emit o).sto = s.sto := rfl
@[simp] theorem State.emit_free (s : State) (o : Output) : (s.emit o).free = s.free := rfl
@[simp] theorem State.emit_pending (s : State) (o : Output) : (s.emit o).pending = s.pending := rfl
@[simp] theorem State.setEp_regs (s : State) (hb : Bool) (e : Endpoint) : (s.setEp hb e).regs = s.regs := by cases hb <;> rfl
@[simp] theorem State.setEp_out (s : State) (hb : Bool) (e : Endpoint) : (s.setEp hb e).out = s.out := by cases hb <;> rfl
@[simp] theorem State.setEp_clk (s : State) (hb : Bool) (e : Endpoint) : (s.setEp hb e).clk = s.clk := by cases hb <;> rfl
@[simp] theorem State.setEp_sys (s : State) (hb : Bool) (e : Endpoint) : (s.setEp hb e).sys = s.sys := by cases hb <;> rfl
@[simp] theorem State.setEp_bkb (s : State) (hb : Bool) (e : Endpoint) : (s.setEp hb e).bkb = s.bkb := by cases hb <;> rfl
@[simp] theorem State.setEp_tcy (s : State) (hb : Bool) (e : Endpoint) : (s.setEp hb e).tcy = s.tcy := by cases hb <;> rfl
@[simp] theorem State.setEp_hst (s : State) (hb : Bool) (e : Endpoint) : (s.setEp hb e).hst = s.hst := by cases hb <;> rfl
@[simp] theorem State.setEp_rab (s : State) (hb : Bool) (e : Endpoint) : (s.setEp hb e).rab = s.rab := by cases hb <;> rfl
@[simp] theorem State.setEp_net (s : State) (hb : Bool) (e : Endpoint) : (s.setEp hb e).net = s.net := by cases hb <;> rfl
@[simp] theorem State.setEp_sch (s : State) (hb : Bool) (e : Endpoint) : (s.setEp hb e).sch = s.sch := by cases hb <;> rfl
@[simp] theorem State.setEp_tim (s : State) (hb : Bool) (e : Endpoint) : (s.setEp hb e).tim = s.tim := by cases hb <;> rfl
@[simp] theorem State.setEp_pos (s : State) (hb : Bool) (e : Endpoint) : (s.setEp hb e).pos = s.pos := by cases hb <;> rfl
@[simp] theorem State.setEp_sig (s : State) (hb : Bool) (e : Endpoint) : (s.setEp hb e).sig = s.sig := by cases hb <;> rfl
@[simp] theorem State.setEp_eng (s : State) (hb : Bool) (e : Endpoint) : (s.setEp hb e).eng = s.eng := by cases hb <;> rfl
@[simp] theorem State.setEp_fld (s : State) (hb : Bool) (e : Endpoint) : (s.setEp hb e).fld = s.fld := by cases hb <;> rfl
@[simp] theorem State.setEp_pair (s : State) (hb : Bool) (e : Endpoint) : (s.setEp hb e).pair = s.pair := by cases hb <;> rfl
@[simp] theorem State.setEp_lad (s : State) (hb : Bool) (e : Endpoint) : (s.setEp hb e).lad = s.lad := by cases hb <;> rfl
@[simp] theorem State.setEp_leg (s : State) (hb : Bool) (e : Endpoint) : (s.setEp hb e).leg = s.leg := by cases hb <;> rfl
@[simp] theorem State.setEp_sto (s : State) (hb : Bool) (e : Endpoint) : (s.setEp hb e).sto = s.sto := by cases hb <;> rfl
@[simp] theorem State.setEp_free (s : State) (hb : Bool) (e : Endpoint) : (s.setEp hb e).free = s.free := by cases hb <;> rfl
@[simp] theorem State.setEp_pending (s : State) (hb : Bool) (e : Endpoint) : (s.setEp hb e).pending = s.pending := by cases hb <;> rfl

@[simp] theorem State.emit_out (s : State) (o : Output) : (s.emit o).out = s.out ++ [o] := rfl
@[simp] theorem State.when_true (s : State) (f : State → State) : s.when true f = f s := rfl
@[simp] theorem State.when_false (s : State) (f : State → State) : s.when false f = s := rfl

/-! A field reads the same while the register file is the same. -/

theorem State.rd_congr {s t : State} (h : s.regs = t.regs) (f : Fld) : s.rd f = t.rd f := by simp [State.rd, h]
@[simp] theorem State.emit_rd (s : State) (o : Output) (f : Fld) : (s.emit o).rd f = s.rd f := rfl
@[simp] theorem State.emit_on (s : State) (o : Output) (f : Fld) : (s.emit o).on f = s.on f := rfl
@[simp] theorem State.setEp_rd (s : State) (hb : Bool) (e : Endpoint) (f : Fld) : (s.setEp hb e).rd f = s.rd f := by
  cases hb <;> rfl

end Sys2Proof.Machine
end

