-- ==== Sys2Proof/Laws/Regs.lean ====
section
/-!
SUPPORT. The laws of the register file: a read gives what was last written under its key, a write leaves every other key
alone, and every write keeps the canonical form.
-/
namespace Sys2Proof.Machine
open Sys2Proof

theorem regGet_filter_same (k : Nat) (l : List (Nat × Nat)) : regGet k (l.filter (fun p => p.1 != k)) = 0 := by
  induction l with
  | nil => rfl
  | cons p l ih =>
    by_cases h : p.1 = k
    · simpa [List.filter_cons, h] using ih
    · simp [h, regGet, ih]

theorem regGet_filter_other {j k : Nat} (h : j ≠ k) (l : List (Nat × Nat)) :
    regGet j (l.filter (fun p => p.1 != k)) = regGet j l := by
  induction l with
  | nil => rfl
  | cons p l ih =>
    by_cases hp : p.1 = k
    · have : p.1 ≠ j := fun e => h (e.symm.trans hp)
      simp [hp, regGet, ih, h.symm]
    · simp [hp, regGet, ih]

theorem regGet_regIns_same (k v : Nat) (l : List (Nat × Nat)) (h : regGet k l = 0) (h' : ∀ p ∈ l, p.1 ≠ k) :
    regGet k (regIns k v l) = v := by
  induction l with
  | nil => simp [regIns, regGet]
  | cons p l ih =>
    have hp := h' p (by simp)
    by_cases hk : k < p.1
    · simp [regIns, hk, regGet]
    · simp only [regIns, hk, if_false, regGet, hp]
      exact ih (by simpa [regGet, hp] using h) (fun q hq => h' q (by simp [hq]))

theorem regGet_regIns_other {j k : Nat} (h : j ≠ k) (v : Nat) (l : List (Nat × Nat)) :
    regGet j (regIns k v l) = regGet j l := by
  induction l with
  | nil => simp [regIns, regGet, h.symm]
  | cons p l ih =>
    by_cases hk : k < p.1
    · simp [regIns, hk, regGet, h.symm]
    · simp [regIns, hk, regGet, ih]

/-- What was put under a key is what is read there. -/
theorem regGet_regPut_same (k v : Nat) (l : List (Nat × Nat)) : regGet k (regPut k v l) = v := by
  unfold regPut
  by_cases h : v = 0
  · simp [h, regGet_filter_same]
  · simp only [h, if_false]
    exact regGet_regIns_same k v _ (regGet_filter_same k l) (by simp)

/-- A put leaves every other key alone. -/
theorem regGet_regPut_other {j k : Nat} (h : j ≠ k) (v : Nat) (l : List (Nat × Nat)) :
    regGet j (regPut k v l) = regGet j l := by
  unfold regPut
  by_cases hv : v = 0
  · simp [hv, regGet_filter_other h]
  · simp only [hv, if_false]
    rw [regGet_regIns_other h, regGet_filter_other h]

theorem regWfFrom_mono {a b : Nat} (h : a ≤ b) : ∀ l, regWfFrom b l = true → regWfFrom a l = true
  | [], _ => rfl
  | (c, v) :: l, hl => by
    simp only [regWfFrom, Bool.and_eq_true, decide_eq_true_eq] at hl ⊢
    exact ⟨⟨Nat.le_trans h hl.1.1, hl.1.2⟩, hl.2⟩

theorem regWfFrom_filter (k : Nat) : ∀ (n : Nat) (l : List (Nat × Nat)), regWfFrom n l = true →
    regWfFrom n (l.filter (fun p => p.1 != k)) = true
  | _, [], _ => rfl
  | n, (a, v) :: l, h => by
    simp only [regWfFrom, Bool.and_eq_true, decide_eq_true_eq] at h
    have ih := regWfFrom_filter k (a + 1) l h.2
    by_cases hk : a = k
    · simpa [List.filter_cons, hk] using regWfFrom_mono (Nat.le_trans h.1.1 (by omega)) _ (hk ▸ ih)
    · simp [hk, regWfFrom, h.1.1, h.1.2, ih]

theorem regWfFrom_regIns (k v : Nat) (hv : v ≠ 0) : ∀ (n : Nat) (l : List (Nat × Nat)), n ≤ k → regWfFrom n l = true →
    (∀ p ∈ l, p.1 ≠ k) → regWfFrom n (regIns k v l) = true
  | n, [], hn, _, _ => by simp [regIns, regWfFrom, hn, hv]
  | n, (a, x) :: l, hn, h, hk => by
    simp only [regWfFrom, Bool.and_eq_true, decide_eq_true_eq] at h
    have ha : a ≠ k := hk (a, x) (by simp)
    by_cases hlt : k < a
    · simp only [regIns, hlt, if_true, regWfFrom, Bool.and_eq_true, decide_eq_true_eq]
      exact ⟨⟨hn, by simp [hv]⟩, ⟨by omega, h.1.2⟩, h.2⟩
    · simp only [regIns, hlt, if_false, regWfFrom, Bool.and_eq_true, decide_eq_true_eq]
      exact ⟨h.1, regWfFrom_regIns k v hv (a + 1) l (by omega) h.2 (fun p hp => hk p (by simp [hp]))⟩

/-- A put keeps the canonical form. -/
theorem regWf_regPut (k v : Nat) (l : List (Nat × Nat)) (h : regWf l = true) : regWf (regPut k v l) = true := by
  unfold regPut regWf at *
  by_cases hv : v = 0
  · simpa [hv] using regWfFrom_filter k 0 l h
  · simp only [hv, if_false]
    exact regWfFrom_regIns k v hv 0 _ (Nat.zero_le _) (regWfFrom_filter k 0 l h) (by simp)

/-- A field reads what was written to it, narrowed to its width. -/
@[simp] theorem State.rd_wr_same (s : State) (f : Fld) (v : Nat) : (s.wr f v).rd f = v % 2 ^ f.width := by
  simp [State.rd, State.wr, regGet_regPut_same]

/-- A write leaves every field of another place alone. -/
theorem State.rd_wr_other (s : State) {f g : Fld} (v : Nat) (h : g.key ≠ f.key) : (s.wr f v).rd g = s.rd g := by
  simp [State.rd, State.wr, regGet_regPut_other h]

/-- Every write keeps the register file's canonical form. -/
theorem State.wr_regWf (s : State) (f : Fld) (v : Nat) (h : regWf s.regs = true) : regWf (s.wr f v).regs = true :=
  regWf_regPut _ _ _ h

/-- Every field reads below 2 to the power of its width. -/
theorem State.rd_lt (s : State) (f : Fld) : s.rd f < 2 ^ f.width := Nat.mod_lt _ (Nat.two_pow_pos _)

/-- A count goes up by one until it stands at the largest value of its width (R514). -/
theorem State.rd_inc (s : State) (f : Fld) : (s.inc f).rd f = Nat.min (s.rd f + 1) (2 ^ f.width - 1) := by
  have h : 0 < 2 ^ f.width := Nat.two_pow_pos _
  have : Nat.min (s.rd f + 1) (2 ^ f.width - 1) < 2 ^ f.width := Nat.lt_of_le_of_lt (Nat.min_le_right _ _) (by omega)
  simp only [State.inc, State.incBy, State.rd_wr_same]
  exact Nat.mod_eq_of_lt this

end Sys2Proof.Machine
end

