-- ==== Sys2Proof/Laws/Ops.lean ====
section
/-!
SUPPORT. What the shared operations can do, said once: the guards of the meanings, a command that is served, the delivery of
a reply and of an event.
-/
namespace Sys2Proof.Machine
open Sys2Proof

/-! Guards. -/

theorem act_eq (f : State → State) (s : State) : act f s = .next { f s.fresh with pending := s.pending } := rfl

theorem whenRunning_of {s : State} (h : s.Running) (f : State → State) : whenRunning f s = f s := by
  simp [whenRunning, h.1, h.2]

theorem whenUp_of {s : State} (h : s.Up) (f : State → State) : whenUp f s = f s := by simp [whenUp, h.1, h.2]

theorem whenReleased_of {s : State} (h : s.sys.power = 3) (f : State → State) : whenReleased f s = f s := by
  simp [whenReleased, h]

theorem act_running {s : State} (h : s.Running) (f : State → State) :
    act (whenRunning f) s = .next { f s.fresh with pending := s.pending } := by
  rw [act_eq, whenRunning_of (s := s.fresh) h]

theorem act_up {s : State} (h : s.Up) (f : State → State) :
    act (whenUp f) s = .next { f s.fresh with pending := s.pending } := by
  rw [act_eq, whenUp_of (s := s.fresh) h]

theorem act_released {s : State} (h : s.sys.power = 3) (f : State → State) :
    act (whenReleased f) s = .next { f s.fresh with pending := s.pending } := by
  rw [act_eq, whenReleased_of (s := s.fresh) h]

theorem act_serving {s : State} (h : s.sys.power = 3) (h' : s.sys.stage = 3 ∨ s.sys.stage = 5) (f : State → State) :
    act (whenServing f) s = .next { f s.fresh with pending := s.pending } := by
  have h0 : (s.sys.power == 3 && (s.sys.stage == 3 || s.sys.stage == 5)) = true := by
    rcases h' with h' | h' <;> simp [h, h']
  have h1 : whenServing f s.fresh = f s.fresh := if_pos h0
  rw [act_eq, h1]

/-- How each guard gives its command: what the guarded effect makes of the fresh state is the next state. -/
theorem gives_running {c : Instr} {s t : State} {f : State → State} (h : s.Running)
    (hc : exec c s = act (whenRunning f) s) (ht : f s.fresh = t) : Gives c s t := by
  unfold Gives; rw [hc, act_running h, ht]

theorem gives_up {c : Instr} {s t : State} {f : State → State} (h : s.Up)
    (hc : exec c s = act (whenUp f) s) (ht : f s.fresh = t) : Gives c s t := by
  unfold Gives; rw [hc, act_up h, ht]

theorem gives_released {c : Instr} {s t : State} {f : State → State} (h : s.sys.power = 3)
    (hc : exec c s = act (whenReleased f) s) (ht : f s.fresh = t) : Gives c s t := by
  unfold Gives; rw [hc, act_released h, ht]

theorem gives_serving {c : Instr} {s t : State} {f : State → State} (h : s.sys.power = 3)
    (h' : s.sys.stage = 3 ∨ s.sys.stage = 5) (hc : exec c s = act (whenServing f) s) (ht : f s.fresh = t) : Gives c s t := by
  unfold Gives; rw [hc, act_serving h h', ht]

theorem gives_act {c : Instr} {s t : State} {f : State → State} (hc : exec c s = act f s) (ht : f s.fresh = t) :
    Gives c s t := by
  unfold Gives; rw [hc, act_eq, ht]

/-! A reply goes into the `SS` queue, to the bridge or to the outside; nothing else moves. -/

theorem ringReply_frame (hb : Bool) (v : Via) (r : Reply) (q : Bool) (s : State) :
    ringReply hb v r q s = { s with out := (ringReply hb v r q s).out } := by
  unfold ringReply; cases q <;> rfl

theorem deliverReply_frame (v : Via) (r : Reply) (s : State) :
    deliverReply v r s = { s with out := (deliverReply v r s).out,
                                  cmd := { s.cmd with ssReplies := (deliverReply v r s).cmd.ssReplies },
                                  rab := { s.rab with outs := (deliverReply v r s).rab.outs } } := by
  unfold deliverReply
  rcases v with ⟨port, _, _, _, _, _, _, _, _⟩
  cases port
  · dsimp only; rw [ringReply_frame]
  · dsimp only; rw [ringReply_frame]
  · dsimp only; split <;> rfl
  · dsimp only; split <;> rfl
  · dsimp only; split <;> rfl

@[simp] theorem deliverReply_regs (v : Via) (r : Reply) (s : State) : (deliverReply v r s).regs = s.regs := by
  rw [deliverReply_frame]
@[simp] theorem deliverReply_clk (v : Via) (r : Reply) (s : State) : (deliverReply v r s).clk = s.clk := by
  rw [deliverReply_frame]
@[simp] theorem deliverReply_sys (v : Via) (r : Reply) (s : State) : (deliverReply v r s).sys = s.sys := by
  rw [deliverReply_frame]
@[simp] theorem deliverReply_bkb (v : Via) (r : Reply) (s : State) : (deliverReply v r s).bkb = s.bkb := by
  rw [deliverReply_frame]
@[simp] theorem deliverReply_tcy (v : Via) (r : Reply) (s : State) : (deliverReply v r s).tcy = s.tcy := by
  rw [deliverReply_frame]
@[simp] theorem deliverReply_hst (v : Via) (r : Reply) (s : State) : (deliverReply v r s).hst = s.hst := by
  rw [deliverReply_frame]
@[simp] theorem deliverReply_net (v : Via) (r : Reply) (s : State) : (deliverReply v r s).net = s.net := by
  rw [deliverReply_frame]
@[simp] theorem deliverReply_sch (v : Via) (r : Reply) (s : State) : (deliverReply v r s).sch = s.sch := by
  rw [deliverReply_frame]
@[simp] theorem deliverReply_tim (v : Via) (r : Reply) (s : State) : (deliverReply v r s).tim = s.tim := by
  rw [deliverReply_frame]
@[simp] theorem deliverReply_pos (v : Via) (r : Reply) (s : State) : (deliverReply v r s).pos = s.pos := by
  rw [deliverReply_frame]
@[simp] theorem deliverReply_sig (v : Via) (r : Reply) (s : State) : (deliverReply v r s).sig = s.sig := by
  rw [deliverReply_frame]
@[simp] theorem deliverReply_eng (v : Via) (r : Reply) (s : State) : (deliverReply v r s).eng = s.eng := by
  rw [deliverReply_frame]
@[simp] theorem deliverReply_fld (v : Via) (r : Reply) (s : State) : (deliverReply v r s).fld = s.fld := by
  rw [deliverReply_frame]
@[simp] theorem deliverReply_pair (v : Via) (r : Reply) (s : State) : (deliverReply v r s).pair = s.pair := by
  rw [deliverReply_frame]
@[simp] theorem deliverReply_lad (v : Via) (r : Reply) (s : State) : (deliverReply v r s).lad = s.lad := by
  rw [deliverReply_frame]
@[simp] theorem deliverReply_leg (v : Via) (r : Reply) (s : State) : (deliverReply v r s).leg = s.leg := by
  rw [deliverReply_frame]
@[simp] theorem deliverReply_sto (v : Via) (r : Reply) (s : State) : (deliverReply v r s).sto = s.sto := by
  rw [deliverReply_frame]
@[simp] theorem deliverReply_free (v : Via) (r : Reply) (s : State) : (deliverReply v r s).free = s.free := by
  rw [deliverReply_frame]
@[simp] theorem deliverReply_pending (v : Via) (r : Reply) (s : State) : (deliverReply v r s).pending = s.pending := by
  rw [deliverReply_frame]
@[simp] theorem deliverReply_rd (v : Via) (r : Reply) (s : State) (f : Fld) : (deliverReply v r s).rd f = s.rd f :=
  State.rd_congr (deliverReply_regs v r s) f

/-- A command that is served does what its body says and answers. -/
theorem command_served {op : Nat} {h : CmdHdr} {s : State} (H : Serves op h s) (params : List Byte) (body : State → Ans) :
    command op h params body s = deliverReply h.via (mkReply h op (body s).status (body s).data) (body s).state := by
  obtain ⟨cl, hc, hcl⟩ := H.cls
  have ht : ¬ h.target > 128 := by have := H.target; omega
  have he : ((h.target != 0 || h.epochCheck) && !s.epochOk h.epoch) = false := by
    by_cases hx : h.target ≠ 0 ∨ h.epochCheck = true
    · simp [H.epoch hx]
    · simp only [ne_eq, not_or, Decidable.not_not, Bool.not_eq_true] at hx
      simp [hx.1, hx.2]
  have hb : (s.sys.stage == 5 && !recoveryServes op) = false := by
    rcases H.stage with h3 | ⟨_, h5⟩
    · simp [h3]
    · simp [h5]
  have hp : (!cl.contains (classOf h.via.port)) = false := by rw [hcl]; rfl
  simp only [command, commandCore, hc, hp, ht, he, H.here, hb, if_false, Bool.false_eq_true, Bool.not_true]

/-- The same through the meaning of the command. -/
theorem act_command {op : Nat} {h : CmdHdr} {s : State} (H : Serves op h s) (params : List Byte) (body : State → Ans) :
    act (whenServing (command op h params body)) s =
      .next { deliverReply h.via (mkReply h op (body s.fresh).status (body s.fresh).data) (body s.fresh).state with
              pending := s.pending } := by
  have h0 : (s.sys.power == 3 && (s.sys.stage == 3 || s.sys.stage == 5)) = true := by
    rcases H.stage with h3 | ⟨h5, _⟩
    · simp [H.power, h3]
    · simp [H.power, h5]
  have h1 : whenServing (command op h params body) s.fresh = command op h params body s.fresh := if_pos h0
  rw [act_eq, h1, command_served (s := s.fresh) ⟨H.power, H.stage, H.cls, H.target, H.epoch, H.here⟩]

/-- A served command completes with what its body answers. -/
theorem answers_of {c : Instr} {op : Nat} {h : CmdHdr} {s : State} (H : Serves op h s) {params : List Byte}
    {body : State → Ans} (hc : exec c s = act (whenServing (command op h params body)) s) {st : Nat} {d : List Byte}
    {t : State} (hb : body s.fresh = ⟨t, st, d⟩) : Answers c op h s st d t := by
  unfold Answers
  rw [hc, act_command H, hb]

/-- A long command with room on its path is listed, does what it does at once and is answered `ACCEPTED_PENDING`. -/
theorem acceptLong_room {h : CmdHdr} {s : State} (op a b : Nat) (effect : State → State)
    (H : s.longCount h.via.port < 16) :
    acceptLong h op a b effect s =
      ⟨effect (State.syncPending { s with cmd := { s.cmd with
          longs := s.cmd.longs ++
            [{ id := s.cmd.nextLong, via := h.via, seq := h.seq, opcode := op,
               originPort := if h.via.port == .train then h.via.rport else cmdPortNum h.via.port,
               arg := a, arg2 := b, abandoned := false }],
          nextLong := s.cmd.nextLong + 1 } }), stPending, []⟩ := by
  unfold acceptLong
  exact if_neg (Nat.not_le.mpr H)

/-- A rise of OPER changes only registers and the times of changes. -/
theorem riseOper_frame (u : Nat) (f : Fld) (s : State) :
    riseOper u f s = { s with regs := (riseOper u f s).regs, sys := (riseOper u f s).sys } := by
  unfold riseOper; split <;> rfl

/-- The wake of a command path changes only registers and the times of changes. -/
theorem wakePath_frame (d : Nat) (s : State) :
    wakePath d s = { s with regs := (wakePath d s).regs, sys := (wakePath d s).sys } := by
  unfold wakePath; split
  · rfl
  · rw [riseOper_frame]; rfl

@[simp] theorem riseOper_clk (u : Nat) (f : Fld) (s : State) : (riseOper u f s).clk = s.clk := by rw [riseOper_frame]
@[simp] theorem wakePath_clk (d : Nat) (s : State) : (wakePath d s).clk = s.clk := by rw [wakePath_frame]
@[simp] theorem riseOper_bkb (u : Nat) (f : Fld) (s : State) : (riseOper u f s).bkb = s.bkb := by rw [riseOper_frame]
@[simp] theorem wakePath_bkb (d : Nat) (s : State) : (wakePath d s).bkb = s.bkb := by rw [wakePath_frame]
@[simp] theorem riseOper_tcy (u : Nat) (f : Fld) (s : State) : (riseOper u f s).tcy = s.tcy := by rw [riseOper_frame]
@[simp] theorem wakePath_tcy (d : Nat) (s : State) : (wakePath d s).tcy = s.tcy := by rw [wakePath_frame]
@[simp] theorem riseOper_hst (u : Nat) (f : Fld) (s : State) : (riseOper u f s).hst = s.hst := by rw [riseOper_frame]
@[simp] theorem wakePath_hst (d : Nat) (s : State) : (wakePath d s).hst = s.hst := by rw [wakePath_frame]
@[simp] theorem riseOper_rab (u : Nat) (f : Fld) (s : State) : (riseOper u f s).rab = s.rab := by rw [riseOper_frame]
@[simp] theorem wakePath_rab (d : Nat) (s : State) : (wakePath d s).rab = s.rab := by rw [wakePath_frame]
@[simp] theorem riseOper_net (u : Nat) (f : Fld) (s : State) : (riseOper u f s).net = s.net := by rw [riseOper_frame]
@[simp] theorem wakePath_net (d : Nat) (s : State) : (wakePath d s).net = s.net := by rw [wakePath_frame]
@[simp] theorem riseOper_sch (u : Nat) (f : Fld) (s : State) : (riseOper u f s).sch = s.sch := by rw [riseOper_frame]
@[simp] theorem wakePath_sch (d : Nat) (s : State) : (wakePath d s).sch = s.sch := by rw [wakePath_frame]
@[simp] theorem riseOper_tim (u : Nat) (f : Fld) (s : State) : (riseOper u f s).tim = s.tim := by rw [riseOper_frame]
@[simp] theorem wakePath_tim (d : Nat) (s : State) : (wakePath d s).tim = s.tim := by rw [wakePath_frame]
@[simp] theorem riseOper_pos (u : Nat) (f : Fld) (s : State) : (riseOper u f s).pos = s.pos := by rw [riseOper_frame]
@[simp] theorem wakePath_pos (d : Nat) (s : State) : (wakePath d s).pos = s.pos := by rw [wakePath_frame]
@[simp] theorem riseOper_sig (u : Nat) (f : Fld) (s : State) : (riseOper u f s).sig = s.sig := by rw [riseOper_frame]
@[simp] theorem wakePath_sig (d : Nat) (s : State) : (wakePath d s).sig = s.sig := by rw [wakePath_frame]
@[simp] theorem riseOper_eng (u : Nat) (f : Fld) (s : State) : (riseOper u f s).eng = s.eng := by rw [riseOper_frame]
@[simp] theorem wakePath_eng (d : Nat) (s : State) : (wakePath d s).eng = s.eng := by rw [wakePath_frame]
@[simp] theorem riseOper_fld (u : Nat) (f : Fld) (s : State) : (riseOper u f s).fld = s.fld := by rw [riseOper_frame]
@[simp] theorem wakePath_fld (d : Nat) (s : State) : (wakePath d s).fld = s.fld := by rw [wakePath_frame]
@[simp] theorem riseOper_pair (u : Nat) (f : Fld) (s : State) : (riseOper u f s).pair = s.pair := by rw [riseOper_frame]
@[simp] theorem wakePath_pair (d : Nat) (s : State) : (wakePath d s).pair = s.pair := by rw [wakePath_frame]
@[simp] theorem riseOper_lad (u : Nat) (f : Fld) (s : State) : (riseOper u f s).lad = s.lad := by rw [riseOper_frame]
@[simp] theorem wakePath_lad (d : Nat) (s : State) : (wakePath d s).lad = s.lad := by rw [wakePath_frame]
@[simp] theorem riseOper_leg (u : Nat) (f : Fld) (s : State) : (riseOper u f s).leg = s.leg := by rw [riseOper_frame]
@[simp] theorem wakePath_leg (d : Nat) (s : State) : (wakePath d s).leg = s.leg := by rw [wakePath_frame]
@[simp] theorem riseOper_sto (u : Nat) (f : Fld) (s : State) : (riseOper u f s).sto = s.sto := by rw [riseOper_frame]
@[simp] theorem wakePath_sto (d : Nat) (s : State) : (wakePath d s).sto = s.sto := by rw [wakePath_frame]
@[simp] theorem riseOper_free (u : Nat) (f : Fld) (s : State) : (riseOper u f s).free = s.free := by rw [riseOper_frame]
@[simp] theorem wakePath_free (d : Nat) (s : State) : (wakePath d s).free = s.free := by rw [wakePath_frame]
@[simp] theorem riseOper_pending (u : Nat) (f : Fld) (s : State) : (riseOper u f s).pending = s.pending := by rw [riseOper_frame]
@[simp] theorem wakePath_pending (d : Nat) (s : State) : (wakePath d s).pending = s.pending := by rw [wakePath_frame]
@[simp] theorem riseOper_cmd (u : Nat) (f : Fld) (s : State) : (riseOper u f s).cmd = s.cmd := by rw [riseOper_frame]
@[simp] theorem wakePath_cmd (d : Nat) (s : State) : (wakePath d s).cmd = s.cmd := by rw [wakePath_frame]
@[simp] theorem riseOper_out (u : Nat) (f : Fld) (s : State) : (riseOper u f s).out = s.out := by rw [riseOper_frame]
@[simp] theorem wakePath_out (d : Nat) (s : State) : (wakePath d s).out = s.out := by rw [wakePath_frame]
@[simp] theorem riseOper_stage (u : Nat) (f : Fld) (s : State) : (riseOper u f s).sys.stage = s.sys.stage := by
  unfold riseOper; split <;> rfl
@[simp] theorem wakePath_stage (d : Nat) (s : State) : (wakePath d s).sys.stage = s.sys.stage := by
  unfold wakePath; split <;> simp
@[simp] theorem riseOper_power (u : Nat) (f : Fld) (s : State) : (riseOper u f s).sys.power = s.sys.power := by
  unfold riseOper; split <;> rfl
@[simp] theorem wakePath_power (d : Nat) (s : State) : (wakePath d s).sys.power = s.sys.power := by
  unfold wakePath; split <;> simp

theorem riseOper_rd (u : Nat) (f : Fld) (s : State) {g : Fld} (h : g.key ≠ f.key) : (riseOper u f s).rd g = s.rd g := by
  unfold riseOper; split
  · exact State.rd_wr_other s _ h
  · rfl

theorem wakePath_rd (d : Nat) (s : State) {g : Fld} (h₁ : g.key ≠ (LAD_Dd_WAKES.f d).key) (h₂ : g.key ≠ (LAD_Dd_RUNG.f d).key)
    (h₃ : g.key ≠ (LAD_Dd_OPER.f d).key) : (wakePath d s).rd g = s.rd g := by
  unfold wakePath; split
  · rfl
  · rw [riseOper_rd _ _ _ h₃, State.rd_wr_other _ _ h₂]
    exact State.rd_wr_other s _ h₁

/-! An event goes onto the rings, into the `SS` queue or to the outside; of the registers it moves only the write index of a
ring, the counts of lost events, and the words of the domains that it wakes. -/

/-- The fields that the delivery of an event may change. -/
def eventKeys : List Nat :=
  [(CMD_Hx_EVT_WRITE.f 0).key, (CMD_Hx_EVT_WRITE.f 1).key, (CMD_Hx_LOST.f 0).key, (CMD_Hx_LOST.f 1).key, CMD_SS_LOST.f.key,
   (LAD_Dd_WAKES.f 116).key, (LAD_Dd_RUNG.f 116).key, (LAD_Dd_OPER.f 116).key, (LAD_Dd_WAKES.f 117).key,
   (LAD_Dd_RUNG.f 117).key, (LAD_Dd_OPER.f 117).key, (LAD_Dd_WAKES.f 119).key, (LAD_Dd_RUNG.f 119).key,
   (LAD_Dd_OPER.f 119).key, (MAC_n_OPER.f 80).key]

@[simp] theorem ringDeliver_clk (hb : Bool) (e : EvtRec) (s : State) : (ringDeliver hb e s).clk = s.clk := by
  unfold ringDeliver; cases hb <;> dsimp only <;> split <;> simp
@[simp] theorem ssDeliver_clk (e : EvtRec) (s : State) : (ssDeliver e s).clk = s.clk := by
  unfold ssDeliver; split <;> rfl
@[simp] theorem mtDeliver_clk (e : EvtRec) (s : State) : (mtDeliver e s).clk = s.clk := by
  unfold mtDeliver; split <;> (try split) <;> simp
@[simp] theorem raise_clk (s : State) (c u : Nat) (d : List Byte) (cl : Bool) : (s.raise c u d cl).clk = s.clk := by
  unfold State.raise; dsimp only; repeat' split
  all_goals simp
@[simp] theorem ringDeliver_stage (hb : Bool) (e : EvtRec) (s : State) : (ringDeliver hb e s).sys.stage = s.sys.stage := by
  unfold ringDeliver; cases hb <;> dsimp only <;> split <;> simp
@[simp] theorem ssDeliver_stage (e : EvtRec) (s : State) : (ssDeliver e s).sys.stage = s.sys.stage := by
  unfold ssDeliver; split <;> rfl
@[simp] theorem mtDeliver_stage (e : EvtRec) (s : State) : (mtDeliver e s).sys.stage = s.sys.stage := by
  unfold mtDeliver; split <;> (try split) <;> simp
@[simp] theorem raise_stage (s : State) (c u : Nat) (d : List Byte) (cl : Bool) : (s.raise c u d cl).sys.stage = s.sys.stage := by
  unfold State.raise; dsimp only; repeat' split
  all_goals simp
@[simp] theorem ringDeliver_power (hb : Bool) (e : EvtRec) (s : State) : (ringDeliver hb e s).sys.power = s.sys.power := by
  unfold ringDeliver; cases hb <;> dsimp only <;> split <;> simp
@[simp] theorem ssDeliver_power (e : EvtRec) (s : State) : (ssDeliver e s).sys.power = s.sys.power := by
  unfold ssDeliver; split <;> rfl
@[simp] theorem mtDeliver_power (e : EvtRec) (s : State) : (mtDeliver e s).sys.power = s.sys.power := by
  unfold mtDeliver; split <;> (try split) <;> simp
@[simp] theorem raise_power (s : State) (c u : Nat) (d : List Byte) (cl : Bool) : (s.raise c u d cl).sys.power = s.sys.power := by
  unfold State.raise; dsimp only; repeat' split
  all_goals simp
@[simp] theorem ringDeliver_bkb (hb : Bool) (e : EvtRec) (s : State) : (ringDeliver hb e s).bkb = s.bkb := by
  unfold ringDeliver; cases hb <;> dsimp only <;> split <;> simp
@[simp] theorem ssDeliver_bkb (e : EvtRec) (s : State) : (ssDeliver e s).bkb = s.bkb := by
  unfold ssDeliver; split <;> rfl
@[simp] theorem mtDeliver_bkb (e : EvtRec) (s : State) : (mtDeliver e s).bkb = s.bkb := by
  unfold mtDeliver; split <;> (try split) <;> simp
@[simp] theorem raise_bkb (s : State) (c u : Nat) (d : List Byte) (cl : Bool) : (s.raise c u d cl).bkb = s.bkb := by
  unfold State.raise; dsimp only; repeat' split
  all_goals simp
@[simp] theorem ringDeliver_tcy (hb : Bool) (e : EvtRec) (s : State) : (ringDeliver hb e s).tcy = s.tcy := by
  unfold ringDeliver; cases hb <;> dsimp only <;> split <;> simp
@[simp] theorem ssDeliver_tcy (e : EvtRec) (s : State) : (ssDeliver e s).tcy = s.tcy := by
  unfold ssDeliver; split <;> rfl
@[simp] theorem mtDeliver_tcy (e : EvtRec) (s : State) : (mtDeliver e s).tcy = s.tcy := by
  unfold mtDeliver; split <;> (try split) <;> simp
@[simp] theorem raise_tcy (s : State) (c u : Nat) (d : List Byte) (cl : Bool) : (s.raise c u d cl).tcy = s.tcy := by
  unfold State.raise; dsimp only; repeat' split
  all_goals simp
@[simp] theorem ringDeliver_hst (hb : Bool) (e : EvtRec) (s : State) : (ringDeliver hb e s).hst = s.hst := by
  unfold ringDeliver; cases hb <;> dsimp only <;> split <;> simp
@[simp] theorem ssDeliver_hst (e : EvtRec) (s : State) : (ssDeliver e s).hst = s.hst := by
  unfold ssDeliver; split <;> rfl
@[simp] theorem mtDeliver_hst (e : EvtRec) (s : State) : (mtDeliver e s).hst = s.hst := by
  unfold mtDeliver; split <;> (try split) <;> simp
@[simp] theorem raise_hst (s : State) (c u : Nat) (d : List Byte) (cl : Bool) : (s.raise c u d cl).hst = s.hst := by
  unfold State.raise; dsimp only; repeat' split
  all_goals simp
@[simp] theorem ringDeliver_rab (hb : Bool) (e : EvtRec) (s : State) : (ringDeliver hb e s).rab = s.rab := by
  unfold ringDeliver; cases hb <;> dsimp only <;> split <;> simp
@[simp] theorem ssDeliver_rab (e : EvtRec) (s : State) : (ssDeliver e s).rab = s.rab := by
  unfold ssDeliver; split <;> rfl
@[simp] theorem mtDeliver_rab (e : EvtRec) (s : State) : (mtDeliver e s).rab = s.rab := by
  unfold mtDeliver; split <;> (try split) <;> simp
@[simp] theorem raise_rab (s : State) (c u : Nat) (d : List Byte) (cl : Bool) : (s.raise c u d cl).rab = s.rab := by
  unfold State.raise; dsimp only; repeat' split
  all_goals simp
@[simp] theorem ringDeliver_net (hb : Bool) (e : EvtRec) (s : State) : (ringDeliver hb e s).net = s.net := by
  unfold ringDeliver; cases hb <;> dsimp only <;> split <;> simp
@[simp] theorem ssDeliver_net (e : EvtRec) (s : State) : (ssDeliver e s).net = s.net := by
  unfold ssDeliver; split <;> rfl
@[simp] theorem mtDeliver_net (e : EvtRec) (s : State) : (mtDeliver e s).net = s.net := by
  unfold mtDeliver; split <;> (try split) <;> simp
@[simp] theorem raise_net (s : State) (c u : Nat) (d : List Byte) (cl : Bool) : (s.raise c u d cl).net = s.net := by
  unfold State.raise; dsimp only; repeat' split
  all_goals simp
@[simp] theorem ringDeliver_sch (hb : Bool) (e : EvtRec) (s : State) : (ringDeliver hb e s).sch = s.sch := by
  unfold ringDeliver; cases hb <;> dsimp only <;> split <;> simp
@[simp] theorem ssDeliver_sch (e : EvtRec) (s : State) : (ssDeliver e s).sch = s.sch := by
  unfold ssDeliver; split <;> rfl
@[simp] theorem mtDeliver_sch (e : EvtRec) (s : State) : (mtDeliver e s).sch = s.sch := by
  unfold mtDeliver; split <;> (try split) <;> simp
@[simp] theorem raise_sch (s : State) (c u : Nat) (d : List Byte) (cl : Bool) : (s.raise c u d cl).sch = s.sch := by
  unfold State.raise; dsimp only; repeat' split
  all_goals simp
@[simp] theorem ringDeliver_tim (hb : Bool) (e : EvtRec) (s : State) : (ringDeliver hb e s).tim = s.tim := by
  unfold ringDeliver; cases hb <;> dsimp only <;> split <;> simp
@[simp] theorem ssDeliver_tim (e : EvtRec) (s : State) : (ssDeliver e s).tim = s.tim := by
  unfold ssDeliver; split <;> rfl
@[simp] theorem mtDeliver_tim (e : EvtRec) (s : State) : (mtDeliver e s).tim = s.tim := by
  unfold mtDeliver; split <;> (try split) <;> simp
@[simp] theorem raise_tim (s : State) (c u : Nat) (d : List Byte) (cl : Bool) : (s.raise c u d cl).tim = s.tim := by
  unfold State.raise; dsimp only; repeat' split
  all_goals simp
@[simp] theorem ringDeliver_pos (hb : Bool) (e : EvtRec) (s : State) : (ringDeliver hb e s).pos = s.pos := by
  unfold ringDeliver; cases hb <;> dsimp only <;> split <;> simp
@[simp] theorem ssDeliver_pos (e : EvtRec) (s : State) : (ssDeliver e s).pos = s.pos := by
  unfold ssDeliver; split <;> rfl
@[simp] theorem mtDeliver_pos (e : EvtRec) (s : State) : (mtDeliver e s).pos = s.pos := by
  unfold mtDeliver; split <;> (try split) <;> simp
@[simp] theorem raise_pos (s : State) (c u : Nat) (d : List Byte) (cl : Bool) : (s.raise c u d cl).pos = s.pos := by
  unfold State.raise; dsimp only; repeat' split
  all_goals simp
@[simp] theorem ringDeliver_sig (hb : Bool) (e : EvtRec) (s : State) : (ringDeliver hb e s).sig = s.sig := by
  unfold ringDeliver; cases hb <;> dsimp only <;> split <;> simp
@[simp] theorem ssDeliver_sig (e : EvtRec) (s : State) : (ssDeliver e s).sig = s.sig := by
  unfold ssDeliver; split <;> rfl
@[simp] theorem mtDeliver_sig (e : EvtRec) (s : State) : (mtDeliver e s).sig = s.sig := by
  unfold mtDeliver; split <;> (try split) <;> simp
@[simp] theorem raise_sig (s : State) (c u : Nat) (d : List Byte) (cl : Bool) : (s.raise c u d cl).sig = s.sig := by
  unfold State.raise; dsimp only; repeat' split
  all_goals simp
@[simp] theorem ringDeliver_eng (hb : Bool) (e : EvtRec) (s : State) : (ringDeliver hb e s).eng = s.eng := by
  unfold ringDeliver; cases hb <;> dsimp only <;> split <;> simp
@[simp] theorem ssDeliver_eng (e : EvtRec) (s : State) : (ssDeliver e s).eng = s.eng := by
  unfold ssDeliver; split <;> rfl
@[simp] theorem mtDeliver_eng (e : EvtRec) (s : State) : (mtDeliver e s).eng = s.eng := by
  unfold mtDeliver; split <;> (try split) <;> simp
@[simp] theorem raise_eng (s : State) (c u : Nat) (d : List Byte) (cl : Bool) : (s.raise c u d cl).eng = s.eng := by
  unfold State.raise; dsimp only; repeat' split
  all_goals simp
@[simp] theorem ringDeliver_fld (hb : Bool) (e : EvtRec) (s : State) : (ringDeliver hb e s).fld = s.fld := by
  unfold ringDeliver; cases hb <;> dsimp only <;> split <;> simp
@[simp] theorem ssDeliver_fld (e : EvtRec) (s : State) : (ssDeliver e s).fld = s.fld := by
  unfold ssDeliver; split <;> rfl
@[simp] theorem mtDeliver_fld (e : EvtRec) (s : State) : (mtDeliver e s).fld = s.fld := by
  unfold mtDeliver; split <;> (try split) <;> simp
@[simp] theorem raise_fld (s : State) (c u : Nat) (d : List Byte) (cl : Bool) : (s.raise c u d cl).fld = s.fld := by
  unfold State.raise; dsimp only; repeat' split
  all_goals simp
@[simp] theorem ringDeliver_pair (hb : Bool) (e : EvtRec) (s : State) : (ringDeliver hb e s).pair = s.pair := by
  unfold ringDeliver; cases hb <;> dsimp only <;> split <;> simp
@[simp] theorem ssDeliver_pair (e : EvtRec) (s : State) : (ssDeliver e s).pair = s.pair := by
  unfold ssDeliver; split <;> rfl
@[simp] theorem mtDeliver_pair (e : EvtRec) (s : State) : (mtDeliver e s).pair = s.pair := by
  unfold mtDeliver; split <;> (try split) <;> simp
@[simp] theorem raise_pair (s : State) (c u : Nat) (d : List Byte) (cl : Bool) : (s.raise c u d cl).pair = s.pair := by
  unfold State.raise; dsimp only; repeat' split
  all_goals simp
@[simp] theorem ringDeliver_lad (hb : Bool) (e : EvtRec) (s : State) : (ringDeliver hb e s).lad = s.lad := by
  unfold ringDeliver; cases hb <;> dsimp only <;> split <;> simp
@[simp] theorem ssDeliver_lad (e : EvtRec) (s : State) : (ssDeliver e s).lad = s.lad := by
  unfold ssDeliver; split <;> rfl
@[simp] theorem mtDeliver_lad (e : EvtRec) (s : State) : (mtDeliver e s).lad = s.lad := by
  unfold mtDeliver; split <;> (try split) <;> simp
@[simp] theorem raise_lad (s : State) (c u : Nat) (d : List Byte) (cl : Bool) : (s.raise c u d cl).lad = s.lad := by
  unfold State.raise; dsimp only; repeat' split
  all_goals simp
@[simp] theorem ringDeliver_leg (hb : Bool) (e : EvtRec) (s : State) : (ringDeliver hb e s).leg = s.leg := by
  unfold ringDeliver; cases hb <;> dsimp only <;> split <;> simp
@[simp] theorem ssDeliver_leg (e : EvtRec) (s : State) : (ssDeliver e s).leg = s.leg := by
  unfold ssDeliver; split <;> rfl
@[simp] theorem mtDeliver_leg (e : EvtRec) (s : State) : (mtDeliver e s).leg = s.leg := by
  unfold mtDeliver; split <;> (try split) <;> simp
@[simp] theorem raise_leg (s : State) (c u : Nat) (d : List Byte) (cl : Bool) : (s.raise c u d cl).leg = s.leg := by
  unfold State.raise; dsimp only; repeat' split
  all_goals simp
@[simp] theorem ringDeliver_sto (hb : Bool) (e : EvtRec) (s : State) : (ringDeliver hb e s).sto = s.sto := by
  unfold ringDeliver; cases hb <;> dsimp only <;> split <;> simp
@[simp] theorem ssDeliver_sto (e : EvtRec) (s : State) : (ssDeliver e s).sto = s.sto := by
  unfold ssDeliver; split <;> rfl
@[simp] theorem mtDeliver_sto (e : EvtRec) (s : State) : (mtDeliver e s).sto = s.sto := by
  unfold mtDeliver; split <;> (try split) <;> simp
@[simp] theorem raise_sto (s : State) (c u : Nat) (d : List Byte) (cl : Bool) : (s.raise c u d cl).sto = s.sto := by
  unfold State.raise; dsimp only; repeat' split
  all_goals simp
@[simp] theorem ringDeliver_free (hb : Bool) (e : EvtRec) (s : State) : (ringDeliver hb e s).free = s.free := by
  unfold ringDeliver; cases hb <;> dsimp only <;> split <;> simp
@[simp] theorem ssDeliver_free (e : EvtRec) (s : State) : (ssDeliver e s).free = s.free := by
  unfold ssDeliver; split <;> rfl
@[simp] theorem mtDeliver_free (e : EvtRec) (s : State) : (mtDeliver e s).free = s.free := by
  unfold mtDeliver; split <;> (try split) <;> simp
@[simp] theorem raise_free (s : State) (c u : Nat) (d : List Byte) (cl : Bool) : (s.raise c u d cl).free = s.free := by
  unfold State.raise; dsimp only; repeat' split
  all_goals simp
@[simp] theorem ringDeliver_pending (hb : Bool) (e : EvtRec) (s : State) : (ringDeliver hb e s).pending = s.pending := by
  unfold ringDeliver; cases hb <;> dsimp only <;> split <;> simp
@[simp] theorem ssDeliver_pending (e : EvtRec) (s : State) : (ssDeliver e s).pending = s.pending := by
  unfold ssDeliver; split <;> rfl
@[simp] theorem mtDeliver_pending (e : EvtRec) (s : State) : (mtDeliver e s).pending = s.pending := by
  unfold mtDeliver; split <;> (try split) <;> simp
@[simp] theorem raise_pending (s : State) (c u : Nat) (d : List Byte) (cl : Bool) : (s.raise c u d cl).pending = s.pending := by
  unfold State.raise; dsimp only; repeat' split
  all_goals simp

theorem ringDeliver_rd (hb : Bool) (e : EvtRec) (s : State) {f : Fld} (h : f.key ∉ eventKeys) :
    (ringDeliver hb e s).rd f = s.rd f := by
  simp only [eventKeys, List.mem_cons, List.not_mem_nil, or_false, not_or] at h
  obtain ⟨h1, h2, h3, h4, -, h5, h6, h7, h8, h9, h10, -⟩ := h
  unfold ringDeliver
  cases hb <;> dsimp only [hx] <;> simp only [if_true, if_false, Bool.false_eq_true] <;> split
  · simp [State.inc, State.incBy, State.rd_wr_other, h3]
  · rw [State.emit_rd, State.emit_rd, wakePath_rd 116 _ h5 h6 h7, State.setEp_rd, State.rd_wr_other _ _ h1]
  · simp [State.inc, State.incBy, State.rd_wr_other, h4]
  · rw [State.emit_rd, State.emit_rd, wakePath_rd 117 _ h8 h9 h10, State.setEp_rd, State.rd_wr_other _ _ h2]

theorem ssDeliver_rd (e : EvtRec) (s : State) {f : Fld} (h : f.key ∉ eventKeys) : (ssDeliver e s).rd f = s.rd f := by
  simp only [eventKeys, List.mem_cons, List.not_mem_nil, or_false, not_or] at h
  unfold ssDeliver
  split
  · exact State.rd_wr_other s _ h.2.2.2.2.1
  · rfl

theorem mtDeliver_rd (e : EvtRec) (s : State) {f : Fld} (h : f.key ∉ eventKeys) : (mtDeliver e s).rd f = s.rd f := by
  simp only [eventKeys, List.mem_cons, List.not_mem_nil, or_false, not_or] at h
  obtain ⟨-, -, -, -, -, -, -, -, -, -, -, h1, h2, h3, h4⟩ := h
  unfold mtDeliver
  split
  · split
    · rw [State.emit_rd, riseOper_rd _ _ _ h4, wakePath_rd 119 _ h1 h2 h3]
    · rfl
  · rfl

/-- An event leaves every field alone but a ring's write index, the counts of lost events, and what it wakes. -/
theorem raise_rd (s : State) (c u : Nat) (d : List Byte) (cl : Bool) {f : Fld} (h : f.key ∉ eventKeys) :
    (s.raise c u d cl).rd f = s.rd f := by
  unfold State.raise
  dsimp only
  repeat' split
  all_goals simp only [mtDeliver_rd _ _ h, ssDeliver_rd _ _ h, ringDeliver_rd _ _ _ h]

end Sys2Proof.Machine
end

