-- ==== Sys2Proof/Laws/Packets.lean ====
section
/-!
SUPPORT. Packets (Table 02-1): what the bytes of a spelled command read as, and that a packet whose parameters its opcode
admits runs as the command they decode to.
-/
namespace Sys2Proof.Machine
open Sys2Proof

theorem lastN_append (a b : List Byte) (n : Nat) (h : b.length = n) : lastN n (a ++ b) = b := by
  subst h; simp [lastN]

theorem packet_len (h : CmdHdr) (op : Nat) (p : List Byte) : (packetBytes h op p).length = 28 + p.length := by
  simp [packetBytes, withTrailer]; omega

theorem flag_byte (h : CmdHdr) : (2 * b2n h.posted + 4 * b2n h.epochCheck) % 256 = 2 * b2n h.posted + 4 * b2n h.epochCheck := by
  cases h.posted <;> cases h.epochCheck <;> rfl

theorem packet_byte3 (h : CmdHdr) (op : Nat) (p t : List Byte) :
    byteAt (packetBytes h op p ++ t) 3 = 2 * b2n h.posted + 4 * b2n h.epochCheck := by
  unfold packetBytes withTrailer
  simp only [List.append_assoc]
  rw [byteAt_append_right _ _ _ (by simp)]
  simp [byteAt]; cases h.posted <;> cases h.epochCheck <;> decide

theorem packet_byte2 (h : CmdHdr) (op : Nat) (p t : List Byte) : byteAt (packetBytes h op p ++ t) 2 = 1 := by
  unfold packetBytes withTrailer
  simp only [List.append_assoc]
  rw [byteAt_append_right _ _ _ (by simp)]
  simp [byteAt]

theorem packet_be0 (h : CmdHdr) (op : Nat) (p t : List Byte) :
    beAt (packetBytes h op p ++ t) 0 2 = 0xCE4E := by
  unfold packetBytes withTrailer
  simp only [List.append_assoc]
  rw [beAt_append_left _ _ _ _ (by simp)]
  rw [beAt_toBE]; norm_num

theorem packet_be4 (h : CmdHdr) (op : Nat) (p t : List Byte) :
    beAt (packetBytes h op p ++ t) 4 2 = op % 65536 := by
  unfold packetBytes withTrailer
  simp only [List.append_assoc]
  rw [beAt_append_right _ _ _ _ (by simp), beAt_append_right _ _ _ _ (by simp), beAt_append_left _ _ _ _ (by simp)]
  simp only [toBE_length, List.length_cons, List.length_nil]
  rw [beAt_toBE]; norm_num

theorem packet_be6 (h : CmdHdr) (op : Nat) (p t : List Byte) :
    beAt (packetBytes h op p ++ t) 6 2 = h.seq % 65536 := by
  unfold packetBytes withTrailer
  simp only [List.append_assoc]
  iterate 3 rw [beAt_append_right _ _ _ _ (by simp)]
  rw [beAt_append_left _ _ _ _ (by simp)]
  simp only [toBE_length, List.length_cons, List.length_nil]
  rw [beAt_toBE]; norm_num

theorem packet_be8 (h : CmdHdr) (op : Nat) (p t : List Byte) :
    beAt (packetBytes h op p ++ t) 8 2 = h.target % 65536 := by
  unfold packetBytes withTrailer
  simp only [List.append_assoc]
  iterate 4 rw [beAt_append_right _ _ _ _ (by simp)]
  rw [beAt_append_left _ _ _ _ (by simp)]
  simp only [toBE_length, List.length_cons, List.length_nil]
  rw [beAt_toBE]; norm_num

theorem packet_be10 (h : CmdHdr) (op : Nat) (p t : List Byte) :
    beAt (packetBytes h op p ++ t) 10 2 = h.epoch % 65536 := by
  unfold packetBytes withTrailer
  simp only [List.append_assoc]
  iterate 5 rw [beAt_append_right _ _ _ _ (by simp)]
  rw [beAt_append_left _ _ _ _ (by simp)]
  simp only [toBE_length, List.length_cons, List.length_nil]
  rw [beAt_toBE]; norm_num

theorem packet_be12 (h : CmdHdr) (op : Nat) (p t : List Byte) :
    beAt (packetBytes h op p ++ t) 12 2 = p.length % 65536 := by
  unfold packetBytes withTrailer
  simp only [List.append_assoc]
  iterate 6 rw [beAt_append_right _ _ _ _ (by simp)]
  rw [beAt_append_left _ _ _ _ (by simp)]
  simp only [toBE_length, List.length_cons, List.length_nil]
  rw [beAt_toBE]; norm_num

theorem packet_be14 (h : CmdHdr) (op : Nat) (p t : List Byte) :
    beAt (packetBytes h op p ++ t) 14 2 = h.originNode % 65536 := by
  unfold packetBytes withTrailer
  simp only [List.append_assoc]
  iterate 7 rw [beAt_append_right _ _ _ _ (by simp)]
  rw [beAt_append_left _ _ _ _ (by simp)]
  simp only [toBE_length, List.length_cons, List.length_nil]
  rw [beAt_toBE]; norm_num

theorem packet_b16 (h : CmdHdr) (op : Nat) (p t : List Byte) : byteAt (packetBytes h op p ++ t) 16 = h.originPort % 256 := by
  unfold packetBytes withTrailer
  simp only [List.append_assoc]
  iterate 8 rw [byteAt_append_right _ _ _ (by simp)]
  rw [byteAt_append_left _ _ _ (by simp)]
  simp only [toBE_length, List.length_cons, List.length_nil]
  rw [byteAt_toBE1]

theorem packet_params (h : CmdHdr) (op : Nat) (p : List Byte) : slice (packetBytes h op p) 24 p.length = p := by
  unfold packetBytes withTrailer
  simp only [List.append_assoc]
  iterate 10 rw [slice_append_right _ _ _ _ (by simp)]
  rw [slice_append_left _ _ _ _ (by simp)]
  simp only [toBE_length, List.length_cons, List.length_nil, zeros_length]
  exact slice_zero_self p

theorem packet_fault (h : CmdHdr) (op : Nat) (p : List Byte) (hp : p.length ≤ 65508) :
    packetFault (packetBytes h op p) = none := by
  have t0 : ∀ b : List Byte, b = b ++ [] := by simp
  unfold packetFault
  rw [packet_len]
  have e0 := packet_be0 h op p []
  have e2 := packet_byte2 h op p []
  have e3 := packet_byte3 h op p []
  have e12 := packet_be12 h op p []
  rw [← t0] at e0 e2 e3 e12
  rw [e0, e2, e3, e12]
  have hl : lastN 4 (packetBytes h op p) = toBE 4 (crc32c ((packetBytes h op p).take (28 + p.length - 4))) := by
    unfold packetBytes withTrailer
    rw [lastN_append _ _ _ (by simp)]
    congr 2
    rw [List.take_left' (by simp; omega)]
  rw [hl, fromBE_toBE, Nat.mod_eq_of_lt (show p.length < 65536 by omega)]
  have := crc32c_lt ((packetBytes h op p).take (28 + p.length - 4))
  have e : 256 ^ 4 = 2 ^ 32 := by decide
  rw [e, Nat.mod_eq_of_lt this]
  rw [if_neg (by simp; omega), if_neg (by decide), if_neg (by simp), if_neg (by simp), if_neg]
  cases h.posted <;> cases h.epochCheck <;> decide

theorem fitBytes_packet (h : CmdHdr) (op : Nat) (p : List Byte) : fitBytes 24 (packetBytes h op p) = (packetBytes h op p).take 24 := by
  unfold fitBytes; rw [packet_len]; rw [show 24 - (28 + p.length) = 0 by omega]; simp [zeros]

theorem packet_header (h : CmdHdr) (op : Nat) (p : List Byte) (hw : h.wf = true) :
    headerOf ⟨h.via, packetBytes h op p⟩ = h := by
  have t0 : ∀ b : List Byte, b = b ++ [] := by simp
  have e3 := packet_byte3 h op p []
  have e6 := packet_be6 h op p []
  have e8 := packet_be8 h op p []
  have e10 := packet_be10 h op p []
  have e14 := packet_be14 h op p []
  have e16 := packet_b16 h op p []
  rw [← t0] at e3 e6 e8 e10 e14 e16
  simp only [CmdHdr.wf, Bool.and_eq_true, decide_eq_true_eq] at hw
  unfold headerOf
  simp only [fitBytes_packet]
  rw [be_take _ _ _ _ (by omega), be_take _ _ _ _ (by omega), be_take _ _ _ _ (by omega), be_take _ _ _ _ (by omega),
    byte_take _ _ _ (by omega), byte_take _ _ _ (by omega), e3, e6, e8, e10, e14, e16]
  norm_num at hw
  rw [Nat.mod_eq_of_lt hw.1.1.1.1, Nat.mod_eq_of_lt hw.1.1.1.2, Nat.mod_eq_of_lt hw.1.1.2,
    Nat.mod_eq_of_lt hw.1.2, Nat.mod_eq_of_lt hw.2]
  have b1 : ∀ po ec : Bool, bit (2 * b2n po + 4 * b2n ec) 1 = po := by decide
  have b2 : ∀ po ec : Bool, bit (2 * b2n po + 4 * b2n ec) 2 = ec := by decide
  rw [b1, b2]

theorem packet_opcode (h : CmdHdr) (op : Nat) (p : List Byte) (ho : op < 65536) (v : Via) :
    opcodeOf ⟨v, packetBytes h op p⟩ = op := by
  have e4 := packet_be4 h op p []
  rw [List.append_nil] at e4
  unfold opcodeOf
  rw [fitBytes_packet, be_take _ _ _ _ (by omega), e4, Nat.mod_eq_of_lt ho]

theorem run_packet (h : CmdHdr) (op : Nat) (p : List Byte) (hw : h.wf = true) (ho : op < 65536) (hp : p.length ≤ 65508)
    (hl : paramLenOk op p = true) (f : State → State) (hf : commandOf op h p = some f) :
    runPacket ⟨h.via, packetBytes h op p⟩ = f := by
  funext s
  unfold runPacket
  simp only [packet_header h op p hw, packet_opcode h op p ho, packet_len, packet_fault h op p hp]
  rw [show 28 + p.length - 28 = p.length by omega, packet_params, hl]
  simp only [if_true, hf]

end Sys2Proof.Machine
end

