-- ==== Sys2Proof/Laws/PerInstr.lean ====
section
/-!
SUPPORT. Statements about every command as syntax, one lemma per command.  The family `Packet`: the opcode under
which a command comes as a packet is one of Table 02-6, which some class of paths may issue, and fits its two bytes.
-/
namespace Sys2Proof.Laws.Packet
open Sys2Proof Sys2Proof.Machine

/-- What the family says of a command. -/
def Statement (i : Instr) : Prop :=
  ∀ h op p, i.spell = some (h, op, p) → (opClasses op).isSome = true ∧ op < 65536

theorem idRead (h : CmdHdr) : Statement (Instr.idRead h) := by
  intro _ _ _ e
  cases e
  decide

theorem infoRead (h : CmdHdr) : Statement (Instr.infoRead h) := by
  intro _ _ _ e
  cases e
  decide

theorem unitStateRead (h : CmdHdr) (unit : Nat) : Statement (Instr.unitStateRead h unit) := by
  intro _ _ _ e
  cases e
  decide

theorem mismatchList (h : CmdHdr) : Statement (Instr.mismatchList h) := by
  intro _ _ _ e
  cases e
  decide

theorem echo (h : CmdHdr) (data : List Byte) : Statement (Instr.echo h data) := by
  intro _ _ _ e
  cases e
  decide

theorem imageStageBegin (h : CmdHdr) (slot length : Nat) : Statement (Instr.imageStageBegin h slot length) := by
  intro _ _ _ e
  cases e
  decide

theorem imageStageData (h : CmdHdr) (offset : Nat) (data : List Byte) : Statement (Instr.imageStageData h offset data) := by
  intro _ _ _ e
  cases e
  decide

theorem imageCommit (h : CmdHdr) (slot : Nat) : Statement (Instr.imageCommit h slot) := by
  intro _ _ _ e
  cases e
  decide

theorem imageCommitComplete (signed compared : Bool) : Statement (Instr.imageCommitComplete signed compared) := nofun

theorem imageSelect (h : CmdHdr) (slot fallback : Nat) : Statement (Instr.imageSelect h slot fallback) := by
  intro _ _ _ e
  cases e
  decide

theorem imageInfo (h : CmdHdr) (slot : Nat) : Statement (Instr.imageInfo h slot) := by
  intro _ _ _ e
  cases e
  decide

theorem configApply (h : CmdHdr) (mask cycle : Nat) : Statement (Instr.configApply h mask cycle) := by
  intro _ _ _ e
  cases e
  decide

theorem paramRead (h : CmdHdr) (offset count : Nat) : Statement (Instr.paramRead h offset count) := by
  intro _ _ _ e
  cases e
  decide

theorem paramWrite (h : CmdHdr) (offset : Nat) (words : List (Nat × Nat)) : Statement (Instr.paramWrite h offset words) := by
  intro _ _ _ e
  cases e
  decide

theorem registerWrite (offset value mask : Nat) : Statement (Instr.registerWrite offset value mask) := nofun

theorem nodeReset (h : CmdHdr) (kind : Nat) : Statement (Instr.nodeReset h kind) := by
  intro _ _ _ e
  cases e
  decide

theorem timeRead (h : CmdHdr) : Statement (Instr.timeRead h) := by
  intro _ _ _ e
  cases e
  decide

theorem timeStep (h : CmdHdr) (cycle step : Nat) : Statement (Instr.timeStep h cycle step) := by
  intro _ _ _ e
  cases e
  decide

theorem timeReintegrate (h : CmdHdr) : Statement (Instr.timeReintegrate h) := by
  intro _ _ _ e
  cases e
  decide

theorem refPriority (h : CmdHdr) (units : List Nat) : Statement (Instr.refPriority h units) := by
  intro _ _ _ e
  cases e
  decide

theorem servoLimit (h : CmdHdr) (freeze ppb : Nat) : Statement (Instr.servoLimit h freeze ppb) := by
  intro _ _ _ e
  cases e
  decide

theorem positionRead (h : CmdHdr) : Statement (Instr.positionRead h) := by
  intro _ _ _ e
  cases e
  decide

theorem baliseCorrect (h : CmdHdr) (position time : Nat) : Statement (Instr.baliseCorrect h position time) := by
  intro _ _ _ e
  cases e
  decide

theorem phaseRead (h : CmdHdr) : Statement (Instr.phaseRead h) := by
  intro _ _ _ e
  cases e
  decide

theorem eventAdd (h : CmdHdr) (entry : List Byte) : Statement (Instr.eventAdd h entry) := by
  intro _ _ _ e
  cases e
  decide

theorem eventRemove (h : CmdHdr) (index : Nat) : Statement (Instr.eventRemove h index) := by
  intro _ _ _ e
  cases e
  decide

theorem eventRead (h : CmdHdr) (index : Nat) : Statement (Instr.eventRead h index) := by
  intro _ _ _ e
  cases e
  decide

theorem disturbWindow (h : CmdHdr) (mask start duration : Nat) : Statement (Instr.disturbWindow h mask start duration) := by
  intro _ _ _ e
  cases e
  decide

theorem hoistRequest (h : CmdHdr) (reason : Nat) : Statement (Instr.hoistRequest h reason) := by
  intro _ _ _ e
  cases e
  decide

theorem directoryRead (h : CmdHdr) (which : Nat) : Statement (Instr.directoryRead h which) := by
  intro _ _ _ e
  cases e
  decide

theorem cycleStatus (h : CmdHdr) : Statement (Instr.cycleStatus h) := by
  intro _ _ _ e
  cases e
  decide

theorem trainSleep (h : CmdHdr) (cycle : Nat) : Statement (Instr.trainSleep h cycle) := by
  intro _ _ _ e
  cases e
  decide

theorem laneForce (h : CmdHdr) (pe mask : Nat) : Statement (Instr.laneForce h pe mask) := by
  intro _ _ _ e
  cases e
  decide

theorem scheduleSwitch (h : CmdHdr) (cycle : Nat) : Statement (Instr.scheduleSwitch h cycle) := by
  intro _ _ _ e
  cases e
  decide

theorem signalRead (h : CmdHdr) (index count : Nat) : Statement (Instr.signalRead h index count) := by
  intro _ _ _ e
  cases e
  decide

theorem signalWrite (h : CmdHdr) (index value : Nat) : Statement (Instr.signalWrite h index value) := by
  intro _ _ _ e
  cases e
  decide

theorem signalWindowWrite (c : PrivClass) (index value : Nat) : Statement (Instr.signalWindowWrite c index value) := nofun

theorem smeRead (h : CmdHdr) (index profile : Nat) : Statement (Instr.smeRead h index profile) := by
  intro _ _ _ e
  cases e
  decide

theorem smeWrite (h : CmdHdr) (index profile : Nat) (entry : List Byte) : Statement (Instr.smeWrite h index profile entry) := by
  intro _ _ _ e
  cases e
  decide

theorem profileSwitch (h : CmdHdr) (profile cycle : Nat) : Statement (Instr.profileSwitch h profile cycle) := by
  intro _ _ _ e
  cases e
  decide

theorem profileRead (h : CmdHdr) : Statement (Instr.profileRead h) := by
  intro _ _ _ e
  cases e
  decide

theorem fieldConfig (h : CmdHdr) (channel : Nat) (config : List Byte) : Statement (Instr.fieldConfig h channel config) := by
  intro _ _ _ e
  cases e
  decide

theorem fieldRead (h : CmdHdr) (first count : Nat) : Statement (Instr.fieldRead h first count) := by
  intro _ _ _ e
  cases e
  decide

theorem fieldSet (h : CmdHdr) (mask levels : List Byte) : Statement (Instr.fieldSet h mask levels) := by
  intro _ _ _ e
  cases e
  decide

theorem loopSet (h : CmdHdr) (channel code : Nat) : Statement (Instr.loopSet h channel code) := by
  intro _ _ _ e
  cases e
  decide

theorem fieldSafeSet (h : CmdHdr) (channel safe watchdog : Nat) : Statement (Instr.fieldSafeSet h channel safe watchdog) := by
  intro _ _ _ e
  cases e
  decide

theorem fieldFaultClear (h : CmdHdr) (channel : Nat) : Statement (Instr.fieldFaultClear h channel) := by
  intro _ _ _ e
  cases e
  decide

theorem ladderStatus (h : CmdHdr) : Statement (Instr.ladderStatus h) := by
  intro _ _ _ e
  cases e
  decide

theorem ladderFloor (h : CmdHdr) (domain rung : Nat) : Statement (Instr.ladderFloor h domain rung) := by
  intro _ _ _ e
  cases e
  decide

theorem feedPrefer (h : CmdHdr) (feed : Nat) : Statement (Instr.feedPrefer h feed) := by
  intro _ _ _ e
  cases e
  decide

theorem pwrPrefer (c : PrivClass) (feed : Nat) : Statement (Instr.pwrPrefer c feed) := nofun

theorem thermalRead (h : CmdHdr) : Statement (Instr.thermalRead h) := by
  intro _ _ _ e
  cases e
  decide

theorem perfFloor (h : CmdHdr) (floor : Nat) : Statement (Instr.perfFloor h floor) := by
  intro _ _ _ e
  cases e
  decide

theorem pairStatus (h : CmdHdr) : Statement (Instr.pairStatus h) := by
  intro _ _ _ e
  cases e
  decide

theorem guardedSet (h : CmdHdr) (channels : List Nat) : Statement (Instr.guardedSet h channels) := by
  intro _ _ _ e
  cases e
  decide

theorem failoverRequest (h : CmdHdr) : Statement (Instr.failoverRequest h) := by
  intro _ _ _ e
  cases e
  decide

theorem failoverTimeout : Statement (Instr.failoverTimeout) := nofun

theorem semAcquire (h : CmdHdr) (index hold : Nat) : Statement (Instr.semAcquire h index hold) := by
  intro _ _ _ e
  cases e
  decide

theorem semRelease (h : CmdHdr) (index : Nat) : Statement (Instr.semRelease h index) := by
  intro _ _ _ e
  cases e
  decide

theorem bridgeStatus (h : CmdHdr) : Statement (Instr.bridgeStatus h) := by
  intro _ _ _ e
  cases e
  decide

theorem statsRead (h : CmdHdr) (unit first count : Nat) : Statement (Instr.statsRead h unit first count) := by
  intro _ _ _ e
  cases e
  decide

theorem statsClear (h : CmdHdr) (unit : Nat) : Statement (Instr.statsClear h unit) := by
  intro _ _ _ e
  cases e
  decide

theorem recorderRead (h : CmdHdr) (start signal records : Nat) : Statement (Instr.recorderRead h start signal records) := by
  intro _ _ _ e
  cases e
  decide

theorem selftest (h : CmdHdr) (unit : Nat) : Statement (Instr.selftest h unit) := by
  intro _ _ _ e
  cases e
  decide

theorem eventSubscribe (h : CmdHdr) (ip udp groups : Nat) : Statement (Instr.eventSubscribe h ip udp groups) := by
  intro _ _ _ e
  cases e
  decide

theorem portEnable (h : CmdHdr) (port enable : Nat) : Statement (Instr.portEnable h port enable) := by
  intro _ _ _ e
  cases e
  decide

theorem portStatus (h : CmdHdr) (port : Nat) : Statement (Instr.portStatus h port) := by
  intro _ _ _ e
  cases e
  decide

theorem wakePatternSet (h : CmdHdr) (mac pattern : Nat) (mask : List Byte) (crc : Nat) : Statement (Instr.wakePatternSet h mac pattern mask crc) := by
  intro _ _ _ e
  cases e
  decide

theorem phyTest (h : CmdHdr) (port mode : Nat) : Statement (Instr.phyTest h port mode) := by
  intro _ _ _ e
  cases e
  decide

theorem commandTake : Statement (Instr.commandTake) := nofun

theorem writePacket (bytes : List Byte) : Statement (Instr.writePacket bytes) := nofun

theorem readReply (complete : Bool) : Statement (Instr.readReply complete) := nofun

theorem readEvent (complete : Bool) : Statement (Instr.readEvent complete) := nofun

theorem readStatus : Statement (Instr.readStatus) := nofun

theorem ssUnknownTransaction (first : Nat) : Statement (Instr.ssUnknownTransaction first) := nofun

theorem mtDatagramReceive (d : MtFrame) : Statement (Instr.mtDatagramReceive d) := nofun

theorem mtReassemblyTimeout (ip ident : Nat) : Statement (Instr.mtReassemblyTimeout ip ident) := nofun

theorem cmdHaRingTail (hb : Bool) (tail : Nat) : Statement (Instr.cmdHaRingTail hb tail) := nofun

theorem commandRingFetch (hb : Bool) (entry packet : List Byte) : Statement (Instr.commandRingFetch hb entry packet) := nofun

theorem cmdHaEvtRead (hb : Bool) (index : Nat) : Statement (Instr.cmdHaEvtRead hb index) := nofun

theorem bar0Write (hb : Bool) (offset size value : Nat) : Statement (Instr.bar0Write hb offset size value) := nofun

theorem timSecRead (path : ReadPath) : Statement (Instr.timSecRead path) := nofun

theorem posPositionRead (path : ReadPath) : Statement (Instr.posPositionRead path) := nofun

theorem firmwareHeartbeat : Statement (Instr.firmwareHeartbeat) := nofun

theorem pcieReset (hb : Bool) : Statement (Instr.pcieReset hb) := nofun

theorem bkbPepCtlSpeed (pe speed ext : Nat) : Statement (Instr.bkbPepCtlSpeed pe speed ext) := nofun

theorem timSlewPpb (ppb : Nat) : Statement (Instr.timSlewPpb ppb) := nofun

theorem timFreeze (freeze : Nat) : Statement (Instr.timFreeze freeze) := nofun

theorem posAxnDiamUm (axle diam ppr : Nat) : Statement (Instr.posAxnDiamUm axle diam ppr) := nofun

theorem posLpSys (sys : Nat) : Statement (Instr.posLpSys sys) := nofun

theorem stlEngeCfg (engine cfg : Nat) : Statement (Instr.stlEngeCfg engine cfg) := nofun

theorem ladDdCfg (domain cfg : Nat) : Statement (Instr.ladDdCfg domain cfg) := nofun

theorem macNCfgEn (mac cfg : Nat) : Statement (Instr.macNCfgEn mac cfg) := nofun

theorem macNPlcaEn (mac en id count timer burst burstTimer : Nat) : Statement (Instr.macNPlcaEn mac en id count timer burst burstTimer) := nofun

theorem glbVehIdSet (c : PrivClass) (vehId : Nat) : Statement (Instr.glbVehIdSet c vehId) := nofun

theorem fcMode (channel mode : Nat) : Statement (Instr.fcMode channel mode) := nofun

theorem newModeConnect (channel : Nat) : Statement (Instr.newModeConnect channel) := nofun

theorem redReqEn (en mask : Nat) : Statement (Instr.redReqEn en mask) := nofun

theorem schHxTxEn (hb : Bool) (tx rx : Nat) : Statement (Instr.schHxTxEn hb tx rx) := nofun

theorem fieldLinkFrame (die : Nat) (ok : Bool) (senses : Nat) (meas : List ChanMeas) : Statement (Instr.fieldLinkFrame die ok senses meas) := nofun

theorem fieldLinkLost (die : Nat) : Statement (Instr.fieldLinkLost die) := nofun

theorem fieldLinkUp (die : Nat) : Statement (Instr.fieldLinkUp die) := nofun

theorem pwrLinkLost : Statement (Instr.pwrLinkLost) := nofun

theorem uncorrectableError (place : MemPlace) : Statement (Instr.uncorrectableError place) := nofun

theorem correctedError (memory : Nat) : Statement (Instr.correctedError memory) := nofun

theorem refclkLost (ref : Nat) : Statement (Instr.refclkLost ref) := nofun

theorem refclkReturn (ref : Nat) : Statement (Instr.refclkReturn ref) := nofun

theorem cycleBoundary : Statement (Instr.cycleBoundary) := nofun

theorem stateMismatch (unit : Nat) : Statement (Instr.stateMismatch unit) := nofun

theorem laneTrained (mac speed : Nat) : Statement (Instr.laneTrained mac speed) := nofun

theorem laneLossReport (mac : Nat) : Statement (Instr.laneLossReport mac) := nofun

theorem laneLossEnd (mac : Nat) : Statement (Instr.laneLossEnd mac) := nofun

theorem lossQualified (mac : Nat) : Statement (Instr.lossQualified mac) := nofun

theorem laneStateFrameSend (mac : Nat) : Statement (Instr.laneStateFrameSend mac) := nofun

theorem laneStateFrameReceive (rx : RxBb) : Statement (Instr.laneStateFrameReceive rx) := nofun

theorem laneRecover (mac : Nat) : Statement (Instr.laneRecover mac) := nofun

theorem backboneFrameReceive (rx : RxBb) : Statement (Instr.backboneFrameReceive rx) := nofun

theorem disturbWindowOpen (window : Nat) : Statement (Instr.disturbWindowOpen window) := nofun

theorem disturbWindowEnd (window : Nat) : Statement (Instr.disturbWindowEnd window) := nofun

theorem pennantReceive (rx : RxBb) : Statement (Instr.pennantReceive rx) := nofun

theorem slotContentCutoff (slot : Nat) : Statement (Instr.slotContentCutoff slot) := nofun

theorem slotEgress (slot pe : Nat) : Statement (Instr.slotEgress slot pe) := nofun

theorem slotSkip (slot pe : Nat) : Statement (Instr.slotSkip slot pe) := nofun

theorem messagePhaseStart : Statement (Instr.messagePhaseStart) := nofun

theorem pennantMissed : Statement (Instr.pennantMissed) := nofun

theorem listenStart : Statement (Instr.listenStart) := nofun

theorem listenTimerExpiry : Statement (Instr.listenTimerExpiry) := nofun

theorem backoffExpiry : Statement (Instr.backoffExpiry) := nofun

theorem contestTimerExpiry : Statement (Instr.contestTimerExpiry) := nofun

theorem startupFrameReceive (rx : RxBb) : Statement (Instr.startupFrameReceive rx) := nofun

theorem coupleSenseDebounce (end_ level : Nat) : Statement (Instr.coupleSenseDebounce end_ level) := nofun

theorem triggerFrame (rx : RxBb) : Statement (Instr.triggerFrame rx) := nofun

theorem joinHoldExpiry : Statement (Instr.joinHoldExpiry) := nofun

theorem topologyFrame (rx : RxBb) : Statement (Instr.topologyFrame rx) := nofun

theorem recordFrame (rx : RxBb) : Statement (Instr.recordFrame rx) := nofun

theorem collectionClose : Statement (Instr.collectionClose) := nofun

theorem numberingDone : Statement (Instr.numberingDone) := nofun

theorem proposalFrame (rx : RxBb) : Statement (Instr.proposalFrame rx) := nofun

theorem runaheadComplete : Statement (Instr.runaheadComplete) := nofun

theorem provisionalFrameReceive (rx : RxBb) : Statement (Instr.provisionalFrameReceive rx) := nofun

theorem readyFrame (rx : RxBb) : Statement (Instr.readyFrame rx) := nofun

theorem refuseFrame (rx : RxBb) : Statement (Instr.refuseFrame rx) := nofun

theorem readyCollectionClose : Statement (Instr.readyCollectionClose) := nofun

theorem commitFrame (rx : RxBb) : Statement (Instr.commitFrame rx) := nofun

theorem strikeFrame (rx : RxBb) : Statement (Instr.strikeFrame rx) := nofun

theorem yieldFrame (rx : RxBb) : Statement (Instr.yieldFrame rx) := nofun

theorem delayExchangeStart : Statement (Instr.delayExchangeStart) := nofun

theorem delayRequestReceive (rx : RxBb) : Statement (Instr.delayRequestReceive rx) := nofun

theorem delayResponseReceive (rx : RxBb) : Statement (Instr.delayResponseReceive rx) := nofun

theorem delayFollowUpReceive (rx : RxBb) : Statement (Instr.delayFollowUpReceive rx) := nofun

theorem delayExchangeVoid (mac : Nat) : Statement (Instr.delayExchangeVoid mac) := nofun

theorem ppsPulse (edge time : Nat) : Statement (Instr.ppsPulse edge time) := nofun

theorem todMessage (input : Nat) (bytes : List Byte) : Statement (Instr.todMessage input bytes) := nofun

theorem ptpMessageReceive (m : PtpMsg) : Statement (Instr.ptpMessageReceive m) := nofun

theorem ppsLossTimeout (input : Nat) : Statement (Instr.ppsLossTimeout input) := nofun

theorem referenceWindowEnd (ref window : Nat) : Statement (Instr.referenceWindowEnd ref window) := nofun

theorem ppsOutPulse : Statement (Instr.ppsOutPulse) := nofun

theorem axleEdge (e : AxleEdge) : Statement (Instr.axleEdge e) := nofun

theorem slipCheck : Statement (Instr.slipCheck) := nofun

theorem fusionUpdate : Statement (Instr.fusionUpdate) := nofun

theorem positionReportReceive (rx : RxBb) : Statement (Instr.positionReportReceive rx) := nofun

theorem lineCrossing (period amplitude : Nat) : Statement (Instr.lineCrossing period amplitude) := nofun

theorem dcDetect : Statement (Instr.dcDetect) := nofun

theorem eventFire (index : Nat) : Statement (Instr.eventFire index) := nofun

theorem tailWordPoll (hb : Bool) (word : Nat) (rxSizes : List Nat) : Statement (Instr.tailWordPoll hb word rxSizes) := nofun

theorem transmitDescriptorFetch (hb : Bool) (desc : List Byte) (frame : Option (List Byte)) : Statement (Instr.transmitDescriptorFetch hb desc frame) := nofun

theorem portTransmitSelect (mac : Nat) : Statement (Instr.portTransmitSelect mac) := nofun

theorem frameTransmitComplete (mac : Nat) : Statement (Instr.frameTransmitComplete mac) := nofun

theorem macFrameReceive (rx : RxEth) : Statement (Instr.macFrameReceive rx) := nofun

theorem pauseExpiry (mac : Nat) : Statement (Instr.pauseExpiry mac) := nofun

theorem queueAgeExpiry (mac queue : Nat) : Statement (Instr.queueAgeExpiry mac queue) := nofun

theorem linkStatusChange (mac link speed : Nat) (half : Bool) : Statement (Instr.linkStatusChange mac link speed half) := nofun

theorem collision (mac : Nat) (late : Bool) : Statement (Instr.collision mac late) := nofun

theorem csmaBackoffExpiry (mac : Nat) : Statement (Instr.csmaBackoffExpiry mac) := nofun

theorem plcaStatusChange (mac : Nat) (ok : Bool) : Statement (Instr.plcaStatusChange mac ok) := nofun

theorem jobTake (engine : Nat) : Statement (Instr.jobTake engine) := nofun

theorem stealSearch (engine : Nat) : Statement (Instr.stealSearch engine) := nofun

theorem jobComplete (engine : Nat) : Statement (Instr.jobComplete engine) := nofun

theorem recorderWrite : Statement (Instr.recorderWrite) := nofun

theorem stalenessSweep (first count : Nat) : Statement (Instr.stalenessSweep first count) := nofun

theorem fieldImagePresent : Statement (Instr.fieldImagePresent) := nofun

theorem chunkApply (unit layout : Nat) : Statement (Instr.chunkApply unit layout) := nofun

theorem releasePointCyclic (unit layout : Nat) : Statement (Instr.releasePointCyclic unit layout) := nofun

theorem engineQuarantine (engine cause : Nat) : Statement (Instr.engineQuarantine engine cause) := nofun

theorem engineSelftestDone (engine : Nat) (good : Bool) : Statement (Instr.engineSelftestDone engine good) := nofun

theorem envelopeInterval : Statement (Instr.envelopeInterval) := nofun

theorem mvbBasicPeriod (c : Nat) : Statement (Instr.mvbBasicPeriod c) := nofun

theorem mvbMasterFrameReceive (c fcode addr lines : Nat) : Statement (Instr.mvbMasterFrameReceive c fcode addr lines) := nofun

theorem mvbSlaveFrameReceive (c line fcode addr : Nat) (data : List Byte) (goodA goodB : Bool) : Statement (Instr.mvbSlaveFrameReceive c line fcode addr data goodA goodB) := nofun

theorem mvbReplyTimeout (c : Nat) : Statement (Instr.mvbReplyTimeout c) := nofun

theorem mvbSilenceTakeover (c : Nat) : Statement (Instr.mvbSilenceTakeover c) := nofun

theorem wtbInaugurationStart : Statement (Instr.wtbInaugurationStart) := nofun

theorem wtbInaugurationComplete (w : WtbInaug) : Statement (Instr.wtbInaugurationComplete w) := nofun

theorem wtbProcessDataReceive (addr : Nat) (data : List Byte) (lines : Nat) : Statement (Instr.wtbProcessDataReceive addr data lines) := nofun

theorem wtbOwnFrameSend : Statement (Instr.wtbOwnFrameSend) := nofun

theorem canFrameReceive (k id ide fdf rtr : Nat) (data : List Byte) : Statement (Instr.canFrameReceive k id ide fdf rtr data) := nofun

theorem canTransmitComplete (k : Nat) : Statement (Instr.canTransmitComplete k) := nofun

theorem canTxAgeExpiry (k entry : Nat) : Statement (Instr.canTxAgeExpiry k entry) := nofun

theorem canBusOff (k : Nat) : Statement (Instr.canBusOff k) := nofun

theorem canBusOffRecovery (k : Nat) : Statement (Instr.canBusOffRecovery k) := nofun

theorem serialFrameClose (s : Nat) (data : List Byte) (charError break_ : Bool) : Statement (Instr.serialFrameClose s data charError break_) := nofun

theorem serialTransmit (s : Nat) : Statement (Instr.serialTransmit s) := nofun

theorem serialResponseTimeout (s : Nat) : Statement (Instr.serialResponseTimeout s) := nofun

theorem receiveTimeout (bus unit entry : Nat) : Statement (Instr.receiveTimeout bus unit entry) := nofun

theorem bridgeFrameReceive (rx : RxBb) : Statement (Instr.bridgeFrameReceive rx) := nofun

theorem reassemblyTimeout (origin xid : Nat) : Statement (Instr.reassemblyTimeout origin xid) := nofun

theorem orderGapTimeout (originUid : Nat) : Statement (Instr.orderGapTimeout originUid) := nofun

theorem transactionTimeout (port tag : Nat) : Statement (Instr.transactionTimeout port tag) := nofun

theorem semExpiry (index : Nat) : Statement (Instr.semExpiry index) := nofun

theorem bankSupplyMeasure (bank mv : Nat) : Statement (Instr.bankSupplyMeasure bank mv) := nofun

theorem inputSample (channel level : Nat) (current : Int) : Statement (Instr.inputSample channel level current) := nofun

theorem loopConversion (channel : Nat) (code : Int) : Statement (Instr.loopConversion channel code) := nofun

theorem loopWireBreak (channel : Nat) (broken : Bool) : Statement (Instr.loopWireBreak channel broken) := nofun

theorem overcurrentLatch (channel : Nat) : Statement (Instr.overcurrentLatch channel) := nofun

theorem overtemperatureTrip (channel : Nat) : Statement (Instr.overtemperatureTrip channel) := nofun

theorem openLoad (channel : Nat) (open_ : Bool) : Statement (Instr.openLoad channel open_) := nofun

theorem demagnetisationEnd (channel energy bankMw : Nat) : Statement (Instr.demagnetisationEnd channel energy bankMw) := nofun

theorem compliance (channel : Nat) (short : Bool) : Statement (Instr.compliance channel short) := nofun

theorem watchdogExpired (channel : Nat) : Statement (Instr.watchdogExpired channel) := nofun

theorem holdLimit (channel : Nat) : Statement (Instr.holdLimit channel) := nofun

theorem mirrorStale : Statement (Instr.mirrorStale) := nofun

theorem feedStateChange (feed state mv : Nat) : Statement (Instr.feedStateChange feed state mv) := nofun

theorem feedQualified (feed : Nat) : Statement (Instr.feedQualified feed) := nofun

theorem rideThroughExpiry : Statement (Instr.rideThroughExpiry) := nofun

theorem healthTrip (bit : Nat) : Statement (Instr.healthTrip bit) := nofun

theorem arbGntChange (level : Nat) : Statement (Instr.arbGntChange level) := nofun

theorem guidonSend : Statement (Instr.guidonSend) := nofun

theorem halyardFrameReceive (hdr mirror : List Byte) : Statement (Instr.halyardFrameReceive hdr mirror) := nofun

theorem backboneGuidonReceive (mac : Nat) (hdr : List Byte) : Statement (Instr.backboneGuidonReceive mac hdr) := nofun

theorem guidonMiss (path : Nat) : Statement (Instr.guidonMiss path) := nofun

theorem halyardUp (up : Bool) (partnerUid : Nat) : Statement (Instr.halyardUp up partnerUid) := nofun

theorem domainDescent (domain : Nat) : Statement (Instr.domainDescent domain) := nofun

theorem domainAscent (domain : Nat) : Statement (Instr.domainAscent domain) := nofun

theorem domainWake (domain : Nat) : Statement (Instr.domainWake domain) := nofun

theorem sleepAckFrame (rx : RxBb) : Statement (Instr.sleepAckFrame rx) := nofun

theorem sleepAckClose : Statement (Instr.sleepAckClose) := nofun

theorem orphanTimeout : Statement (Instr.orphanTimeout) := nofun

theorem wakeIndication (source pes seconds : Nat) : Statement (Instr.wakeIndication source pes seconds) := nofun

theorem thermalSample (tj : List Int) : Statement (Instr.thermalSample tj) := nofun

theorem throttleStepTimer : Statement (Instr.throttleStepTimer) := nofun

theorem shedStageTimer : Statement (Instr.shedStageTimer) := nofun

theorem ecoStep (down : Bool) : Statement (Instr.ecoStep down) := nofun

theorem thermalRestart : Statement (Instr.thermalRestart) := nofun

theorem internalRelease (b : BoardLevels) : Statement (Instr.internalRelease b) := nofun

theorem resetNPulse (ns : Nat) : Statement (Instr.resetNPulse ns) := nofun

theorem railSupervisorFault (die : Nat) : Statement (Instr.railSupervisorFault die) := nofun

theorem imageCheckDone (slot result : Nat) : Statement (Instr.imageCheckDone slot result) := nofun

theorem lineLinkTimeout (port : Nat) : Statement (Instr.lineLinkTimeout port) := nofun

theorem powerLinkReturn : Statement (Instr.powerLinkReturn) := nofun

theorem canErrorFrame (k tec rec : Nat) : Statement (Instr.canErrorFrame k tec rec) := nofun

theorem announceReceiptTimeout (port : Nat) : Statement (Instr.announceReceiptTimeout port) := nofun

theorem ptpMessageInterval (port kind : Nat) : Statement (Instr.ptpMessageInterval port kind) := nofun

theorem todMessageTimeout (input : Nat) : Statement (Instr.todMessageTimeout input) := nofun

theorem linePeriodEnd (amplitude : Nat) (error : Int) : Statement (Instr.linePeriodEnd amplitude error) := nofun

theorem pcieLinkChange (hb up : Bool) : Statement (Instr.pcieLinkChange hb up) := nofun

theorem journalRecordCommitted : Statement (Instr.journalRecordCommitted) := nofun

theorem plcaBeacon (mac : Nat) : Statement (Instr.plcaBeacon mac) := nofun


end Sys2Proof.Laws.Packet
end

