-- ==== Sys2Proof/Tests/Slice0.lean ====
section
/-!
SUPPORT. The model's own tests: ill-formed commands that `wf` refuses, packets and check values written out from the spec,
and, for every statement with hypotheses, states and operands that meet them together, clause by clause.
-/
namespace Sys2Proof.Tests
open Sys2Proof Sys2Proof.Machine Sys2Proof.Claims

set_option Elab.async false

/-- The header of an `SS` command. -/
def hd : CmdHdr :=
  { via := viaSS, posted := false, epochCheck := false, seq := 7, target := 0, epoch := 0, originNode := 0, originPort := 0 }

/-- A node in stage 3. -/
def up : State := { State.reset with sys := { State.reset.sys with power := 3, started := true, stage := 3 } }

/-- A node held in reset. -/
def held : State := State.reset

/-- A node in stage 3 with some fields set. -/
def put (l : List (Fld × Nat)) : State := l.foldl (fun t p => t.wr p.1 p.2) up

/-- What `Serves` asks, as a test. -/
def servesB (op : Nat) (h : CmdHdr) (s : State) : Bool :=
  s.sys.power == 3 && s.sys.stage == 3 && ((opClasses op).any (fun cl => cl.contains (classOf h.via.port))) &&
    decide (h.target ≤ 128) && ((h.target == 0 && !h.epochCheck) || s.epochOk h.epoch) && s.isLocal h

theorem serves_of {op : Nat} {h : CmdHdr} {s : State} (H : servesB op h s = true) : Serves op h s := by
  simp only [servesB, Bool.and_eq_true, beq_iff_eq, Option.any_eq_true, decide_eq_true_eq, Bool.or_eq_true,
    Bool.not_eq_true'] at H
  obtain ⟨⟨⟨⟨⟨h1, h2⟩, h3⟩, h4⟩, h5⟩, h6⟩ := H
  refine ⟨h1, .inl h2, h3, h4, fun h => ?_, h6⟩
  rcases h5 with ⟨a, b⟩ | e
  · rcases h with h | h
    · exact absurd a h
    · rw [b] at h; cases h
  · exact e

/-- A staged image of 64 bytes, nothing written. -/
def staged : State :=
  { up with sto := { up.sto with staging := some { slot := 1, length := 64, writes := [], bad := false } } }

/-- A pending `IMAGE_COMMIT` of slot 1. -/
def longC : Long :=
  { id := 0, via := viaSS, seq := 7, opcode := 0x0203, originPort := 2, arg := 1, arg2 := 0, abandoned := false }

/-- A node whose commit waits for its end. -/
def committing : State := { staged with cmd := { up.cmd with longs := [longC] } }

/-- Feeds in given states. -/
def feeds (arb a b : Nat) : State := { up with pair := { up.pair with arb := arb, stA := a, stB := b } }

/-- Board levels of a node that recovers. -/
def board : BoardLevels :=
  { boot := 3, cold := 0, pair := 0, maint := 0, jtag := 0, uid := 1, mac := 1, vehId := 1, factoryOk := true,
    installOk := true, revoked := 0, minVersion := 0 }

/-- A channel that drives a level, with its watchdog running and its value held. -/
def chanLive : Chan :=
  { cfg := none, value := 1, running := true, wdFrom := 0, wdMs := 0, dead := 0, kept := false, held := true,
    holdFrom := 0, mirror := none, stale := false, changing := false, taken := true, latch := 0, openLoop := false,
      level := 1, brk := 0,
    conv := [] }

/-- An event entry that opens a gate of a mask of queues. -/
def evGood : List Byte := [0x20#8] ++ zeros 31 ++ toBE 4 1000 ++ zeros 28

/-- Such an entry in the table. -/
def evEnt : EvEntry :=
  { index := 0, bytes := evGood, target := 0, prevPos := 0, havePos := false, prevAngle := 0, haveAngle := false,
    entered := false, lastEval := none }

/-- A table with every index taken. -/
def fullTable : List EvEntry := (List.range 4096).map (fun i => { evEnt with index := i })

/-- A proposal without nodes. -/
def someProp : Proposal := { leadUid := 1, hoistId := 1, epoch := 1, sched := 1, flags := 0, reason := 0, recs := [], slots := [] }

/-- A node that has taken a proposal. -/
def proposed : State := { put [(HST_STATE.f, 1)] with hst := { up.hst with proposal := some someProp } }

/-- A message descriptor of host signals. -/
def hostMsg : MsgDesc :=
  { msg := 0x04000000, first := 0, count := 4, safety := false, cls := 0, window := 0, safetyId := 0 }

/-- A record of a host signal: valid, binary64, no destinations. -/
def smeHost : List Byte := [1#8] ++ zeros 3 ++ toBE 4 0x04000000 ++ zeros 56

/-- A node whose active binding bank covers indices 0 to 3 by a descriptor. -/
def boundTo (d : MsgDesc) : State :=
  { up with sig := { up.sig with bindA := { descs := [d], nodes := [] }, bindB := { descs := [d], nodes := [] },
                                 map := [(0, smeHost)] } }

/-- A node with a host message bound. -/
def bound : State := boundTo hostMsg

/-- An image for this node with one empty section. -/
def image : List Byte :=
  toBE 4 0x4E47494D ++ toBE 2 1 ++ toBE 2 1 ++ toBE 8 0x4E474256000000C0 ++ toBE 4 7 ++ toBE 4 160 ++ zeros 40 ++
    (toBE 1 0 ++ zeros 3 ++ toBE 4 80 ++ toBE 4 16 ++ zeros 4) ++ zeros 80

/-- A reply. -/
def rep : Reply := mkReply hd 0x0101 stOk []

/-- An event record. -/
def evr : EvtRec :=
  { code := 0x0101, unit := 0, seq := 0, cleared := false, lostBefore := false, phase := false, port := 0, time := 0,
    status := 0, epoch := 0, data := [] }

/-- An `MT` frame of a kind, for address and port 0. -/
def mtf (kind : Nat) : MtFrame :=
  { kind := kind, ip := 9, udp := 9, dstUdp := 0, ident := 0, offset := 0, more := false, bytes := zeros 4 }

/-- A node whose endpoint `HA` has its link up. -/
def linked (l : List (Fld × Nat)) : State :=
  { put l with cmd := { up.cmd with ha := { up.cmd.ha with link := true } } }

/-- A node with lane 0 enabled and in a state. -/
def lane0 (g : Lane → Lane) (l : List (Fld × Nat)) : State := (put ((MAC_n_CFG_EN.f 0, 1) :: l)).setLane 0 g

/-- A clean link-local frame on lane 0. -/
def rxb : RxBb :=
  { mac := 0, len := 64, fcsOk := true, symOk := true, time := 0,
    frame := { dst := dstLinkLocal, src := 0, etherType := bbEtherType, version := 1, kind := 0, planeY := false, single := false, linkLocal := true, origin := 0, epoch := 0,
               seq := 0, hops := 0, slot := 0, body := [] } }

/-- A clean Ethernet frame. -/
def rxe : RxEth := { mac := 16, len := 64, fcsOk := true, symOk := true, time := 0, bytes := zeros 60 }

/-- A node with four good lanes at plane-end 0. -/
def neighbours (l : List (Fld × Nat)) : State :=
  (List.range 4).foldl (fun t m => t.setLane m (fun x => { x with trained := true }))
    (put ([(BKB_PEp_CTL_SPEED.f 0, 0), (BKB_PEp_NB_GOOD.f 0, 15)] ++ l))

/-- A slot of this node, published at 100 ns of the cycle on plane-end 0. -/
def slot1 : Slot :=
  { num := 1, origin := 0, len := 100, period := 1, phase := 0, valid := true, originate := true, publish := 0, msg := 0,
    egress := [100, noTime, noTime, noTime], ingress := List.replicate 4 noTime }

/-- Its frame, waiting. -/
def wait1 : SlotOut :=
  { slot := 1, pe := 0, frame := { rxb.frame with kind := 1, dst := dstForwarded, linkLocal := false }, rxTime := none, rxDelay := 0, buf := 0 }

/-- A node in SYNC that has the slot, its frame waiting, at a local time; its lane in the group or forced out of it. -/
def slotted (now : Nat) (inGroup : Bool) : State :=
  let s := neighbours [(TCY_STATE.f, 5), (BKB_PEp_TABLE.f 0, 0), (BKB_PEp_FORCED.f 0, if inGroup then 0 else 1)]
  { s with clk := { s.clk with now := now },
           bkb := { s.bkb with tables := [{ index := 1, slot := 1, lane := 0, originate := true, skew := 0 }] :: List.replicate 19 [] },
           tcy := { s.tcy with bankA := { slots := [slot1], sched := 0, ready := true, faulty := false },
                               waiting := [wait1], acceptedNow := true, poll := 2 } }

/-- The record of a lone node. -/
def lone : DirRec :=
  { uid := up.rd HST_UID.f, vehId := 0, kind := 0, flags := 0, ends := 0, sense := 0, node := 1, vehicle := 1, orient := 0,
    cls := 0, demandId := up.rd HST_DEMAND_ID.f, hops := 0, route := 0, foreignPos := 0 }

/-- A PTP delay request. -/
def ptpm : PtpMsg :=
  { port := 0, kind := 2, seq := 0, domain := 0, rxTime := 0, time := 0, correction := 0, clockClass := 0, prio1 := 0,
    prio2 := 0, accuracy := 0, variance := 0, identity := 0, steps := 0, sender := 0, traceable := false,
      oneStep := false, requester := 0 }

/-- An entry on the position. -/
def evPos : EvEntry := { evEnt with bytes := [0x21#8] ++ evGood.drop 1 }

/-- A descriptor for port 16. -/
def descGood : List Byte := zeros 12 ++ [1#8] ++ zeros 19

/-- A copy for MAC 16. -/
def copy16 : Copy :=
  { buf := 0, mac := 16, queue := 0, since := 0, age := 0, strip := false, counted := false, event := 0, launch := 0, window := 0,
    defer := false, defers := 0, over_ := none, started := 0 }

/-- The buffer it stands in. -/
def buf0 : Held := { id := 0, wire := .eth (zeros 60), cells := [], mac := 16, refs := 1, desc := none }

/-- A job. -/
def jobA : Job :=
  { id := 0, root := 0, deadline := 0, arrival := 0, first := 0, count := 1, cls := 0, check := false, followOn := false,
    sweep := false, level := 0, tag := { routing := false, slot := false, binding := false, profile := 0, epoch := 0 },
    inst := 0, signals := [], staged := [], numbers := [], rerun := false }

/-- A job that has run. -/
def runA : Running := { job := jobA, done := true, writes := [], triggers := [] }

/-- A recorder record. -/
def recA : RecRecord := { value := 0, time := 0, index := 0, status := 0, epoch := 0, origin := 0, seq := 0, damaged := false }

/-- A chunk that waits. -/
def chunkA : Chunk := { layout := 0, root := 0, writes := [], epoch := 0 }

/-- A journal record. -/
def jrecA : JRecord := { typ := 1, seq := 0, time := 0, body := [] }

/-- A request across the bridge. -/
def reqA : BrReq :=
  { via := viaSS, posted := false, hdr := hd, opcode := 0x0101, tag := 5, xid := 0, destUid := 9, bytes := [], trailer := 0, reserve := 0,
    sent := true, ord := 0 }

/-- A packet of `SS`. -/
def pkEcho : Packet := { via := viaSS, bytes := packetBytes hd 0x0101 [] }

/-- The same with reserved bits set. -/
def pkReserved : List Byte :=
  let b := (packetBytes hd 0x0101 []).take 24
  let c := b.take 3 ++ [0xF8#8] ++ slice b 4 13 ++ List.replicate 7 0xFF#8
  c ++ toBE 4 (crc32c c)

/-- A node with axle 0 enabled and in a state, and some fields set. -/
def axled (g : Axle → Axle) (l : List (Fld × Nat)) : State := (put ((POS_AX_EN.f, 1) :: l)).setAxle 0 (g axleNone)

/-- A node whose engines 0 and 1 are up and may steal, jobs of one descriptor waiting on the second. -/
def stealing (j : Job) : State :=
  let s := put [(STL_ENGe_OPER.f 0, 1), (STL_ENGe_OPER.f 1, 1), (STL_STEAL_EN.f, 1), (STL_MAX_HOPS.f, 1)]
  { s with eng := { s.eng with engines := [{ engineNone 1 with deque := [j, { j with id := 1 }] }] } }

/-- A header with a field too large for its bytes. -/
def badHd : CmdHdr := { hd with seq := 2 ^ 16 }

/-- A frame from a lane that does not exist. -/
def badRx : RxBb := { rxb with mac := 16 }

/-- A frame whose length does not count the FCS. -/
def badRxe : RxEth := { rxe with len := 60 }

/-- An inauguration. -/
def inaug : WtbInaug := { addr := 1, master := true, endNode := true, dir1 := [], dir2 := [], lines := 0 }

/-- A node of an address that does not exist. -/
def badWtb : WtbNode := { addr := 64, key := 0, inverse := false, vehId := 0 }

/-- An edge of axle 0. -/
def axleE : AxleEdge := { axle := 0, a := true, b := false, time := 0 }

theorem test_wf_refuses_1 : (
  [.idRead badHd, .infoRead badHd, .unitStateRead badHd 0, .unitStateRead hd (2 ^ 16), .mismatchList badHd,
   .echo badHd [], .imageStageBegin badHd 0 0, .imageStageBegin hd (2 ^ 8) 0, .imageStageBegin hd 0 (2 ^ 32),
   .imageStageData badHd 0 (zeros 1), .imageStageData hd (2 ^ 32) (zeros 1), .imageStageData hd 0 [],
   .imageCommit badHd 0, .imageCommit hd (2 ^ 8), .imageSelect badHd 0 0, .imageSelect hd (2 ^ 8) 0,
   .imageSelect hd 0 (2 ^ 8), .imageInfo badHd 0, .imageInfo hd (2 ^ 8), .configApply badHd 0 0,
   .configApply hd (2 ^ 32) 0, .configApply hd 0 (2 ^ 32), .paramRead badHd 0 0, .paramRead hd (2 ^ 32) 0,
   .paramRead hd 0 (2 ^ 16), .paramWrite badHd 0 [], .paramWrite hd (2 ^ 32) [],
   .paramWrite hd 0 (List.replicate (4093 + 1) (0, 0)), .paramWrite hd 0 [(2 ^ 64, 0)], .paramWrite hd 0 [(0, 2 ^ 64)],
   .registerWrite (2 ^ 32) 0 0, .registerWrite 0 (2 ^ 64) 0, .registerWrite 0 0 (2 ^ 64), .nodeReset badHd 0,
   .nodeReset hd (2 ^ 8), .timeRead badHd, .timeStep badHd 0 0, .timeStep hd (2 ^ 32) 0, .timeStep hd 0 (2 ^ 64),
   .timeReintegrate badHd, .refPriority badHd [], .refPriority hd (List.replicate (2 ^ 8) 0), .refPriority hd [2 ^ 16],
   .servoLimit badHd 0 0, .servoLimit hd (2 ^ 8) 0] : List Instr).all (fun c => !c.wf) = true := by
  decide +kernel

theorem test_wf_refuses_2 : (
  [.servoLimit hd 0 (2 ^ 32), .positionRead badHd, .baliseCorrect badHd 0 0, .baliseCorrect hd (2 ^ 64) 0,
   .baliseCorrect hd 0 (2 ^ 64), .phaseRead badHd, .eventAdd badHd (zeros 64), .eventAdd hd [], .eventRemove badHd 0,
   .eventRemove hd (2 ^ 16), .eventRead badHd 0, .eventRead hd (2 ^ 16), .disturbWindow badHd 0 0 0,
   .disturbWindow hd (2 ^ 8) 0 0, .disturbWindow hd 0 (2 ^ 64) 0, .disturbWindow hd 0 0 (2 ^ 32), .hoistRequest badHd 0,
   .hoistRequest hd (2 ^ 8), .directoryRead badHd 0, .directoryRead hd (2 ^ 8), .cycleStatus badHd, .trainSleep badHd 0,
   .trainSleep hd (2 ^ 32), .laneForce badHd 0 0, .laneForce hd (2 ^ 8) 0, .laneForce hd 0 (2 ^ 8),
   .scheduleSwitch badHd 0, .scheduleSwitch hd (2 ^ 32), .signalRead badHd 0 0, .signalRead hd (2 ^ 32) 0,
   .signalRead hd 0 (2 ^ 16), .signalWrite badHd 0 0, .signalWrite hd (2 ^ 32) 0, .signalWrite hd 0 (2 ^ 64),
   .signalWindowWrite .host (2 ^ 18) 0, .signalWindowWrite .host 0 (2 ^ 64), .smeRead badHd 0 0, .smeRead hd (2 ^ 32) 0,
   .smeRead hd 0 (2 ^ 8), .smeWrite badHd 0 0 (zeros 64), .smeWrite hd (2 ^ 32) 0 (zeros 64),
   .smeWrite hd 0 (2 ^ 8) (zeros 64), .smeWrite hd 0 0 [], .profileSwitch badHd 0 0,
     .profileSwitch hd (2 ^ 8) 0] : List Instr).all (fun c => !c.wf) = true := by
  decide +kernel

theorem test_wf_refuses_3 : (
  [.profileSwitch hd 0 (2 ^ 32), .profileRead badHd, .fieldConfig badHd 0 (zeros 32), .fieldConfig hd 256 (zeros 32),
   .fieldConfig hd 0 [], .fieldRead badHd 0 0, .fieldRead hd (2 ^ 8) 0, .fieldRead hd 0 (2 ^ 16),
   .fieldSet badHd (zeros 32) (zeros 32), .fieldSet hd [] (zeros 32), .fieldSet hd (zeros 32) [], .loopSet badHd 0 0,
   .loopSet hd 256 0, .loopSet hd 0 (2 ^ 16), .fieldSafeSet badHd 0 0 0, .fieldSafeSet hd 256 0 0,
   .fieldSafeSet hd 0 (2 ^ 8) 0, .fieldSafeSet hd 0 0 (2 ^ 32), .fieldFaultClear badHd 0, .fieldFaultClear hd 256,
   .ladderStatus badHd, .ladderFloor badHd 0 0, .ladderFloor hd (2 ^ 16) 0, .ladderFloor hd 0 (2 ^ 8),
   .feedPrefer badHd 0, .feedPrefer hd (2 ^ 8), .pwrPrefer .host 4, .thermalRead badHd, .perfFloor badHd 0,
   .perfFloor hd (2 ^ 8), .pairStatus badHd, .guardedSet badHd [], .guardedSet hd (List.replicate (2 ^ 8) 0),
   .guardedSet hd [256], .failoverRequest badHd, .semAcquire badHd 0 0, .semAcquire hd (2 ^ 8) 0,
   .semAcquire hd 0 (2 ^ 16), .semRelease badHd 0, .semRelease hd (2 ^ 8), .bridgeStatus badHd, .statsRead badHd 0 0 0,
   .statsRead hd (2 ^ 16) 0 0, .statsRead hd 0 (2 ^ 8) 0,
     .statsRead hd 0 0 (2 ^ 8)] : List Instr).all (fun c => !c.wf) = true := by
  decide +kernel

theorem test_wf_refuses_4 : (
  [.statsClear badHd 0, .statsClear hd (2 ^ 16), .recorderRead badHd 0 0 0, .recorderRead hd (2 ^ 64) 0 0,
   .recorderRead hd 0 (2 ^ 32) 0, .recorderRead hd 0 0 (2 ^ 16), .selftest badHd 0, .selftest hd (2 ^ 16),
   .eventSubscribe badHd 0 0 0, .eventSubscribe hd (2 ^ 32) 0 0, .eventSubscribe hd 0 (2 ^ 16) 0,
   .eventSubscribe hd 0 0 (2 ^ 16), .portEnable badHd 0 0, .portEnable hd (2 ^ 8) 0, .portEnable hd 0 (2 ^ 8),
   .portStatus badHd 0, .portStatus hd (2 ^ 8), .wakePatternSet badHd 0 0 (zeros 16) 0,
   .wakePatternSet hd (2 ^ 8) 0 (zeros 16) 0, .wakePatternSet hd 0 (2 ^ 8) (zeros 16) 0, .wakePatternSet hd 0 0 [] 0,
   .wakePatternSet hd 0 0 (zeros 16) (2 ^ 32), .phyTest badHd 0 0, .phyTest hd (2 ^ 8) 0, .phyTest hd 0 (2 ^ 8),
   .ssUnknownTransaction (2 ^ 8), .mtDatagramReceive { mtf 1 with kind := 4 }, .mtReassemblyTimeout (2 ^ 32) 0,
   .mtReassemblyTimeout 0 (2 ^ 16), .cmdHaRingTail false (2 ^ 32), .commandRingFetch false [] [],
   .cmdHaEvtRead false (2 ^ 32), .bar0Write false (2 ^ 24) 1 0, .bar0Write false 0 3 0, .bar0Write false 0 1 256,
   .bkbPepCtlSpeed 4 0 0, .bkbPepCtlSpeed 0 4 0, .bkbPepCtlSpeed 0 0 2, .timSlewPpb (2 ^ 32), .timFreeze 2,
   .posAxnDiamUm 4 0 0, .posAxnDiamUm 0 (2 ^ 32) 0, .posAxnDiamUm 0 0 (2 ^ 16), .posLpSys 8,
     .stlEngeCfg 512 0] : List Instr).all (fun c => !c.wf) = true := by
  decide +kernel

theorem test_wf_refuses_5 : (
  [.stlEngeCfg 0 4, .ladDdCfg 184 0, .ladDdCfg 0 2, .macNCfgEn 81 0, .macNCfgEn 0 2, .macNPlcaEn 81 0 0 0 0 0 0,
   .macNPlcaEn 0 2 0 0 0 0 0, .macNPlcaEn 0 0 16 0 0 0 0, .macNPlcaEn 0 0 0 32 0 0 0, .macNPlcaEn 0 0 0 0 (2 ^ 8) 0 0,
   .macNPlcaEn 0 0 0 0 0 (2 ^ 8) 0, .macNPlcaEn 0 0 0 0 0 0 (2 ^ 8), .glbVehIdSet .host (2 ^ 64), .fcMode 256 0,
   .fcMode 0 (2 ^ 8), .newModeConnect 256, .redReqEn 2 0, .redReqEn 0 16, .schHxTxEn false 2 0, .schHxTxEn false 0 2,
   .fieldLinkFrame 3 false 0 [], .fieldLinkFrame 0 false 0 [{ channel := 256, vterm := 0, limiting := false }],
   .fieldLinkLost 2, .fieldLinkUp 2, .uncorrectableError (.slot 2), .correctedError 9, .refclkLost 2, .refclkReturn 2,
   .stateMismatch (2 ^ 16), .laneTrained 16 0, .laneTrained 0 4, .laneLossReport 16, .laneLossEnd 16, .lossQualified 16,
   .laneStateFrameSend 16, .laneStateFrameReceive badRx, .laneRecover 16, .backboneFrameReceive badRx,
   .disturbWindowOpen 16, .disturbWindowEnd 16, .pennantReceive badRx, .slotContentCutoff (2 ^ 16),
   .slotEgress (2 ^ 16) 0, .slotEgress 0 4, .slotSkip (2 ^ 16) 0] : List Instr).all (fun c => !c.wf) = true := by
  decide +kernel

theorem test_wf_refuses_6 : (
  [.slotSkip 0 4, .startupFrameReceive badRx, .coupleSenseDebounce 2 0, .coupleSenseDebounce 0 2, .triggerFrame badRx,
   .topologyFrame badRx, .recordFrame badRx, .proposalFrame badRx, .provisionalFrameReceive badRx, .readyFrame badRx,
   .refuseFrame badRx, .commitFrame badRx, .strikeFrame badRx, .yieldFrame badRx, .delayRequestReceive badRx,
   .delayResponseReceive badRx, .delayFollowUpReceive badRx, .delayExchangeVoid 16, .ppsPulse 4 0, .todMessage 2 [],
   .ptpMessageReceive { ptpm with kind := 5 }, .ppsLossTimeout 2, .referenceWindowEnd 1 60,
   .referenceWindowEnd (4 + 1) 60, .referenceWindowEnd 2 3, .axleEdge { axleE with axle := 4 },
   .positionReportReceive badRx, .lineCrossing (2 ^ 64) 0, .lineCrossing 0 (2 ^ 32), .eventFire 4096,
   .tailWordPoll false (2 ^ 64) [], .tailWordPoll false 0 [2 ^ 16], .transmitDescriptorFetch false [] none,
   .portTransmitSelect 81, .frameTransmitComplete 81, .macFrameReceive badRxe, .pauseExpiry 81, .queueAgeExpiry 81 0,
   .queueAgeExpiry 0 8, .linkStatusChange 81 0 0 false, .linkStatusChange 0 2 0 false, .linkStatusChange 0 0 8 false,
   .collision 81 false, .csmaBackoffExpiry 81, .plcaStatusChange 81 false] : List Instr).all (fun c => !c.wf) = true := by
  decide +kernel

theorem test_wf_refuses_7 : (
  [.jobTake 512, .stealSearch 512, .jobComplete 512, .stalenessSweep (2 ^ 18) 0, .stalenessSweep 0 (2 ^ 18 + 1),
   .chunkApply 32 0, .chunkApply 0 128, .releasePointCyclic 32 0, .releasePointCyclic 0 128, .engineQuarantine 512 0,
   .engineQuarantine 0 (2 ^ 8), .engineSelftestDone 512 false, .mvbBasicPeriod 4, .mvbMasterFrameReceive 4 0 0 0,
   .mvbMasterFrameReceive 0 16 0 0, .mvbMasterFrameReceive 0 0 4096 0, .mvbMasterFrameReceive 0 0 0 16,
   .mvbSlaveFrameReceive 4 0 0 0 [] false false, .mvbSlaveFrameReceive 0 4 0 0 [] false false,
   .mvbSlaveFrameReceive 0 0 16 0 [] false false, .mvbSlaveFrameReceive 0 0 0 4096 [] false false,
   .mvbSlaveFrameReceive 0 0 0 0 (zeros (32 + 1)) false false, .mvbReplyTimeout 4, .mvbSilenceTakeover 4,
   .wtbInaugurationComplete { inaug with addr := 0 }, .wtbProcessDataReceive 64 [] 0,
   .wtbProcessDataReceive 0 (zeros (128 + 1)) 0, .wtbProcessDataReceive 0 [] 16, .canFrameReceive 12 0 0 0 0 [],
   .canFrameReceive 0 (2 ^ 29) 0 0 0 [], .canFrameReceive 0 0 2 0 0 [], .canFrameReceive 0 0 0 2 0 [],
   .canFrameReceive 0 0 0 0 2 [], .canFrameReceive 0 0 0 0 0 (zeros (64 + 1)), .canTransmitComplete 12,
   .canTxAgeExpiry 12 0, .canTxAgeExpiry 0 (2 ^ 16), .canBusOff 12, .canBusOffRecovery 12,
   .serialFrameClose 12 [] false false, .serialFrameClose 0 (zeros (256 + 1)) false false, .serialTransmit 12,
   .serialResponseTimeout 12, .receiveTimeout 4 0 0,
     .receiveTimeout 0 12 0] : List Instr).all (fun c => !c.wf) = true := by
  decide +kernel

theorem test_wf_refuses_8 : (
  [.receiveTimeout 0 0 (2 ^ 16), .bridgeFrameReceive badRx, .reassemblyTimeout (2 ^ 64) 0, .reassemblyTimeout 0 (2 ^ 16),
   .orderGapTimeout (2 ^ 64), .transactionTimeout 4 0, .transactionTimeout 0 256, .semExpiry 64, .bankSupplyMeasure 8 0,
   .bankSupplyMeasure 0 (2 ^ 32), .inputSample 256 0 0, .inputSample 0 2 0, .loopConversion 256 0,
   .loopWireBreak 256 false, .overcurrentLatch 256, .overtemperatureTrip 256, .openLoad 256 false,
   .demagnetisationEnd 256 0 0, .compliance 256 false, .watchdogExpired 256, .holdLimit 256, .feedStateChange 3 0 0,
   .feedStateChange 1 3 0, .feedStateChange 1 0 (2 ^ 32), .feedQualified 3, .healthTrip 16, .arbGntChange 2,
   .halyardFrameReceive [] [], .backboneGuidonReceive 16 (zeros 8), .backboneGuidonReceive 0 [], .guidonMiss 2,
   .halyardUp false (2 ^ 64), .domainDescent 184, .domainAscent 184, .domainWake 184, .sleepAckFrame badRx,
   .wakeIndication 6 0 0, .wakeIndication 0 16 0, .wakeIndication 0 0 (2 ^ 34), .thermalSample [],
   .internalRelease { board with boot := 4 }, .railSupervisorFault 6, .imageCheckDone 2 0, .lineLinkTimeout 128,
   .canErrorFrame 12 0 0] : List Instr).all (fun c => !c.wf) = true := by
  decide +kernel

theorem test_wf_refuses_9 : (
  [.canErrorFrame 0 (2 ^ 9) 0, .canErrorFrame 0 0 (2 ^ 8), .announceReceiptTimeout 128, .ptpMessageInterval 128 0,
   .ptpMessageInterval 0 5, .todMessageTimeout 2, .plcaBeacon 81] : List Instr).all (fun c => !c.wf) = true := by
  decide +kernel

/-- Data too long for its packet, datagram or frame. -/
theorem test_wf_refuses_long (b : List Byte) (h : 65536 < b.length) :
    Instr.wf (.echo hd b) = false ∧ Instr.wf (.imageStageData hd 0 b) = false ∧ Instr.wf (.writePacket b) = false ∧
    Instr.wf (.commandRingFetch false (zeros 32) b) = false ∧ Instr.wf (.todMessage 0 b) = false ∧
    Instr.wf (.halyardFrameReceive (zeros 8) b) = false ∧
    Instr.wf (.transmitDescriptorFetch false (zeros 32) (some b)) = false := by
  simp only [Instr.wf, Bool.and_eq_false_iff, decide_eq_false_iff_not, Option.all_some]
  omega

/-- A bad field of a header, a frame, a message or a record is refused, one at a time. -/
theorem test_wf_refuses_fields :
    ([{ hd with seq := 2 ^ 16 }, { hd with target := 2 ^ 16 }, { hd with epoch := 2 ^ 16 },
      { hd with originNode := 2 ^ 16 },
      { hd with originPort := 2 ^ 8 }] : List CmdHdr).all (fun h => !h.wf) = true ∧
    ([{ rxb.frame with dst := 2 ^ 48 }, { rxb.frame with src := 2 ^ 48 }, { rxb.frame with etherType := 2 ^ 16 },
      { rxb.frame with version := 16 }, { rxb.frame with kind := 16 }, { rxb.frame with origin := 2 ^ 16 },
      { rxb.frame with epoch := 2 ^ 16 }, { rxb.frame with seq := 2 ^ 32 }, { rxb.frame with hops := 2 ^ 16 },
      { rxb.frame with slot := 2 ^ 16 }] : List BbFrame).all (fun f => !f.wf) = true ∧
    ([{ rxe with mac := 81 }, { rxe with len := 63 }] : List RxEth).all (fun r => !r.wf) = true ∧
    ([{ mtf 1 with kind := 4 }, { mtf 1 with ip := 2 ^ 32 }, { mtf 1 with udp := 2 ^ 16 },
      { mtf 1 with dstUdp := 2 ^ 16 },
      { mtf 1 with ident := 2 ^ 16 }, { mtf 1 with offset := 2 ^ 16 }] : List MtFrame).all (fun d => !d.wf) = true ∧
    ([{ ptpm with port := 128 }, { ptpm with kind := 5 }, { ptpm with seq := 2 ^ 16 }, { ptpm with domain := 2 ^ 8 }]
      : List PtpMsg).all (fun m => !m.wf) = true ∧
    ([.mapEntry (2 ^ 18), .value (2 ^ 18), .table 5 0 0, .table 0 2 0, .table 0 0 4, .engine 512 true, .deque 512,
      .event 4096,
      .slot 2, .identity 2] : List MemPlace).all (fun p => !p.wf) = true ∧
    ([{ inaug with addr := 0 }, { inaug with addr := 64 }, { inaug with dir1 := [badWtb] },
      { inaug with dir2 := [badWtb] }, { inaug with lines := 16 }]
      : List WtbInaug).all (fun w => !w.wf) = true ∧
    ([{ board with boot := 4 }, { board with cold := 4 }, { board with pair := 4 }, { board with maint := 4 },
      { board with jtag := 4 }, { board with uid := 2 ^ 64 }, { board with mac := 2 ^ 48 },
        { board with vehId := 2 ^ 64 }]
      : List BoardLevels).all (fun b => !b.wf) = true := by
  decide +kernel

/-- What the terms above are made from is well-formed. -/
theorem test_wf_accepts :
    (hd.wf && rxb.wf && rxe.wf && (mtf 1).wf && ptpm.wf && inaug.wf && board.wf && Instr.wf (.idRead hd)) = true := by
  decide +kernel

/-! What the statements suppose. -/

/-- What `Obligations.IdentityAndStateReadsAnswer` supposes is met. -/
theorem test_meets_identity_and_state_reads_answer :
  (∃ (h : CmdHdr) (s : State), Serves 0x0101 h s) ∧
  (∃ (h : CmdHdr) (s : State), Serves 0x0102 h s) ∧
  (∃ (h : CmdHdr) (unit : Nat) (s : State), Serves 0x0103 h s ∧ unitOk unit = true) ∧
  (∃ (h : CmdHdr) (unit : Nat) (s : State), Serves 0x0103 h s ∧ unitOk unit = false) ∧
  (∃ (h : CmdHdr) (s : State), Serves 0x0104 h s) ∧
  (∃ (h : CmdHdr) (s : State), Serves 0x0105 h s) :=
  ⟨⟨hd, up, serves_of (by decide +kernel)⟩,
   ⟨hd, up, serves_of (by decide +kernel)⟩,
   ⟨hd, unitId 1 0, up, serves_of (by decide +kernel), by decide +kernel⟩,
   ⟨hd, 0xFFFF, up, serves_of (by decide +kernel), by decide +kernel⟩,
   ⟨hd, up, serves_of (by decide +kernel)⟩,
   ⟨hd, up, serves_of (by decide +kernel)⟩⟩

/-- What `Obligations.ImageCommandsStageAndSelect` supposes is met. -/
theorem test_meets_image_commands_stage_and_select :
  (∃ (h : CmdHdr) (slot : Nat) (length : Nat) (s : State), Serves 0x0201 h s ∧ slot ≤ 1 ∧ 28 ≤ length ∧
    length ≤ 48 * 2 ^ 20 ∧ s.runs slot = false ∧ s.committing slot = false) ∧
  (∃ (h : CmdHdr) (slot : Nat) (length : Nat) (s : State), Serves 0x0201 h s ∧ slot ≤ 1 ∧
    (length < 28 ∨ 48 * 2 ^ 20 < length)) ∧
  (∃ (h : CmdHdr) (offset : Nat) (data : List Byte) (g : Staging) (s : State), Serves 0x0202 h s ∧
    s.sto.staging = some g ∧ offset + data.length ≤ g.length) ∧
  (∃ (h : CmdHdr) (offset : Nat) (data : List Byte) (s : State), Serves 0x0202 h s ∧ (∀ g, s.sto.staging = some g →
    g.length < offset + data.length)) ∧
  (∃ (h : CmdHdr) (slot : Nat) (s : State), Serves 0x0203 h s ∧ Room h s ∧ slot ≤ 1 ∧ s.runs slot = false ∧
    s.committing slot = false ∧ s.pair.noMram = false) ∧
  (∃ (h : CmdHdr) (slot : Nat) (s : State), Serves 0x0203 h s ∧ slot ≤ 1 ∧
    (s.runs slot = true ∨ s.committing slot = true ∨ s.pair.noMram = true)) ∧
  (∃ (h : CmdHdr) (slot : Nat) (fallback : Nat) (s : State), Serves 0x0204 h s ∧ slot ≤ 1 ∧ fallback ≤ 1 ∧
    s.committing slot = false ∧ s.slotValid slot = true ∧ s.pair.noMram = false) ∧
  (∃ (h : CmdHdr) (slot : Nat) (s : State), Serves 0x0205 h s ∧ slot ≤ 1) :=
  ⟨⟨hd, 1, 28, up, serves_of (by decide +kernel), by decide +kernel⟩,
   ⟨hd, 0, 27, up, serves_of (by decide +kernel), by decide +kernel⟩,
   ⟨hd, 60, zeros 4, { slot := 1, length := 64, writes := [], bad := false }, staged, serves_of (by decide +kernel),
     by decide +kernel⟩,
   ⟨hd, 0, [], up, serves_of (by decide +kernel), nofun⟩,
   ⟨hd, 1, up, serves_of (by decide +kernel), by unfold Room; decide +kernel, by decide +kernel⟩,
   ⟨hd, 0, up, serves_of (by decide +kernel), by decide +kernel⟩,
   ⟨hd, 1, 0, { up with sto := { up.sto with validB := true } }, serves_of (by decide +kernel), by decide +kernel⟩,
   ⟨hd, 0, up, serves_of (by decide +kernel), by decide +kernel⟩⟩

/-- What `Obligations.ImageCommitEndsByItsChecks` supposes is met. -/
theorem test_meets_image_commit_ends_by_its_checks :
  (∃ (l : Long) (g : Staging) (s : State), s.sys.power = 3 ∧ (s.sys.stage = 3 ∨ s.sys.stage = 5) ∧
    s.cmd.longs.find? (fun x => x.opcode == 0x0203) = some l ∧ s.sto.staging = some g) :=
  ⟨longC, { slot := 1, length := 64, writes := [], bad := false }, committing, by decide +kernel⟩

/-- What `Obligations.ParameterAccessIsAllOrNothing` supposes is met. -/
theorem test_meets_parameter_access_is_all_or_nothing :
  (∃ (h : CmdHdr) (offset : Nat) (count : Nat) (s : State), Serves 0x0207 h s ∧ spanOk offset count 8188 = true) ∧
  (∃ (h : CmdHdr) (offset : Nat) (count : Nat) (s : State), Serves 0x0207 h s ∧ spanOk offset count 8188 = false) ∧
  (∃ (h : CmdHdr) (offset : Nat) (words : List (Nat × Nat)) (st : Nat) (d : List Byte) (s : State), Serves 0x0208 h s ∧
    s.writeFault (classOf h.via.port) offset words.length (maskedWords offset words) = some (st, d)) ∧
  (∃ (h : CmdHdr) (offset : Nat) (words : List (Nat × Nat)) (s : State), Serves 0x0208 h s ∧
    s.writeFault (classOf h.via.port) offset words.length (maskedWords offset words) = none) ∧
  (∃ (offset : Nat) (value : Nat) (mask : Nat) (s : State), s.Up ∧ offset % 8 = 0 ∧ offset < spaceEnd ∧ value < 2 ^ 64 ∧
    mask < 2 ^ 64 ∧ mask ≠ 0 ∧ s.rangeBad offset value mask = false ∧ s.stateBad offset value mask = none) ∧
  (∃ (offset : Nat) (value : Nat) (mask : Nat) (s : State), s.Up ∧ value < 2 ^ 64 ∧ mask < 2 ^ 64 ∧
    (offset % 8 ≠ 0 ∨ spaceEnd ≤ offset ∨ mask = 0 ∨ s.rangeBad offset value mask = true ∨ s.stateBad offset value mask ≠ none)) :=
  ⟨⟨hd, 0, 1, up, serves_of (by decide +kernel), by decide +kernel⟩,
   ⟨hd, 4, 1, up, serves_of (by decide +kernel), by decide +kernel⟩,
   ⟨hd, 4, [(0, 1)], stRange, toBE 4 4, up, serves_of (by decide +kernel), by decide +kernel⟩,
   ⟨hd, 0x30000, [(2, 2)], up, serves_of (by decide +kernel), by decide +kernel⟩,
   ⟨0x30000, 2, 2, up, ⟨by decide +kernel, by decide +kernel⟩, by decide +kernel⟩,
   ⟨4, 0, 0, up, ⟨by decide +kernel, by decide +kernel⟩, by decide +kernel⟩⟩

/-- What `Obligations.ApplyAndResetAreArmedAfterTheAnswer` supposes is met. -/
theorem test_meets_apply_and_reset_are_armed_after_the_answer :
  (∃ (h : CmdHdr) (mask : Nat) (cycle : Nat) (s : State), Serves 0x0206 h s ∧ Room h s ∧ mask < 2 ^ 17 ∧
    bit mask 0 = false ∧ cycleAhead cycle s.cycle = true ∧ s.bankArmed mask = false ∧
      (bit mask 6 && s.on SIG_PROFILE_ARMED.f) = false) ∧
  (∃ (h : CmdHdr) (s : State), Serves 0x0209 h s ∧ s.sys.stage = 3) ∧
  (∃ (h : CmdHdr) (s : State), Serves 0x0209 h s) ∧
  (∃ (h : CmdHdr) (kind : Nat) (s : State), Serves 0x0209 h s ∧ 1 < kind) :=
  ⟨⟨hd, 2, 5, put [(TCY_STATE.f, 5)], serves_of (by decide +kernel), by unfold Room; decide +kernel, by decide +kernel⟩,
   ⟨hd, up, serves_of (by decide +kernel), by decide +kernel⟩,
   ⟨hd, up, serves_of (by decide +kernel)⟩,
   ⟨hd, 2, up, serves_of (by decide +kernel), by decide +kernel⟩⟩

/-- What `Obligations.FieldInputsFilterAndMeasure` supposes is met. -/
theorem test_meets_field_inputs_filter_and_measure :
  (∃ (b : Nat) (mv : Nat) (s : State), s.Running ∧ b < 8 ∧ s.dieUp (b / 4) = true ∧
    nextBank (s.fld.banks.getD b 2) mv = s.fld.banks.getD b 2) ∧
  (∃ (b : Nat) (mv : Nat) (s : State), s.Running ∧ b < 8 ∧ s.dieUp (b / 4) = true ∧ s.fld.banks.getD b 2 = 0 ∧
    nextBank 0 mv = 1) ∧
  (∃ (c : Nat) (level : Nat) (current : Int) (s : State), s.Running ∧ c < 256 ∧ s.fmode c = 1 ∧
    (s.chan c).changing = false ∧ s.bankAsleep c = false ∧ s.dieUp (dieOf c) = true ∧ sampleClass 1 level current = 1 ∧
      s.rd (FC_FILT_CNT.f c) + 1 < s.rd (FC_FILT_N.f c)) ∧
  (∃ (c : Nat) (level : Nat) (current : Int) (s : State), s.Running ∧ c < 256 ∧ s.fmode c = 1 ∧
    (s.chan c).changing = false ∧ s.bankAsleep c = false ∧ s.dieUp (dieOf c) = true ∧ sampleClass 1 level current = 1 ∧
      s.on (FC_IN_STATE.f c) = false ∧ s.rd (FC_FILT_CNT.f c) + 1 = s.rd (FC_FILT_N.f c)) ∧
  (∃ (c : Nat) (s : State), s.Running ∧ c < 256 ∧ s.fmode c = 5 ∧ (s.chan c).changing = false ∧
    s.dieUp (dieOf c) = true) ∧
  (∃ (c : Nat) (s : State), s.Running ∧ c < 256 ∧ s.fmode c = 4 ∧ (s.chan c).changing = false ∧
    s.dieUp (dieOf c) = true ∧ s.bankAsleep c = false) ∧
  (∃ (c : Nat) (s : State), s.Running ∧ c < 256 ∧ s.dieUp (dieOf c) = true ∧ s.fmode c = 4 ∧
    s.on (FC_WBREAK.f c) = false ∧ s.rd (FC_LOOP_MEAS.f c) < 2500) :=
  ⟨⟨0, 0, (put [(FC_MODE.f 3, 1), (FLD_LINK0_UP.f, 1), (FLD_LINK1_UP.f, 1)]), ⟨by decide +kernel, by decide +kernel⟩,
    by decide +kernel⟩,
   ⟨0, 12000,
     { put [(FC_MODE.f 3, 1), (FLD_LINK0_UP.f, 1), (FLD_LINK1_UP.f, 1)] with fld := { up.fld with banks := List.replicate 8 0 } }, ⟨by decide +kernel, by decide +kernel⟩, by decide +kernel⟩,
   ⟨3, 1, 3000, (put [(FC_MODE.f 3, 1), (FLD_LINK0_UP.f, 1), (FLD_LINK1_UP.f, 1), (FC_FILT_N.f 3, 5)]),
     ⟨by decide +kernel, by decide +kernel⟩, by decide +kernel⟩,
   ⟨3, 1, 3000, (put [(FC_MODE.f 3, 1), (FLD_LINK0_UP.f, 1), (FLD_LINK1_UP.f, 1), (FC_FILT_N.f 3, 5), (FC_FILT_CNT.f 3,
     4)]), ⟨by decide +kernel, by decide +kernel⟩, by decide +kernel⟩,
   ⟨3, (put [(FC_MODE.f 3, 5), (FLD_LINK0_UP.f, 1), (FLD_LINK1_UP.f, 1)]), ⟨by decide +kernel, by decide +kernel⟩,
     by decide +kernel⟩,
   ⟨3, (put [(FC_MODE.f 3, 4), (FLD_LINK0_UP.f, 1), (FLD_LINK1_UP.f, 1)]), ⟨by decide +kernel, by decide +kernel⟩,
     by decide +kernel⟩,
   ⟨3, (put [(FC_MODE.f 3, 4), (FLD_LINK0_UP.f, 1), (FLD_LINK1_UP.f, 1)]), ⟨by decide +kernel, by decide +kernel⟩,
     by decide +kernel⟩⟩

/-- What `Obligations.FieldOutputsLatchAndExpire` supposes is met. -/
theorem test_meets_field_outputs_latch_and_expire :
  (∃ (c : Nat) (s : State), s.Running ∧ c < 256 ∧ s.fmode c = 3 ∧ (s.chan c).level ≠ 0 ∧ s.bankState c ≠ 2 ∧
    (s.chan c).latch = 0 ∧ s.dieUp (dieOf c) = true) ∧
  (∃ (c : Nat) (s : State), s.Running ∧ c < 256 ∧ s.fmode c = 3 ∧ (s.chan c).latch = 0 ∧ s.dieUp (dieOf c) = true) ∧
  (∃ (c : Nat) (s : State), s.Running ∧ c < 256 ∧ (s.dieCfg c).mode = 3 ∧ (s.chan c).latch = 0 ∧
    s.dieUp (dieOf c) = false) ∧
  (∃ (c : Nat) (s : State), s.Running ∧ c < 256 ∧ s.dieUp (dieOf c) = true ∧ s.on (FC_OPENLOAD.f c) = true) ∧
  (∃ (c : Nat) (s : State), s.Running ∧ c < 256 ∧ s.dieUp (dieOf c) = true ∧ s.on (FC_OPENLOAD.f c) = false ∧
    s.on (FC_OL_EN.f c) = true ∧ s.fmode c = 3 ∧ (s.chan c).level ≠ 0 ∧ s.paired c = false ∧ s.bankState c ≠ 2) ∧
  (∃ (c : Nat) (energy : Nat) (mw : Nat) (s : State), s.Running ∧ c < 256 ∧ s.dieUp (dieOf c) = true ∧ energy ≤ 150 ∧
    mw ≤ 1500) ∧
  (∃ (c : Nat) (energy : Nat) (mw : Nat) (s : State), s.Running ∧ c < 256 ∧ s.dieUp (dieOf c) = true ∧ 150 < energy ∧
    mw ≤ 1500) ∧
  (∃ (c : Nat) (s : State), s.Running ∧ c < 256 ∧ s.dieUp (dieOf c) = true ∧ s.fmode c = 5 ∧
    s.on (FC_COMPLIANCE.f c) = false ∧ s.rd (FC_LOOP_MEAS.f c) + 600 < s.rd (FC_LOOP_CMD.f c) ∧ s.bankState c ≠ 2 ∧
      s.on (FC_OPEN_ON_FAULT.f c) = true) ∧
  (∃ (c : Nat) (s : State), s.Running ∧ c < 256 ∧ s.dieUp (dieOf c) = true ∧ s.fmode c = 5 ∧
    s.on (FC_COMPLIANCE.f c) = true ∧ s.rd (FC_LOOP_CMD.f c) ≤ s.rd (FC_LOOP_MEAS.f c) + 300 ∧ (s.chan c).latch ≠ 3) ∧
  (∃ (c : Nat) (s : State), s.Running ∧ c < 256 ∧ outMode (s.fmode c) = true ∧ (s.chan c).running = true ∧
    s.dieUp (dieOf c) = true) ∧
  (∃ (c : Nat) (s : State), s.Running ∧ c < 256 ∧ (s.chan c).held = true ∧ s.dieUp (dieOf c) = true) :=
  ⟨⟨3, { (put [(FC_MODE.f 3, 3), (FLD_LINK0_UP.f, 1), (FLD_LINK1_UP.f, 1)]) with fld := { up.fld with banks := List.replicate 8 0, chans := [(3, chanLive)] } }, ⟨by decide +kernel, by decide +kernel⟩, by decide +kernel⟩,
   ⟨3, (put [(FC_MODE.f 3, 3), (FLD_LINK0_UP.f, 1), (FLD_LINK1_UP.f, 1)]), ⟨by decide +kernel, by decide +kernel⟩,
     by decide +kernel⟩,
   ⟨3, put [(FC_MODE.f 3, 3)], ⟨by decide +kernel, by decide +kernel⟩, by decide +kernel⟩,
   ⟨3, (put [(FC_MODE.f 3, 3), (FLD_LINK0_UP.f, 1), (FLD_LINK1_UP.f, 1), (FC_OPENLOAD.f 3, 1)]), ⟨by decide +kernel,
     by decide +kernel⟩, by decide +kernel⟩,
   ⟨3, { (put [(FC_MODE.f 3, 3), (FLD_LINK0_UP.f, 1), (FLD_LINK1_UP.f, 1), (FC_OL_EN.f 3, 1)]) with fld := { up.fld with banks := List.replicate 8 0, chans := [(3, chanLive)] } }, ⟨by decide +kernel, by decide +kernel⟩, by decide +kernel⟩,
   ⟨3, 150, 1500, (put [(FC_MODE.f 3, 3), (FLD_LINK0_UP.f, 1), (FLD_LINK1_UP.f, 1)]), ⟨by decide +kernel,
     by decide +kernel⟩, by decide +kernel⟩,
   ⟨3, 151, 1500, (put [(FC_MODE.f 3, 3), (FLD_LINK0_UP.f, 1), (FLD_LINK1_UP.f, 1)]), ⟨by decide +kernel,
     by decide +kernel⟩, by decide +kernel⟩,
   ⟨3, { (put [(FC_MODE.f 3, 5), (FLD_LINK0_UP.f, 1), (FLD_LINK1_UP.f, 1), (FC_LOOP_CMD.f 3, 601), (FC_OPEN_ON_FAULT.f 3, 1)]) with fld := { up.fld with banks := List.replicate 8 0, chans := [(3, chanLive)] } }, ⟨by decide +kernel, by decide +kernel⟩, by decide +kernel⟩,
   ⟨3, (put [(FC_MODE.f 3, 5), (FLD_LINK0_UP.f, 1), (FLD_LINK1_UP.f, 1), (FC_COMPLIANCE.f 3, 1), (FC_LOOP_CMD.f 3,
     300)]), ⟨by decide +kernel, by decide +kernel⟩, by decide +kernel⟩,
   ⟨3, { (put [(FC_MODE.f 3, 3), (FLD_LINK0_UP.f, 1), (FLD_LINK1_UP.f, 1)]) with fld := { up.fld with banks := List.replicate 8 0, chans := [(3, chanLive)] } }, ⟨by decide +kernel, by decide +kernel⟩, by decide +kernel⟩,
   ⟨3, { (put [(FC_MODE.f 3, 3), (FLD_LINK0_UP.f, 1), (FLD_LINK1_UP.f, 1)]) with fld := { up.fld with banks := List.replicate 8 0, chans := [(3, chanLive)] } }, ⟨by decide +kernel, by decide +kernel⟩, by decide +kernel⟩⟩

/-- What `Obligations.PairPathsAndHealth` supposes is met. -/
theorem test_meets_pair_paths_and_health :
  (∃ (s : State), s.Running ∧ s.isPair = true ∧ s.pairActive = false ∧ s.on RED_DECLARED.f = false) ∧
  (∃ (s : State), s.Running) ∧
  (∃ (s : State), s.Running ∧ s.isPair = true) ∧
  (∃ (s : State), s.Running ∧ s.isPair = false) ∧
  (∃ (s : State), s.Running ∧ s.isPair = true) ∧
  (∃ (hdr : List Byte) (s : State), s.Running ∧ s.isPair = true ∧ hdr.length ≠ 8) ∧
  (∃ (hdr : List Byte) (mirror : List Byte) (s : State), s.Running ∧ s.isPair = true ∧ hdr.length = 8 ∧
    byteAt hdr 7 = crc8 (hdr.take 7) ∧ bit (byteAt hdr 1) 3 = true ∧ mirrorOf mirror = none) ∧
  (∃ (hdr : List Byte) (mirror : List Byte) (bitmap : List Byte) (codes : List Nat) (s : State), s.Running ∧
    s.isPair = true ∧ hdr.length = 8 ∧ byteAt hdr 7 = crc8 (hdr.take 7) ∧ bit (byteAt hdr 1) 3 = true ∧
      mirrorOf mirror = some (bitmap, codes) ∧ (guidonHeaderIn true hdr s.fresh).1.pair.stranger = false) ∧
  (∃ (mac : Nat) (s : State), s.Running ∧ s.isPair = true ∧ s.facingEnds.contains (mac / 4) = true ∧
    s.on RED_BB_PATH.f = true) ∧
  (∃ (s : State), s.Running ∧ s.isPair = true) ∧
  (∃ (s : State), s.Running) :=
  ⟨⟨put [(RED_PAIR.f, 1)], ⟨by decide +kernel, by decide +kernel⟩, by decide +kernel⟩,
   ⟨up, ⟨by decide +kernel, by decide +kernel⟩⟩,
   ⟨put [(RED_PAIR.f, 1)], ⟨by decide +kernel, by decide +kernel⟩, by decide +kernel⟩,
   ⟨up, ⟨by decide +kernel, by decide +kernel⟩, by decide +kernel⟩,
   ⟨put [(RED_PAIR.f, 1)], ⟨by decide +kernel, by decide +kernel⟩, by decide +kernel⟩,
   ⟨[], put [(RED_PAIR.f, 1)], ⟨by decide +kernel, by decide +kernel⟩, by decide +kernel⟩,
   ⟨[0, 8, 0, 0, 0, 0, 0, BitVec.ofNat 8 (crc8 [0, 8, 0, 0, 0, 0, 0])], [], put [(RED_PAIR.f, 1)], ⟨by decide +kernel,
     by decide +kernel⟩, by decide +kernel⟩,
   ⟨(let b : List Byte := [0, 8, 0, 0, 0, 0, 0]; b ++ [BitVec.ofNat 8 (crc8 b)]),
     (let b := toBE 2 0 ++ zeros 32; b ++ toBE 4 (crc32c b)), zeros 32, [], put [(RED_PAIR.f, 1)], ⟨by decide +kernel,
       by decide +kernel⟩, by decide +kernel⟩,
   ⟨if State.isE1Node (put [(RED_PAIR.f, 1), (RED_BB_PATH.f, 1)]) then 8 else 0, put [(RED_PAIR.f, 1), (RED_BB_PATH.f,
     1)], ⟨by decide +kernel, by decide +kernel⟩, by decide +kernel,
       by unfold State.facingEnds; generalize State.isE1Node _ = b; cases b <;> decide, by decide +kernel⟩,
   ⟨put [(RED_PAIR.f, 1)], ⟨by decide +kernel, by decide +kernel⟩, by decide +kernel⟩,
   ⟨up, ⟨by decide +kernel, by decide +kernel⟩⟩⟩

/-- What `Obligations.FeedsSwitchRideAndFail` supposes is met. -/
theorem test_meets_feeds_switch_ride_and_fail :
  (∃ (s : State), s.feed 1 = 2 ∧ s.pair.arb = 1 ∧ s.feed 2 = 2) ∧
  (∃ (s : State), s.feed 1 = 2 ∧ s.pair.arb = 1 ∧ s.feed 2 ≠ 2) ∧
  (∃ (f : Nat) (s : State), (f = 1 ∨ f = 2) ∧ s.feed f = 1 ∧ s.pair.arb = 0 ∧ s.lad.shut = false) ∧
  (∃ (s : State), s.pair.arb = 3) ∧
  (∃ (s : State), 2 ≤ s.sys.power) ∧
  (∃ (ns : Nat) (s : State), s.sys.power ≠ 0 ∧ 10000 ≤ ns) ∧
  (∃ (ns : Nat) (s : State), s.sys.power ≠ 0 ∧ 1000 ≤ ns ∧ ns < 10000) ∧
  (∃ (ns : Nat), ns < 1000) :=
  ⟨⟨feeds 1 2 2, by decide +kernel⟩,
   ⟨feeds 1 2 1, by decide +kernel⟩,
   ⟨1, feeds 0 1 0, by decide +kernel⟩,
   ⟨feeds 3 0 0, by decide +kernel⟩,
   ⟨up, by decide +kernel⟩,
   ⟨10000, up, by decide +kernel⟩,
   ⟨1000, up, by decide +kernel⟩,
   ⟨999, by decide +kernel⟩⟩

/-- What `Obligations.ReleaseBootAndWakeStartTheNode` supposes is met. -/
theorem test_meets_release_boot_and_wake_start_the_node :
  (∃ (b : BoardLevels) (s : State), s.sys.power = 2 ∧ b.boot % 4 = 3) ∧
  (∃ (slot : Nat) (k : Nat) (fallback : Bool) (s : State), s.sys.power = 3 ∧ s.sys.started = false ∧
    s.sto.checking = some (slot, fallback) ∧ slotReason s.fresh (s.slotBytes slot) k = none) ∧
  (∃ (slot : Nat) (k : Nat) (r : Nat) (s : State), s.sys.power = 3 ∧ s.sys.started = false ∧
    s.sto.checking = some (slot, true) ∧ slotReason s.fresh (s.slotBytes slot) k = some r) ∧
  (∃ (slot : Nat) (k : Nat) (r : Nat) (s : State), s.sys.power = 3 ∧ s.sys.started = false ∧
    s.sto.checking = some (slot, false) ∧ slotReason s.fresh (s.slotBytes slot) k = some r) ∧
  (∃ (source : Nat) (s : State), s.sys.power = 1 ∧ source < 5 ∧ bit s.lad.wakeMask source = true ∧
    s.sto.journal.filter (fun r => r.typ == 2) = []) ∧
  (∃ (s : State), s.lad.shut = true ∧ s.lad.tj.all (fun t => t < 1100) = true ∧ s.pair.stA ≠ 2 ∧ s.pair.stB ≠ 2) :=
  ⟨⟨board, State.reset, by decide +kernel⟩,
   ⟨0, 0, true,
     { held with sys := { held.sys with power := 3 }, sto := { held.sto with slotA := image, checking := some (0, true) } }, by decide +kernel⟩,
   ⟨0, 1, 0,
     { held with sys := { held.sys with power := 3 }, sto := { held.sto with slotA := image, checking := some (0, true) } }, by decide +kernel⟩,
   ⟨0, 2, 6,
     { held with sys := { held.sys with power := 3 }, sto := { held.sto with slotA := image, checking := some (0, false) } }, by decide +kernel⟩,
   ⟨2, { held with sys := { held.sys with power := 1 }, lad := { held.lad with wakeMask := 4 } }, by decide +kernel⟩,
   ⟨{ held with lad := { held.lad with shut := true } }, by decide +kernel⟩⟩

/-- What `Obligations.LadderAndThermalStepByStep` supposes is met. -/
theorem test_meets_ladder_and_thermal_step_by_step :
  (∃ (d : Nat) (s : State), s.Running ∧ d ≤ 183 ∧ s.rd (LAD_Dd_RUNG.f d) + 1 ≤ s.deepest d ∧
    s.fresh.demandClear d (s.rd (LAD_Dd_RUNG.f d) + 1) = true) ∧
  (∃ (d : Nat) (s : State), s.Running ∧ d ≤ 183 ∧ s.rd (LAD_Dd_RUNG.f d) + 1 ≤ s.deepest d ∧
    s.fresh.demandClear d (s.rd (LAD_Dd_RUNG.f d) + 1) = false) ∧
  (∃ (d : Nat) (s : State), s.Running ∧ d ≤ 183 ∧ s.rd (LAD_Dd_RUNG.f d) ≠ 0 ∧
    s.fresh.demandClear d (s.rd (LAD_Dd_RUNG.f d)) = false) ∧
  (∃ (d : Nat) (s : State), s.Running ∧ d ≤ 183 ∧ s.rd (LAD_Dd_RUNG.f d) ≠ 0) ∧
  (∃ (tj : List Int) (s : State), s.sys.power = 3 ∧ (setTj tj s.fresh).tjMax < 1200 ∧ 1150 ≤ (setTj tj s.fresh).tjMax ∧
    (setTj tj s.fresh).rd LAD_THERM_STATE.f = 0) ∧
  (∃ (tj : List Int) (s : State), s.sys.power = 3 ∧ (setTj tj s.fresh).tjMax < 1130 ∧
    (setTj tj s.fresh).rd LAD_THERM_STATE.f = 1) ∧
  (∃ (tj : List Int) (s : State), 2 ≤ (setTj tj s.fresh).sys.power ∧ 1350 ≤ (setTj tj s.fresh).tjMax) ∧
  (∃ (s : State), s.Running ∧ s.rd LAD_THERM_STATE.f = 2 ∧ 1200 ≤ s.tjMax ∧ s.rd LAD_FSTEP.f < s.rd LAD_FSCHED.f) ∧
  (∃ (s : State), s.Running ∧ s.rd LAD_THERM_STATE.f = 2 ∧ s.tjMax < 1170 ∧ s.rd LAD_SHED_STAGE.f = 0 ∧
    0 < s.rd LAD_FSTEP.f) ∧
  (∃ (s : State), s.Running ∧ s.rd LAD_THERM_STATE.f = 2 ∧ 1200 ≤ s.tjMax ∧ s.rd LAD_FSCHED.f ≤ s.rd LAD_FSTEP.f ∧
    s.rd LAD_SHED_STAGE.f = 0) ∧
  (∃ (s : State), s.Running ∧ s.rd LAD_THERM_STATE.f = 2 ∧ s.tjMax < 1170 ∧ s.rd LAD_SHED_STAGE.f = 1) ∧
  (∃ (s : State), s.Running ∧ s.on LAD_ECO_EN.f = true ∧ s.tjMax < 1200 ∧ s.rd LAD_FSTEP.f < s.ecoFloor) ∧
  (∃ (s : State), s.Running ∧ s.rd LAD_THERM_STATE.f ≠ 2 ∧ 0 < s.rd LAD_FSTEP.f) :=
  ⟨⟨0, up, ⟨by decide +kernel, by decide +kernel⟩, by decide +kernel⟩,
   ⟨0, put [(TCY_STATE.f, 5), (TCY_CYCLE_NS.f, 1000000), (TCY_MSG_START_NS.f, 10000), (LAD_MARGIN_NS.f, 50000)],
     ⟨by decide +kernel, by decide +kernel⟩, by decide +kernel⟩,
   ⟨0, put [(TCY_STATE.f, 5), (TCY_CYCLE_NS.f, 1000000), (TCY_MSG_START_NS.f, 10000), (LAD_MARGIN_NS.f, 50000),
     (LAD_Dd_RUNG.f 0, 1)], ⟨by decide +kernel, by decide +kernel⟩, by decide +kernel⟩,
   ⟨0, put [(LAD_Dd_RUNG.f 0, 1)], ⟨by decide +kernel, by decide +kernel⟩, by decide +kernel⟩,
   ⟨[1150, 0, 0, 0, 0, 0], up, by decide +kernel⟩,
   ⟨[1129], put [(LAD_THERM_STATE.f, 1)], by decide +kernel⟩,
   ⟨[1350], up, by decide +kernel⟩,
   ⟨put [(LAD_THERM_STATE.f, 2), (LAD_TJ_MAX.f, 1200), (LAD_FSCHED.f, 1)], ⟨by decide +kernel, by decide +kernel⟩,
     by decide +kernel⟩,
   ⟨put [(LAD_THERM_STATE.f, 2), (LAD_TJ_MAX.f, 1169), (LAD_FSTEP.f, 1)], ⟨by decide +kernel, by decide +kernel⟩,
     by decide +kernel⟩,
   ⟨put [(LAD_THERM_STATE.f, 2), (LAD_TJ_MAX.f, 1200), (LAD_FSCHED.f, 0)], ⟨by decide +kernel, by decide +kernel⟩,
     by decide +kernel⟩,
   ⟨put [(LAD_THERM_STATE.f, 2), (LAD_TJ_MAX.f, 1169), (LAD_SHED_STAGE.f, 1)], ⟨by decide +kernel, by decide +kernel⟩,
     by decide +kernel⟩,
   ⟨put [(LAD_ECO_EN.f, 1), (LAD_FSCHED.f, 1), (LAD_PERF_FLOOR.f, 1)], ⟨by decide +kernel, by decide +kernel⟩,
     by decide +kernel⟩,
   ⟨put [(LAD_FSTEP.f, 1)], ⟨by decide +kernel, by decide +kernel⟩, by decide +kernel⟩⟩

/-- What `Obligations.TimeCommandsReadArmAndLimit` supposes is met. -/
theorem test_meets_time_commands_read_arm_and_limit :
  (∃ (h : CmdHdr) (s : State), Serves 0x0301 h s) ∧
  (∃ (h : CmdHdr) (cycle : Nat) (step : Nat) (s : State), Serves 0x0302 h s ∧ Room h s ∧ 4 ≤ s.ahead cycle ∧
    toSigned 64 step ≠ 0 ∧ 0 ≤ (s.clk.now : Int) + toSigned 64 step ∧ s.isLead = true ∧ s.on TIM_STEP_ARMED.f = false) ∧
  (∃ (h : CmdHdr) (cycle : Nat) (s : State), Serves 0x0302 h s ∧ 1 ≤ s.ahead cycle ∧ s.ahead cycle ≤ 3) ∧
  (∃ (h : CmdHdr) (s : State), Serves 0x0303 h s ∧ s.rd TCY_STATE.f = 8) ∧
  (∃ (h : CmdHdr) (s : State), Serves 0x0303 h s ∧ s.rd TCY_STATE.f ≠ 8) ∧
  (∃ (h : CmdHdr) (units : List Nat) (s : State), Serves 0x0304 h s ∧ units ≠ [] ∧ units.length ≤ 5 ∧
    badRefUnit units [] 0 = none) ∧
  (∃ (h : CmdHdr) (units : List Nat) (i : Nat) (s : State), Serves 0x0304 h s ∧ units ≠ [] ∧ units.length ≤ 5 ∧
    badRefUnit units [] 0 = some i) ∧
  (∃ (h : CmdHdr) (freeze : Nat) (ppb : Nat) (s : State), Serves 0x0305 h s ∧ freeze ≤ 1 ∧ 1 ≤ ppb ∧
    ppb ≤ s.rd TIM_SLEW_PPB.f) ∧
  (∃ (h : CmdHdr) (freeze : Nat) (ppb : Nat) (s : State), Serves 0x0305 h s ∧ freeze ≤ 1 ∧ s.rd TIM_SLEW_PPB.f < ppb) :=
  ⟨⟨hd, up, serves_of (by decide +kernel)⟩,
   ⟨hd, 4, 1, put [(TCY_STATE.f, 6)], serves_of (by decide +kernel), by unfold Room; decide +kernel, by decide +kernel⟩,
   ⟨hd, 3, up, serves_of (by decide +kernel), by decide +kernel⟩,
   ⟨hd, put [(TCY_STATE.f, 8)], serves_of (by decide +kernel), by decide +kernel⟩,
   ⟨hd, up, serves_of (by decide +kernel), by decide +kernel⟩,
   ⟨hd, [0x5800], up, serves_of (by decide +kernel), by decide +kernel⟩,
   ⟨hd, [0], 0, up, serves_of (by decide +kernel), by decide +kernel⟩,
   ⟨hd, 0, 1, up, serves_of (by decide +kernel), by decide +kernel⟩,
   ⟨hd, 0, 2 ^ 32 - 1, up, serves_of (by decide +kernel), by decide +kernel⟩⟩

/-- What `Obligations.PositionAndWindowCommandsAnswer` supposes is met. -/
theorem test_meets_position_and_window_commands_answer :
  (∃ (h : CmdHdr) (s : State), Serves 0x0306 h s) ∧
  (∃ (h : CmdHdr) (position : Nat) (time : Nat) (d : Int) (s : State), Serves 0x0307 h s ∧ time % 2 ^ 30 ≤ 999999999 ∧
    0 ≤ compactDiff s.ts time ∧ compactDiff s.ts time ≤ 1000000000 ∧ s.on POS_ODO_DESIG.f = true ∧
      s.baliseDelta position time = some d ∧ (s.pos.valid = true → d.natAbs ≤ s.rd POS_BALISE_MAX_UM.f * 2 ^ 32)) ∧
  (∃ (h : CmdHdr) (position : Nat) (time : Nat) (d : Int) (s : State), Serves 0x0307 h s ∧ time % 2 ^ 30 ≤ 999999999 ∧
    0 ≤ compactDiff s.ts time ∧ compactDiff s.ts time ≤ 1000000000 ∧ s.on POS_ODO_DESIG.f = true ∧
      s.baliseDelta position time = some d ∧ s.pos.valid = true ∧ s.rd POS_BALISE_MAX_UM.f * 2 ^ 32 < d.natAbs) ∧
  (∃ (h : CmdHdr) (s : State), Serves 0x0308 h s) ∧
  (∃ (h : CmdHdr) (mask : Nat) (start : Nat) (duration : Nat) (n : Nat) (s : State), Serves 0x0404 h s ∧ mask ≤ 15 ∧
    start % 2 ^ 30 < 1000000000 ∧ 1000 ≤ duration ∧ duration ≤ 2000000000 ∧ s.windowPast start duration = false ∧
      s.freeWindow = some n) ∧
  (∃ (h : CmdHdr) (mask : Nat) (start : Nat) (duration : Nat) (s : State), Serves 0x0404 h s ∧ mask ≤ 15 ∧
    start % 2 ^ 30 < 1000000000 ∧ 1000 ≤ duration ∧ duration ≤ 2000000000 ∧ s.windowPast start duration = false ∧
      s.freeWindow = none) :=
  ⟨⟨hd, up, serves_of (by decide +kernel)⟩,
   ⟨hd, 0, 0, 0, put [(POS_ODO_DESIG.f, 1)], serves_of (by decide +kernel), by decide +kernel⟩,
   ⟨hd, 1, 0, 2 ^ 32,
     { put [(POS_ODO_DESIG.f, 1), (POS_BALISE_MAX_UM.f, 0)] with pos := { up.pos with valid := true } },
       serves_of (by decide +kernel), by decide +kernel⟩,
   ⟨hd, up, serves_of (by decide +kernel)⟩,
   ⟨hd, 15, 0, 1000, 0, up, serves_of (by decide +kernel), by decide +kernel⟩,
   ⟨hd, 0, 0, 1000, put ((List.range 16).map (fun n => (BKB_DW_n_VALID.f n, 1))), serves_of (by decide +kernel),
     by decide +kernel⟩⟩

/-- What `Obligations.EventCommandsEditTheTable` supposes is met. -/
theorem test_meets_event_commands_edit_the_table :
  (∃ (h : CmdHdr) (entry : List Byte) (i : Nat) (s : State), Serves 0x0401 h s ∧ evBad entry = none ∧
    evAction entry ≠ 1 ∧ s.freeEvent = some i) ∧
  (∃ (h : CmdHdr) (entry : List Byte) (o : Nat) (s : State), Serves 0x0401 h s ∧ evBad entry = some o) ∧
  (∃ (h : CmdHdr) (entry : List Byte) (s : State), Serves 0x0401 h s ∧ evBad entry = none ∧ evAction entry ≠ 1 ∧
    s.freeEvent = none) ∧
  (∃ (h : CmdHdr) (index : Nat) (s : State), Serves 0x0402 h s ∧ index ≤ 4095) ∧
  (∃ (h : CmdHdr) (index : Nat) (e : EvEntry) (s : State), Serves 0x0403 h s ∧ index ≤ 4095 ∧ s.event index = some e) ∧
  (∃ (h : CmdHdr) (index : Nat) (s : State), Serves 0x0403 h s ∧ index ≤ 4095 ∧ s.event index = none) ∧
  (∃ (h : CmdHdr) (index : Nat) (s : State), Serves 0x0402 h s ∧ 4095 < index) ∧
  (∃ (h : CmdHdr) (index : Nat) (s : State), Serves 0x0403 h s ∧ 4095 < index) :=
  ⟨⟨hd, evGood, 0, up, serves_of (by decide +kernel), by decide +kernel⟩,
   ⟨hd, zeros 64, 0, up, serves_of (by decide +kernel), by decide +kernel⟩,
   ⟨hd, evGood, { up with sch := { up.sch with entries := fullTable } }, serves_of (by decide +kernel),
     by decide +kernel⟩,
   ⟨hd, 4095, up, serves_of (by decide +kernel), by decide +kernel⟩,
   ⟨hd, 0, evEnt, { up with sch := { up.sch with entries := [evEnt] } }, serves_of (by decide +kernel),
     by decide +kernel⟩,
   ⟨hd, 4095, up, serves_of (by decide +kernel), by decide +kernel⟩,
   ⟨hd, 4096, up, serves_of (by decide +kernel), by decide +kernel⟩,
   ⟨hd, 4096, up, serves_of (by decide +kernel), by decide +kernel⟩⟩

/-- What `Obligations.TrainCommandsAnnounceAndRead` supposes is met. -/
theorem test_meets_train_commands_announce_and_read :
  (∃ (h : CmdHdr) (s : State), Serves 0x0501 h s ∧ Room h s) ∧
  (∃ (h : CmdHdr) (s : State), Serves 0x0502 h s) ∧
  (∃ (h : CmdHdr) (p : Proposal) (s : State), Serves 0x0502 h s ∧ 1 ≤ s.rd HST_STATE.f ∧ s.rd HST_STATE.f ≤ 4 ∧
    s.hst.proposal = some p) ∧
  (∃ (h : CmdHdr) (which : Nat) (s : State), Serves 0x0502 h s ∧ 1 < which) ∧
  (∃ (h : CmdHdr) (s : State), Serves 0x0503 h s) ∧
  (∃ (h : CmdHdr) (cycle : Nat) (s : State), Serves 0x0504 h s ∧ Room h s ∧ 8 ≤ s.ahead cycle ∧ s.isLead = true ∧
    s.on LAD_SLEEP_ARMED.f = false ∧ s.on LAD_SLEEP_EN.f = true) ∧
  (∃ (h : CmdHdr) (cycle : Nat) (s : State), Serves 0x0504 h s ∧ 1 ≤ s.ahead cycle ∧ s.ahead cycle ≤ 7) ∧
  (∃ (h : CmdHdr) (cycle : Nat) (s : State), Serves 0x0504 h s ∧ 8 ≤ s.ahead cycle ∧ s.isLead = false) ∧
  (∃ (h : CmdHdr) (pe : Nat) (mask : Nat) (s : State), Serves 0x0505 h s ∧ pe ≤ 3 ∧ mask ≤ 15) ∧
  (∃ (h : CmdHdr) (cycle : Nat) (s : State), Serves 0x0506 h s ∧ Room h s ∧ s.ahead cycle ≠ 0 ∧ s.isLead = true ∧
    s.tcy.switch = none ∧ s.sto.applyAt.any (fun a => bit a.mask 2) = false ∧ s.rd HST_STATE.f = 0 ∧
      s.slotShadow.ready = true ∧ s.slotShadow.faulty = false) :=
  ⟨⟨hd, up, serves_of (by decide +kernel), by unfold Room; decide +kernel⟩,
   ⟨hd, up, serves_of (by decide +kernel)⟩,
   ⟨hd, someProp, proposed, serves_of (by decide +kernel), by decide +kernel⟩,
   ⟨hd, 2, up, serves_of (by decide +kernel), by decide +kernel⟩,
   ⟨hd, up, serves_of (by decide +kernel)⟩,
   ⟨hd, 8, put [(TCY_STATE.f, 6), (LAD_SLEEP_EN.f, 1)], serves_of (by decide +kernel), by unfold Room; decide +kernel,
     by decide +kernel⟩,
   ⟨hd, 7, up, serves_of (by decide +kernel), by decide +kernel⟩,
   ⟨hd, 8, up, serves_of (by decide +kernel), by decide +kernel⟩,
   ⟨hd, 0, 0, up, serves_of (by decide +kernel), by decide +kernel⟩,
   ⟨hd, 1, { put [(TCY_STATE.f, 6)] with tcy := { up.tcy with bankB := { up.tcy.bankB with ready := true } } },
     serves_of (by decide +kernel), by unfold Room; decide +kernel, by decide +kernel⟩⟩

/-- What `Obligations.SignalCommandsReadWriteAndSwitch` supposes is met. -/
theorem test_meets_signal_commands_read_write_and_switch :
  (∃ (h : CmdHdr) (index : Nat) (count : Nat) (s : State), Serves 0x0601 h s ∧ 1 ≤ count ∧ count ≤ 2047 ∧
    index + count ≤ 2 ^ 18) ∧
  (∃ (h : CmdHdr) (index : Nat) (count : Nat) (s : State), Serves 0x0601 h s ∧ index < 2 ^ 18 ∧
    (count = 0 ∨ 2047 < count)) ∧
  (∃ (h : CmdHdr) (index : Nat) (value : Nat) (s : State), Serves 0x0602 h s ∧ s.hostRefusal index value = none) ∧
  (∃ (h : CmdHdr) (index : Nat) (value : Nat) (pos : Nat) (s : State), Serves 0x0602 h s ∧
    s.hostRefusal index value = some (stRange, pos)) ∧
  (∃ (h : CmdHdr) (index : Nat) (value : Nat) (pos : Nat) (s : State), Serves 0x0602 h s ∧
    s.hostRefusal index value = some (stConflict, pos)) ∧
  (∃ (c : PrivClass) (index : Nat) (value : Nat) (s : State), s.Up ∧ c ≠ .maint ∧ s.hostRefusal index value = none) ∧
  (∃ (c : PrivClass) (index : Nat) (value : Nat) (s : State), s.Up ∧ (c = .maint ∨ s.hostRefusal index value ≠ none)) ∧
  (∃ (h : CmdHdr) (index : Nat) (profile : Nat) (s : State), Serves 0x0603 h s ∧ index < 2 ^ 18 ∧ profile ≤ 7) ∧
  (∃ (h : CmdHdr) (index : Nat) (profile : Nat) (entry : List Byte) (d : MsgDesc) (s : State), Serves 0x0604 h s ∧
    index < 2 ^ 18 ∧ profile ≤ 7 ∧ entry.length = 64 ∧ s.binding.covering index = some d ∧
      s.smeFault entry (profile != 0) = none ∧ (smeOf entry).srcMsg = d.msg ∧
        (profile = 0 ∨ bit (smeOf (s.record index)).altMask profile = true) ∧
          fanoutRaised s.fresh (writeSme (s.recordIndex index profile) entry s.fresh) = false) ∧
  (∃ (h : CmdHdr) (index : Nat) (profile : Nat) (o : Nat) (entry : List Byte) (d : MsgDesc) (s : State),
    Serves 0x0604 h s ∧ index < 2 ^ 18 ∧ profile ≤ 7 ∧ entry.length = 64 ∧ s.binding.covering index = some d ∧
      s.smeFault entry (profile != 0) = some o) ∧
  (∃ (h : CmdHdr) (profile : Nat) (cycle : Nat) (s : State), Serves 0x0605 h s ∧ Room h s ∧ profile ≤ 7 ∧
    s.on SIG_PROFILE_ARMED.f = false ∧ s.switchable = true ∧ cycleAhead cycle s.cycle = true) ∧
  (∃ (h : CmdHdr) (s : State), Serves 0x0606 h s) :=
  ⟨⟨hd, 0, 2047, up, serves_of (by decide +kernel), by decide +kernel⟩,
   ⟨hd, 0, 0, up, serves_of (by decide +kernel), by decide +kernel⟩,
   ⟨hd, 0, 0, bound, serves_of (by decide +kernel), by decide +kernel⟩,
   ⟨hd, 2 ^ 18, 0, 0, up, serves_of (by decide +kernel), by decide +kernel⟩,
   ⟨hd, 0, 0, 0, boundTo { hostMsg with msg := 1 }, serves_of (by decide +kernel), by decide +kernel⟩,
   ⟨.host, 0, 0, bound, ⟨by decide +kernel, by decide +kernel⟩, by decide +kernel⟩,
   ⟨.maint, 0, 0, up, ⟨by decide +kernel, by decide +kernel⟩, by decide +kernel⟩,
   ⟨hd, 0, 0, up, serves_of (by decide +kernel), by decide +kernel⟩,
   ⟨hd, 0, 0, smeHost, hostMsg, bound, serves_of (by decide +kernel), by decide +kernel⟩,
   ⟨hd, 0, 0, 4, zeros 64, hostMsg, bound, serves_of (by decide +kernel), by decide +kernel⟩,
   ⟨hd, 0, 5, put [(TCY_STATE.f, 5)], serves_of (by decide +kernel), by unfold Room; decide +kernel, by decide +kernel⟩,
   ⟨hd, up, serves_of (by decide +kernel)⟩⟩

/-- What `Obligations.FieldCommandsConfigureAndDrive` supposes is met. -/
theorem test_meets_field_commands_configure_and_drive :
  (∃ (h : CmdHdr) (channel : Nat) (config : List Byte) (s : State), Serves 0x0701 h s ∧ channel < 256 ∧
    config.length = 32 ∧ fieldWordsOk (beAt config 0 8) (beAt config 8 8) (beAt config 16 8) = true ∧
      beAt config 24 8 = 0) ∧
  (∃ (h : CmdHdr) (config : List Byte) (s : State), Serves 0x0701 h s ∧ config.length = 32 ∧
    (fieldWordsOk (beAt config 0 8) (beAt config 8 8) (beAt config 16 8) = false ∨ beAt config 24 8 ≠ 0)) ∧
  (∃ (h : CmdHdr) (first : Nat) (count : Nat) (s : State), Serves 0x0702 h s ∧ 1 ≤ count ∧ first + count ≤ 256) ∧
  (∃ (h : CmdHdr) (mask : List Byte) (levels : List Byte) (s : State), Serves 0x0703 h s ∧ mask.length = 32 ∧
    levels.length = 32 ∧ (∀ c ∈ bitsOf 256 (fromBE mask), s.hostOwned 3 c = true)) ∧
  (∃ (h : CmdHdr) (mask : List Byte) (levels : List Byte) (c : Nat) (s : State), Serves 0x0703 h s ∧ mask.length = 32 ∧
    levels.length = 32 ∧ (bitsOf 256 (fromBE mask)).find? (fun c => !s.hostOwned 3 c) = some c) ∧
  (∃ (h : CmdHdr) (channel : Nat) (code : Nat) (s : State), Serves 0x0704 h s ∧ code ≤ 60000 ∧
    s.hostOwned 5 channel = true) ∧
  (∃ (h : CmdHdr) (code : Nat) (s : State), Serves 0x0704 h s ∧ 60000 < code) ∧
  (∃ (h : CmdHdr) (channel : Nat) (code : Nat) (s : State), Serves 0x0704 h s ∧ code ≤ 60000 ∧
    s.hostOwned 5 channel = false) ∧
  (∃ (h : CmdHdr) (safe : Nat) (watchdog : Nat) (s : State), Serves 0x0705 h s ∧ bits safe 0 2 ≠ 3 ∧ bits safe 2 5 = 0 ∧
    1 ≤ watchdog ∧ watchdog ≤ 10000) ∧
  (∃ (h : CmdHdr) (safe : Nat) (watchdog : Nat) (s : State), Serves 0x0705 h s ∧ bits safe 0 2 ≠ 3 ∧ bits safe 2 5 = 0 ∧
    (watchdog = 0 ∨ 10000 < watchdog)) ∧
  (∃ (h : CmdHdr) (s : State), Serves 0x0706 h s) :=
  ⟨⟨hd, 0, (toBE 8 ((1 + 1 * 65536 + 1 * 2 ^ 32)) ++ toBE 8 0 ++ toBE 8 1 ++ toBE 8 0), up,
    serves_of (by decide +kernel), by decide +kernel⟩,
   ⟨hd, zeros 32, up, serves_of (by decide +kernel), by decide +kernel⟩,
   ⟨hd, 0, 256, up, serves_of (by decide +kernel), by decide +kernel⟩,
   ⟨hd, zeros 31 ++ [8], zeros 32, put [(FC_MODE.f 3, 3), (FC_OWNER_KIND.f 3, 2)], serves_of (by decide +kernel),
     by decide +kernel⟩,
   ⟨hd, zeros 31 ++ [8], zeros 32, 3, up, serves_of (by decide +kernel), by decide +kernel⟩,
   ⟨hd, 3, 60000, put [(FC_MODE.f 3, 5), (FC_OWNER_KIND.f 3, 2)], serves_of (by decide +kernel), by decide +kernel⟩,
   ⟨hd, 60001, up, serves_of (by decide +kernel), by decide +kernel⟩,
   ⟨hd, 0, 0, up, serves_of (by decide +kernel), by decide +kernel⟩,
   ⟨hd, 0, 1, up, serves_of (by decide +kernel), by decide +kernel⟩,
   ⟨hd, 0, 0, up, serves_of (by decide +kernel), by decide +kernel⟩,
   ⟨hd, up, serves_of (by decide +kernel)⟩⟩

/-- What `Obligations.PowerCommandsReadAndSetFloors` supposes is met. -/
theorem test_meets_power_commands_read_and_set_floors :
  (∃ (h : CmdHdr) (s : State), Serves 0x0801 h s) ∧
  (∃ (h : CmdHdr) (domain : Nat) (rung : Nat) (s : State), Serves 0x0802 h s ∧ domain ≤ 183 ∧ rung ≤ 4) ∧
  (∃ (h : CmdHdr) (domain : Nat) (s : State), Serves 0x0802 h s ∧ 183 < domain) ∧
  (∃ (h : CmdHdr) (domain : Nat) (rung : Nat) (s : State), Serves 0x0802 h s ∧ domain ≤ 183 ∧ 4 < rung) ∧
  (∃ (h : CmdHdr) (feed : Nat) (s : State), Serves 0x0803 h s ∧ feed ≤ 2) ∧
  (∃ (h : CmdHdr) (feed : Nat) (s : State), Serves 0x0803 h s ∧ 2 < feed) ∧
  (∃ (feed : Nat) (s : State), s.Up ∧ feed ≤ 2) ∧
  (∃ (c : PrivClass) (feed : Nat) (s : State), s.Up ∧ (c ≠ .safety ∨ 2 < feed)) ∧
  (∃ (h : CmdHdr) (s : State), Serves 0x0804 h s) ∧
  (∃ (h : CmdHdr) (floor : Nat) (s : State), Serves 0x0805 h s ∧ floor ≤ 5) ∧
  (∃ (h : CmdHdr) (floor : Nat) (s : State), Serves 0x0805 h s ∧ 5 < floor) :=
  ⟨⟨hd, up, serves_of (by decide +kernel)⟩,
   ⟨hd, 183, 4, up, serves_of (by decide +kernel), by decide +kernel⟩,
   ⟨hd, 184, up, serves_of (by decide +kernel), by decide +kernel⟩,
   ⟨hd, 0, 5, up, serves_of (by decide +kernel), by decide +kernel⟩,
   ⟨hd, 2, up, serves_of (by decide +kernel), by decide +kernel⟩,
   ⟨hd, 3, up, serves_of (by decide +kernel), by decide +kernel⟩,
   ⟨2, up, ⟨by decide +kernel, by decide +kernel⟩, by decide +kernel⟩,
   ⟨.host, 0, up, ⟨by decide +kernel, by decide +kernel⟩, by decide +kernel⟩,
   ⟨hd, up, serves_of (by decide +kernel)⟩,
   ⟨hd, 5, up, serves_of (by decide +kernel), by decide +kernel⟩,
   ⟨hd, 6, up, serves_of (by decide +kernel), by decide +kernel⟩⟩

/-- What `Obligations.PairCommandsGuardAndFailOver` supposes is met. -/
theorem test_meets_pair_commands_guard_and_fail_over :
  (∃ (h : CmdHdr) (s : State), Serves 0x0901 h s) ∧
  (∃ (h : CmdHdr) (channels : List Nat) (s : State), Serves 0x0902 h s ∧ channels.length ≤ 32 ∧
    (List.range channels.length).find? (fun i => (channels.take i).contains (channels.getD i 0)) = none ∧
      channels.find? (fun c => !s.on (FC_PAIRED.f c) || !outMode (s.fmode c)) = none) ∧
  (∃ (h : CmdHdr) (channels : List Nat) (s : State), Serves 0x0902 h s ∧ 32 < channels.length) ∧
  (∃ (h : CmdHdr) (channels : List Nat) (c : Nat) (s : State), Serves 0x0902 h s ∧ channels.length ≤ 32 ∧
    (List.range channels.length).find? (fun i => (channels.take i).contains (channels.getD i 0)) = none ∧
      channels.find? (fun c => !s.on (FC_PAIRED.f c) || !outMode (s.fmode c)) = some c) ∧
  (∃ (h : CmdHdr) (s : State), Serves 0x0903 h s ∧ Room h s ∧ s.isPair = true ∧ s.pairActive = true ∧
    s.partnerReady = true) ∧
  (∃ (h : CmdHdr) (s : State), Serves 0x0903 h s ∧ (s.isPair = false ∨ s.pairActive = false ∨ s.partnerReady = false)) ∧
  (∃ (s : State), s.Running ∧ s.pair.reqLow = true) :=
  ⟨⟨hd, up, serves_of (by decide +kernel)⟩,
   ⟨hd, [3], put [(FC_PAIRED.f 3, 1), (FC_MODE.f 3, 3)], serves_of (by decide +kernel), by decide +kernel⟩,
   ⟨hd, List.range 33, up, serves_of (by decide +kernel), by decide +kernel⟩,
   ⟨hd, [3], 3, up, serves_of (by decide +kernel), by decide +kernel⟩,
   ⟨hd, { put [(RED_PAIR.f, 1), (RED_ACTIVE.f, 1)] with pair := { up.pair with partner := some 1 } },
     serves_of (by decide +kernel), by unfold Room; decide +kernel, by decide +kernel⟩,
   ⟨hd, up, serves_of (by decide +kernel), by decide +kernel⟩,
   ⟨{ up with pair := { up.pair with reqLow := true } }, ⟨by decide +kernel, by decide +kernel⟩, by decide +kernel⟩⟩

/-- What `Obligations.SemaphoreAndDiagnosticCommandsAnswer` supposes is met. -/
theorem test_meets_semaphore_and_diagnostic_commands_answer :
  (∃ (h : CmdHdr) (index : Nat) (hold : Nat) (s : State), Serves 0x0A01 h s ∧ index ≤ 63 ∧ 1 ≤ hold ∧ hold ≤ 60000 ∧
    (s.on (RAB_SEMi_HELD.f index) = false ∨ (s.rd (RAB_SEMi_OWNER_UID.f index) = (s.semOwner h).1 ∧
      s.rd (RAB_SEMi_PORT.f index) = (s.semOwner h).2))) ∧
  (∃ (h : CmdHdr) (index : Nat) (hold : Nat) (s : State), Serves 0x0A01 h s ∧ index ≤ 63 ∧ 1 ≤ hold ∧ hold ≤ 60000 ∧
    s.on (RAB_SEMi_HELD.f index) = true ∧ ¬(s.rd (RAB_SEMi_OWNER_UID.f index) = (s.semOwner h).1 ∧
      s.rd (RAB_SEMi_PORT.f index) = (s.semOwner h).2)) ∧
  (∃ (h : CmdHdr) (index : Nat) (s : State), Serves 0x0A02 h s ∧ index ≤ 63 ∧ s.on (RAB_SEMi_HELD.f index) = true ∧
    s.rd (RAB_SEMi_OWNER_UID.f index) = (s.semOwner h).1 ∧ s.rd (RAB_SEMi_PORT.f index) = (s.semOwner h).2) ∧
  (∃ (h : CmdHdr) (index : Nat) (s : State), Serves 0x0A02 h s ∧ index ≤ 63 ∧ s.on (RAB_SEMi_HELD.f index) = false) ∧
  (∃ (h : CmdHdr) (s : State), Serves 0x0A03 h s ∧ h.via.port ≠ .train) ∧
  (∃ (h : CmdHdr) (mac : Nat) (first : Nat) (count : Nat) (s : State), Serves 0x0B01 h s ∧ mac ≤ 80 ∧ 1 ≤ count ∧
    first + count ≤ 64) ∧
  (∃ (h : CmdHdr) (mac : Nat) (s : State), Serves 0x0B02 h s ∧ mac ≤ 80) ∧
  (∃ (h : CmdHdr) (signal : Nat) (records : Nat) (s : State), Serves 0x0B03 h s ∧
    (signal < 2 ^ 18 ∨ signal = 0xFFFFFFFF) ∧ 1 ≤ records ∧ records ≤ 2046) ∧
  (∃ (h : CmdHdr) (unit : Nat) (e : Nat) (rest : List Nat) (s : State), Serves 0x0B04 h s ∧ Room h s ∧
    testEngines unit = e :: rest ∧ s.subjectOf unit = none) ∧
  (∃ (h : CmdHdr) (s : State), Serves 0x0B05 h s) :=
  ⟨⟨hd, 0, 1, up, serves_of (by decide +kernel), by decide +kernel⟩,
   ⟨hd, 0, 60000, put [(RAB_SEMi_HELD.f 0, 1), (RAB_SEMi_OWNER_UID.f 0, 9)], serves_of (by decide +kernel),
     by decide +kernel⟩,
   ⟨hd, 0, put [(RAB_SEMi_HELD.f 0, 1), (RAB_SEMi_PORT.f 0, cmdPortNum .ss)], serves_of (by decide +kernel),
     by decide +kernel⟩,
   ⟨hd, 0, up, serves_of (by decide +kernel), by decide +kernel⟩,
   ⟨hd, up, serves_of (by decide +kernel), by decide +kernel⟩,
   ⟨hd, 0, 0, 64, up, serves_of (by decide +kernel), by decide +kernel⟩,
   ⟨hd, 80, up, serves_of (by decide +kernel), by decide +kernel⟩,
   ⟨hd, 0, 1, up, serves_of (by decide +kernel), by decide +kernel⟩,
   ⟨hd, unitId 4 0, 0, [], up, serves_of (by decide +kernel), by unfold Room; decide +kernel, by decide +kernel⟩,
   ⟨{ hd with via := { hd.via with port := .mt } }, up, serves_of (by decide +kernel)⟩⟩

/-- What `Obligations.PortCommandsEnableReadAndTest` supposes is met. -/
theorem test_meets_port_commands_enable_read_and_test :
  (∃ (h : CmdHdr) (port : Nat) (mac : Nat) (enable : Nat) (s : State), Serves 0x0C01 h s ∧ macOfPort port = some mac ∧
    enable ≤ 1 ∧ s.subjectOf (unitId 1 port) = none) ∧
  (∃ (h : CmdHdr) (port : Nat) (enable : Nat) (s : State), Serves 0x0C01 h s ∧ 80 ≤ port ∧ port < 116 ∧ enable ≤ 1 ∧
    s.subjectOf (unitId 1 port) = none) ∧
  (∃ (h : CmdHdr) (port : Nat) (s : State), Serves 0x0C01 h s ∧ 116 ≤ port ∧ port ≠ 119) ∧
  (∃ (h : CmdHdr) (port : Nat) (mac : Nat) (s : State), Serves 0x0C02 h s ∧ macOfPort port = some mac) ∧
  (∃ (h : CmdHdr) (port : Nat) (s : State), Serves 0x0C02 h s ∧ 80 ≤ port ∧ port < 116) ∧
  (∃ (h : CmdHdr) (mac : Nat) (pattern : Nat) (mask : List Byte) (s : State), Serves 0x0C03 h s ∧ 16 ≤ mac ∧ mac ≤ 79 ∧
    pattern ≤ 15 ∧ mask.length = 16) ∧
  (∃ (h : CmdHdr) (mac : Nat) (s : State), Serves 0x0C03 h s ∧ (mac < 16 ∨ 79 < mac)) ∧
  (∃ (h : CmdHdr) (port : Nat) (mac : Nat) (mode : Nat) (s : State), Serves 0x0C04 h s ∧ macOfPort port = some mac ∧
    integratedPhy mac = true ∧ testModeOk mac mode = true ∧ s.subjectOf (unitId 1 port) = none ∧
      s.on (MAC_n_CFG_EN.f mac) = false ∧ mode ≠ 0) ∧
  (∃ (h : CmdHdr) (port : Nat) (mac : Nat) (s : State), Serves 0x0C04 h s ∧ macOfPort port = some mac ∧
    integratedPhy mac = true ∧ s.subjectOf (unitId 1 port) = none ∧ s.on (MAC_n_CFG_EN.f mac) = false) ∧
  (∃ (h : CmdHdr) (port : Nat) (mac : Nat) (mode : Nat) (s : State), Serves 0x0C04 h s ∧ macOfPort port = some mac ∧
    integratedPhy mac = true ∧ testModeOk mac mode = true ∧ s.subjectOf (unitId 1 port) = none ∧
      s.on (MAC_n_CFG_EN.f mac) = true) :=
  ⟨⟨hd, 119, 80, 1, up, serves_of (by decide +kernel), by decide +kernel⟩,
   ⟨hd, 80, 0, up, serves_of (by decide +kernel), by decide +kernel⟩,
   ⟨hd, 116, up, serves_of (by decide +kernel), by decide +kernel⟩,
   ⟨hd, 119, 80, up, serves_of (by decide +kernel), by decide +kernel⟩,
   ⟨hd, 115, up, serves_of (by decide +kernel), by decide +kernel⟩,
   ⟨hd, 16, 0, zeros 16, up, serves_of (by decide +kernel), by decide +kernel⟩,
   ⟨hd, 80, up, serves_of (by decide +kernel), by decide +kernel⟩,
   ⟨{ hd with via := { hd.via with port := .mt } }, 0, 0, 1, put [(MAC_n_CFG_EN.f 0, 0)], serves_of (by decide +kernel),
     by decide +kernel⟩,
   ⟨{ hd with via := { hd.via with port := .mt } }, 0, 0, put [(MAC_n_CFG_EN.f 0, 0)], serves_of (by decide +kernel),
     by decide +kernel⟩,
   ⟨{ hd with via := { hd.via with port := .mt } }, 0, 0, 1, put [(MAC_n_CFG_EN.f 0, 1)], serves_of (by decide +kernel),
     by decide +kernel⟩⟩

/-- What `Obligations.SsTransactionsQueueAndClear` supposes is met. -/
theorem test_meets_ss_transactions_queue_and_clear :
  (∃ (s : State), s.sys.power = 3 ∧ (s.sys.stage = 3 ∨ s.sys.stage = 5) ∧
    s.cmd.ssReplies.length + s.cmd.waitSS.length + s.openCount .ss < 4) ∧
  (∃ (s : State), s.sys.power = 3 ∧ 4 ≤ s.cmd.ssReplies.length + s.cmd.waitSS.length + s.openCount .ss) ∧
  (∃ (r : Reply) (rest : List Reply) (s : State), s.sys.power = 3 ∧ s.cmd.ssReplies = r :: rest) ∧
  (∃ (s : State), s.sys.power = 3 ∧ s.cmd.ssReplies = []) ∧
  (∃ (e : EvtRec) (rest : List EvtRec) (s : State), s.sys.power = 3 ∧ s.cmd.ssEvents = e :: rest) ∧
  (∃ (s : State), s.sys.power = 3 ∧ s.cmd.ssEvents = []) ∧
  (∃ (s : State), s.sys.power = 3) ∧
  (∃ (first : Nat) (s : State), s.sys.power = 3 ∧ (first = 0 ∨ 4 < first)) :=
  ⟨⟨up, by decide +kernel⟩,
   ⟨{ up with cmd := { up.cmd with ssReplies := [rep, rep, rep, rep] } }, by decide +kernel⟩,
   ⟨rep, [], { up with cmd := { up.cmd with ssReplies := [rep] } }, by decide +kernel⟩,
   ⟨up, by decide +kernel⟩,
   ⟨evr, [], { up with cmd := { up.cmd with ssEvents := [evr] } }, by decide +kernel⟩,
   ⟨up, by decide +kernel⟩,
   ⟨up, by decide +kernel⟩,
   ⟨5, up, by decide +kernel⟩⟩

/-- What `Obligations.MtFramesAreTakenAnsweredOrDiscarded` supposes is met. -/
theorem test_meets_mt_frames_are_taken_answered_or_discarded :
  (∃ (d : MtFrame) (s : State), s.Up ∧ s.maintEn = true ∧ s.on (MAC_n_CFG_EN.f 80) = true ∧
    (takeCells s.fresh chainControl 255 (cellsFor (d.bytes.length + 46)) []).isNone = false ∧ d.kind = 3 ∧ d.offset = 0 ∧
      d.more = false ∧ d.dstUdp = (wake 119 s.fresh).rd CMD_MT_UDP_PORT.f) ∧
  (∃ (d : MtFrame) (s : State), s.Up ∧ s.maintEn = true ∧ s.on (MAC_n_CFG_EN.f 80) = true ∧
    (takeCells s.fresh chainControl 255 (cellsFor (d.bytes.length + 46)) []).isNone = false ∧ d.kind = 2) ∧
  (∃ (d : MtFrame) (s : State), s.Up ∧ s.maintEn = true ∧ s.on (MAC_n_CFG_EN.f 80) = true ∧
    (takeCells s.fresh chainControl 255 (cellsFor (d.bytes.length + 46)) []).isNone = false ∧ d.kind = 1 ∧
      fromBE d.bytes = (wake 119 s.fresh).rd CMD_MT_IPV4.f) ∧
  (∃ (s : State), s.Up ∧ s.maintEn = false) ∧
  (∃ (s : State), s.Up) :=
  ⟨⟨mtf 3, put [(GLB_STRAP_MAINT.f, 2), (MAC_n_CFG_EN.f 80, 1), (CMD_MT_UDP_PORT.f, 0), (CMD_MT_IPV4.f, 0)],
    ⟨by decide +kernel, by decide +kernel⟩, by decide +kernel⟩,
   ⟨mtf 2, put [(GLB_STRAP_MAINT.f, 2), (MAC_n_CFG_EN.f 80, 1), (CMD_MT_UDP_PORT.f, 0), (CMD_MT_IPV4.f, 0)],
     ⟨by decide +kernel, by decide +kernel⟩, by decide +kernel⟩,
   ⟨mtf 1, put [(GLB_STRAP_MAINT.f, 2), (MAC_n_CFG_EN.f 80, 1), (CMD_MT_UDP_PORT.f, 0), (CMD_MT_IPV4.f, 0)],
     ⟨by decide +kernel, by decide +kernel⟩, by decide +kernel⟩,
   ⟨put [(GLB_STRAP_MAINT.f, 1)], ⟨by decide +kernel, by decide +kernel⟩, by decide +kernel⟩,
   ⟨up, ⟨by decide +kernel, by decide +kernel⟩⟩⟩

/-- What `Obligations.RingDoorbellsAndFetchesFollowTheIndices` supposes is met. -/
theorem test_meets_ring_doorbells_and_fetches_follow_the_indices :
  (∃ (hb : Bool) (s : State), s.usable = true ∧ (s.ep hb).link = true) ∧
  (∃ (hb : Bool) (s : State), s.usable = true ∧ (s.ep hb).link = true) ∧
  (∃ (hb : Bool) (offset : Nat) (value : Nat) (s : State), s.usable = true ∧ (s.ep hb).link = true ∧
    ringBlock hb ≤ offset ∧ offset < ringBlock hb + 0x30 ∧ offset % 8 = 0 ∧ value < 2 ^ 64) ∧
  (∃ (hb : Bool) (offset : Nat) (s : State), s.sys.power = 3 ∧ (s.ep hb).link = true ∧
    (offset < ringBlock hb ∨ ringBlock hb + 0x30 ≤ offset)) ∧
  (∃ (hb : Bool) (entry : List Byte) (packet : List Byte) (s : State), s.Up ∧ (s.ep hb).link = true ∧
    s.on (CMD_Hx_RING_EN.f (hx hb)) = true ∧ s.rd (CMD_Hx_RING_TAIL.f (hx hb)) < 2 ^ s.rd (CMD_Hx_RING_LOG2.f (hx hb)) ∧
      s.rd (CMD_Hx_RING_HEAD.f (hx hb)) % 2 ^ s.rd (CMD_Hx_RING_LOG2.f (hx hb)) ≠ s.rd (CMD_Hx_RING_TAIL.f (hx hb)) ∧
        28 ≤ leAt entry 20 4 ∧ leAt entry 20 4 ≤ 65536 ∧ 28 ≤ leAt entry 16 4 ∧ leAt entry 16 4 ≤ 65536 ∧
          leAt entry 16 4 ≤ packet.length) ∧
  (∃ (hb : Bool) (entry : List Byte) (packet : List Byte) (s : State), s.Up ∧ (s.ep hb).link = true ∧
    s.on (CMD_Hx_RING_EN.f (hx hb)) = true ∧ s.rd (CMD_Hx_RING_TAIL.f (hx hb)) < 2 ^ s.rd (CMD_Hx_RING_LOG2.f (hx hb)) ∧
      s.rd (CMD_Hx_RING_HEAD.f (hx hb)) % 2 ^ s.rd (CMD_Hx_RING_LOG2.f (hx hb)) ≠ s.rd (CMD_Hx_RING_TAIL.f (hx hb)) ∧
        28 ≤ leAt entry 20 4 ∧ leAt entry 20 4 ≤ 65536 ∧ 28 ≤ leAt entry 16 4 ∧ leAt entry 16 4 ≤ 65536 ∧
          packet.length < leAt entry 16 4) ∧
  (∃ (hb : Bool) (entry : List Byte) (s : State), s.Up ∧ (s.ep hb).link = true ∧ s.on (CMD_Hx_RING_EN.f (hx hb)) = true ∧
    s.rd (CMD_Hx_RING_TAIL.f (hx hb)) < 2 ^ s.rd (CMD_Hx_RING_LOG2.f (hx hb)) ∧
      s.rd (CMD_Hx_RING_HEAD.f (hx hb)) % 2 ^ s.rd (CMD_Hx_RING_LOG2.f (hx hb)) ≠ s.rd (CMD_Hx_RING_TAIL.f (hx hb)) ∧
        (leAt entry 20 4 < 28 ∨ 65536 < leAt entry 20 4)) :=
  ⟨⟨false, linked [], by decide +kernel⟩,
   ⟨false, linked [], by decide +kernel⟩,
   ⟨false, ringBlock false + 0x28, 0, linked [], by decide +kernel⟩,
   ⟨false, ringBlock false + 0x30, linked [], by decide +kernel⟩,
   ⟨false, zeros 16 ++ toLE 4 28 ++ toLE 4 28 ++ zeros 8, zeros 28, linked [(CMD_Hx_RING_EN.f 0, 1),
     (CMD_Hx_RING_LOG2.f 0, 4), (CMD_Hx_RING_TAIL.f 0, 1), (CMD_Hx_RING_HEAD.f 0, 0)], ⟨by decide +kernel,
       by decide +kernel⟩, by decide +kernel⟩,
   ⟨false, zeros 16 ++ toLE 4 28 ++ toLE 4 28 ++ zeros 8, zeros 27, linked [(CMD_Hx_RING_EN.f 0, 1),
     (CMD_Hx_RING_LOG2.f 0, 4), (CMD_Hx_RING_TAIL.f 0, 1), (CMD_Hx_RING_HEAD.f 0, 0)], ⟨by decide +kernel,
       by decide +kernel⟩, by decide +kernel⟩,
   ⟨false, zeros 16 ++ toLE 4 28 ++ toLE 4 27 ++ zeros 8, linked [(CMD_Hx_RING_EN.f 0, 1), (CMD_Hx_RING_LOG2.f 0, 4),
     (CMD_Hx_RING_TAIL.f 0, 1), (CMD_Hx_RING_HEAD.f 0, 0)], ⟨by decide +kernel, by decide +kernel⟩, by decide +kernel⟩⟩

/-- What `Obligations.LatchesHeartbeatAndEndpointReset` supposes is met. -/
theorem test_meets_latches_heartbeat_and_endpoint_reset :
  (∃ (path : ReadPath) (s : State), s.sys.power = 3 ∧ s.pathOpen path = true) ∧
  (∃ (path : ReadPath) (s : State), s.sys.power = 3 ∧ s.pathOpen path = true) ∧
  (∃ (hb : Bool) (s : State), (s.ep hb).link = true) ∧
  (∃ (s : State), s.sys.power = 3 ∧ (s.sys.stage = 3 ∨ s.sys.stage = 5) ∧ s.pair.fwLate = false) ∧
  (∃ (s : State), s.sys.power = 3) :=
  ⟨⟨.cmd, up, by decide +kernel⟩,
   ⟨.cmd, up, by decide +kernel⟩,
   ⟨false, linked [], by decide +kernel⟩,
   ⟨up, by decide +kernel⟩,
   ⟨up, by decide +kernel⟩⟩

/-- What `Obligations.TimeAndPositionRegisterWrites` supposes is met. -/
theorem test_meets_time_and_position_register_writes :
  (∃ (ppb : Nat) (s : State), s.Running ∧ 1 ≤ ppb ∧ ppb ≤ s.rd TIM_SLEW_PPB.f) ∧
  (∃ (ppb : Nat) (s : State), s.Running ∧ (ppb = 0 ∨ s.rd TIM_SLEW_PPB.f < ppb)) ∧
  (∃ (freeze : Nat) (s : State), s.Running ∧ freeze ≤ 1) ∧
  (∃ (axle : Nat) (diam : Nat) (ppr : Nat) (s : State), s.Running ∧ axle < 4 ∧ 200000 ≤ diam ∧ diam ≤ 1500000 ∧ 1 ≤ ppr ∧
    ppr ≤ 4096) ∧
  (∃ (diam : Nat) (ppr : Nat) (s : State), s.Running ∧ (diam < 200000 ∨ 1500000 < diam ∨ ppr = 0 ∨ 4096 < ppr)) ∧
  (∃ (sys : Nat) (s : State), s.Running ∧ sys ≤ 4) ∧
  (∃ (pe : Nat) (speed : Nat) (ext : Nat) (s : State), s.Running ∧ pe < 4 ∧ speedOk speed ext = true) ∧
  (∃ (speed : Nat) (ext : Nat) (s : State), s.Running ∧ speedOk speed ext = false) :=
  ⟨⟨1, up, ⟨by decide +kernel, by decide +kernel⟩, by decide +kernel⟩,
   ⟨0, up, ⟨by decide +kernel, by decide +kernel⟩, by decide +kernel⟩,
   ⟨1, up, ⟨by decide +kernel, by decide +kernel⟩, by decide +kernel⟩,
   ⟨3, 200000, 4096, up, ⟨by decide +kernel, by decide +kernel⟩, by decide +kernel⟩,
   ⟨199999, 0, up, ⟨by decide +kernel, by decide +kernel⟩, by decide +kernel⟩,
   ⟨4, up, ⟨by decide +kernel, by decide +kernel⟩, by decide +kernel⟩,
   ⟨3, 0, 1, up, ⟨by decide +kernel, by decide +kernel⟩, by decide +kernel⟩,
   ⟨1, 1, up, ⟨by decide +kernel, by decide +kernel⟩, by decide +kernel⟩⟩

/-- What `Obligations.UnitRegisterWritesSettleTheirUnits` supposes is met. -/
theorem test_meets_unit_register_writes_settle_their_units :
  (∃ (engine : Nat) (s : State), s.Up ∧ engine < 512) ∧
  (∃ (domain : Nat) (cfg : Nat) (s : State), s.Up ∧ domain ≤ 183 ∧ cfg ≤ 1) ∧
  (∃ (mac : Nat) (cfg : Nat) (s : State), s.Up ∧ mac ≤ 80 ∧ cfg ≤ 1) ∧
  (∃ (mac : Nat) (en : Nat) (id : Nat) (count : Nat) (timer : Nat) (burst : Nat) (burstTimer : Nat) (s : State), s.Up ∧
    plcaOk mac en id count timer burst burstTimer = true) ∧
  (∃ (mac : Nat) (en : Nat) (id : Nat) (count : Nat) (timer : Nat) (burst : Nat) (burstTimer : Nat) (s : State), s.Up ∧
    plcaOk mac en id count timer burst burstTimer = false) ∧
  (∃ (s : State), s.sys.power = 3 ∧ s.sys.stage = 5 ∧ s.pair.noMram = false) ∧
  (∃ (s : State), s.sys.power = 3 ∧ s.sys.stage = 5 ∧ s.pair.noMram = true) ∧
  (∃ (c : PrivClass) (s : State), (s.sys.stage ≠ 5 ∨ c ≠ .safety)) ∧
  (∃ (channel : Nat) (mode : Nat) (s : State), s.Up ∧ channel < 256 ∧ mode ≤ 5 ∧ s.fmode channel ≠ mode) ∧
  (∃ (mode : Nat) (s : State), s.Up ∧ 5 < mode) ∧
  (∃ (channel : Nat) (s : State), s.Running ∧ channel < 256 ∧ (s.chan channel).changing = true) ∧
  (∃ (s : State), s.Up) ∧
  (∃ (tx : Nat) (rx : Nat) (s : State), s.Up ∧ tx ≤ 1 ∧ rx ≤ 1) :=
  ⟨⟨511, up, ⟨by decide +kernel, by decide +kernel⟩, by decide +kernel⟩,
   ⟨183, 1, up, ⟨by decide +kernel, by decide +kernel⟩, by decide +kernel⟩,
   ⟨80, 1, up, ⟨by decide +kernel, by decide +kernel⟩, by decide +kernel⟩,
   ⟨64, 1, 0, 16, 255, 0, 0, up, ⟨by decide +kernel, by decide +kernel⟩, by decide +kernel⟩,
   ⟨63, 0, 0, 0, 0, 0, 0, up, ⟨by decide +kernel, by decide +kernel⟩, by decide +kernel⟩,
   ⟨{ up with sys := { up.sys with stage := 5 } }, by decide +kernel⟩,
   ⟨{ up with sys := { up.sys with stage := 5 }, pair := { up.pair with noMram := true } }, by decide +kernel⟩,
   ⟨.host, up, by decide +kernel⟩,
   ⟨255, 5, up, ⟨by decide +kernel, by decide +kernel⟩, by decide +kernel⟩,
   ⟨6, up, ⟨by decide +kernel, by decide +kernel⟩, by decide +kernel⟩,
   ⟨3, { up with fld := { up.fld with chans := [(3, { chanLive with changing := true })] } }, ⟨by decide +kernel,
     by decide +kernel⟩, by decide +kernel⟩,
   ⟨up, ⟨by decide +kernel, by decide +kernel⟩⟩,
   ⟨1, 1, up, ⟨by decide +kernel, by decide +kernel⟩, by decide +kernel⟩⟩

/-- What `Obligations.FieldAndPowerLinksCountLossesAndReturn` supposes is met. -/
theorem test_meets_field_and_power_links_count_losses_and_return :
  (∃ (die : Nat) (s : State), s.Running ∧ die < 2 ∧ s.dieUp die = true) ∧
  (∃ (die : Nat) (s : State), s.Running ∧ die < 2 ∧ s.dieUp die = true ∧ s.fld.missed.getD die 0 + 1 < 3) ∧
  (∃ (die : Nat) (s : State), s.Running ∧ die < 2 ∧ s.dieUp die = true ∧ 3 ≤ s.fld.missed.getD die 0 + 1) ∧
  (∃ (die : Nat) (s : State), s.Running ∧ die ≤ 2 ∧ (die = 2 ∨ s.dieUp die = false)) ∧
  (∃ (die : Nat) (s : State), s.Running ∧ die < 2 ∧ s.dieUp die = true) ∧
  (∃ (die : Nat) (s : State), s.Running ∧ die < 2 ∧ s.dieUp die = false) ∧
  (∃ (die : Nat) (s : State), s.Running ∧ die < 2) ∧
  (∃ (s : State), s.sys.power = 3 ∧ s.on PWR_LINK_UP.f = true) ∧
  (∃ (s : State), s.sys.power = 3 ∧ s.on PWR_LINK_UP.f = false) ∧
  (∃ (s : State), s.sys.power = 3) :=
  ⟨⟨0, put [(FLD_LINK0_UP.f, 1)], ⟨by decide +kernel, by decide +kernel⟩, by decide +kernel⟩,
   ⟨0, put [(FLD_LINK0_UP.f, 1)], ⟨by decide +kernel, by decide +kernel⟩, by decide +kernel⟩,
   ⟨0, { put [(FLD_LINK0_UP.f, 1)] with fld := { up.fld with missed := [2, 0] } }, ⟨by decide +kernel,
     by decide +kernel⟩, by decide +kernel⟩,
   ⟨2, up, ⟨by decide +kernel, by decide +kernel⟩, by decide +kernel⟩,
   ⟨0, put [(FLD_LINK0_UP.f, 1)], ⟨by decide +kernel, by decide +kernel⟩, by decide +kernel⟩,
   ⟨1, up, ⟨by decide +kernel, by decide +kernel⟩, by decide +kernel⟩,
   ⟨1, up, ⟨by decide +kernel, by decide +kernel⟩, by decide +kernel⟩,
   ⟨put [(PWR_LINK_UP.f, 1)], by decide +kernel⟩,
   ⟨put [(PWR_LINK_UP.f, 0)], by decide +kernel⟩,
   ⟨up, by decide +kernel⟩⟩

/-- What `Obligations.ErrorsClocksAndMismatchesAreCountedAndRaised` supposes is met. -/
theorem test_meets_errors_clocks_and_mismatches_are_counted_and_raised :
  (∃ (memory : Nat) (s : State), 2 ≤ s.sys.power ∧ memory ≤ 8 ∧ memory ≠ 5 ∧
    (memory < 7 ∨ s.rd (LAD_Dd_RUNG.f (171 + memory)) = 0)) ∧
  (∃ (memory : Nat) (s : State), 2 ≤ s.sys.power ∧ (memory = 7 ∨ memory = 8) ∧ s.rd (LAD_Dd_RUNG.f (171 + memory)) ≠ 0) ∧
  (∃ (s : State), 2 ≤ s.sys.power) ∧
  (∃ (s : State), s.Running) ∧
  (∃ (s : State), s.Running) ∧
  (∃ (s : State), 2 ≤ s.sys.power) ∧
  (∃ (i : Nat) (e : EvEntry) (s : State), s.Running ∧ s.event i = some e) ∧
  (∃ (s : State), s.sys.power < 2) ∧
  (∃ (k : Nat) (s : State), s.sys.power = 3 ∧ k ≤ 1) ∧
  (∃ (unit : Nat) (s : State), s.Running ∧ (s.consistent unit = true ∨ s.sys.mismatch.contains unit = true)) ∧
  (∃ (k : Nat) (s : State), s.sys.power = 3 ∧ k ≤ 1 ∧ s.clockLost k = false) ∧
  (∃ (k : Nat) (s : State), s.sys.power = 3 ∧ k ≤ 1 ∧ s.clockLost k = true) ∧
  (∃ (unit : Nat) (s : State), s.Running ∧ s.consistent unit = false ∧ s.sys.mismatch.contains unit = false) :=
  ⟨⟨8, put [(LAD_Dd_RUNG.f 179, 0)], by decide +kernel⟩,
   ⟨7, put [(LAD_Dd_RUNG.f 178, 1)], by decide +kernel⟩,
   ⟨up, by decide +kernel⟩,
   ⟨up, ⟨by decide +kernel, by decide +kernel⟩⟩,
   ⟨up, ⟨by decide +kernel, by decide +kernel⟩⟩,
   ⟨up, by decide +kernel⟩,
   ⟨0, evEnt, { up with sch := { up.sch with entries := [evEnt] } }, ⟨by decide +kernel, by decide +kernel⟩,
     by decide +kernel⟩,
   ⟨{ held with sys := { held.sys with power := 1 } }, by decide +kernel⟩,
   ⟨1, up, by decide +kernel⟩,
   ⟨unitId 2 16, { up with sys := { up.sys with mismatch := [unitId 2 16] } }, ⟨by decide +kernel, by decide +kernel⟩,
     by decide +kernel⟩,
   ⟨1, up, by decide +kernel⟩,
   ⟨0, { up with sys := { up.sys with refLostA := true } }, by decide +kernel⟩,
   ⟨unitId 2 16, put [(MAC_n_CFG_EN.f 16, 1), (MAC_n_OPER.f 16, 0)], ⟨by decide +kernel, by decide +kernel⟩,
     by decide +kernel⟩⟩

/-- What `Obligations.LanesTrainLoseAndRecover` supposes is met. -/
theorem test_meets_lanes_train_lose_and_recover :
  (∃ (mac : Nat) (speed : Nat) (s : State), s.Running ∧ s.laneOn mac = true ∧ speed ≤ 2 ∧
    ((s.lane mac).trained = false ∨ (s.lane mac).qualified = true)) ∧
  (∃ (mac : Nat) (s : State), s.Running ∧ s.laneOn mac = true ∧ (s.lane mac).trained = true ∧
    (s.lane mac).inLoss = false) ∧
  (∃ (mac : Nat) (s : State), s.Running ∧ s.laneOn mac = true ∧ (s.lane mac).inLoss = true ∧
    (s.lane mac).qualified = false ∧ (s.lane mac).lossInWindow = true) ∧
  (∃ (mac : Nat) (s : State), s.Running ∧ s.laneOn mac = true ∧ (s.lane mac).inLoss = true ∧
    (s.lane mac).qualified = false ∧ (s.lane mac).lossInWindow = false) ∧
  (∃ (mac : Nat) (s : State), s.Running ∧ s.laneOn mac = true ∧ (s.lane mac).inLoss = true ∧
    (s.lane mac).qualified = true) ∧
  (∃ (mac : Nat) (s : State), s.Running ∧ s.laneOn mac = true ∧ (s.lane mac).inLoss = true ∧
    (s.lane mac).qualified = false) ∧
  (∃ (mac : Nat) (s : State), s.Running ∧ s.laneOn mac = true ∧ (s.lane mac).recovering = true ∧
    (s.lane mac).trained = true ∧ (s.lane mac).inLoss = false ∧
      (s.lane mac).speed = s.rd (BKB_PEp_CTL_SPEED.f (mac / 4))) ∧
  (∃ (mac : Nat) (s : State), s.Running ∧ s.laneOn mac = true ∧ (s.lane mac).trained = true ∧ s.laneGap mac = false) ∧
  (∃ (mac : Nat) (s : State), s.Running ∧ s.laneOn mac = true ∧ (s.lane mac).trained = true ∧ s.laneGap mac = true) :=
  ⟨⟨0, 2, lane0 (fun x => { x with trained := false }) [], ⟨by decide +kernel, by decide +kernel⟩, by decide +kernel⟩,
   ⟨0, lane0 (fun x => { x with trained := true }) [], ⟨by decide +kernel, by decide +kernel⟩, by decide +kernel⟩,
   ⟨0, lane0 (fun x => { x with inLoss := true, lossInWindow := true }) [], ⟨by decide +kernel, by decide +kernel⟩,
     by decide +kernel⟩,
   ⟨0, lane0 (fun x => { x with inLoss := true }) [], ⟨by decide +kernel, by decide +kernel⟩, by decide +kernel⟩,
   ⟨0, lane0 (fun x => { x with inLoss := true, qualified := true }) [], ⟨by decide +kernel, by decide +kernel⟩,
     by decide +kernel⟩,
   ⟨0, lane0 (fun x => { x with inLoss := true }) [], ⟨by decide +kernel, by decide +kernel⟩, by decide +kernel⟩,
   ⟨0, lane0 (fun x => { x with trained := true, recovering := true }) [(BKB_PEp_CTL_SPEED.f 0, 0)], ⟨by decide +kernel,
     by decide +kernel⟩, by decide +kernel⟩,
   ⟨0, { (lane0 (fun x => { x with trained := true }) []) with net := { up.net with sending := [{ copy16 with mac := 0 }] } }, ⟨by decide +kernel, by decide +kernel⟩, by decide +kernel⟩,
   ⟨0, lane0 (fun x => { x with trained := true }) [], ⟨by decide +kernel, by decide +kernel⟩, by decide +kernel⟩⟩

/-- What `Obligations.LocalFramesReachTheirUnits` supposes is met. -/
theorem test_meets_local_frames_reach_their_units :
  (∃ (rx : RxBb) (s : State), Arrives rx s ∧ rx.frame.linkLocal = true) ∧
  (∃ (rx : RxBb) (s : State), Arrives rx s ∧ rx.frame.linkLocal = true ∧
    ((countRx rx.mac rx.len 1 false (wake rx.mac s.fresh)).laneDelay rx.mac).isSome = true) ∧
  (∃ (rx : RxBb) (s : State), Arrives rx s ∧ rx.frame.linkLocal = true) ∧
  (∃ (rx : RxBb) (s : State), Arrives rx s) :=
  ⟨⟨rxb, lane0 (fun x => { x with trained := true }) [], ⟨⟨by decide +kernel, by decide +kernel⟩, by decide +kernel,
    by decide +kernel, by decide +kernel, by decide +kernel, by decide +kernel⟩, by decide +kernel⟩,
   ⟨rxb, lane0 (fun x => { x with trained := true }) [(TIM_DLY_PEp_Ll_VALID.f 0 0, 1)], ⟨⟨by decide +kernel,
     by decide +kernel⟩, by decide +kernel, by decide +kernel, by decide +kernel, by decide +kernel, by decide +kernel⟩,
       by decide +kernel⟩,
   ⟨rxb, lane0 (fun x => { x with trained := true }) [], ⟨⟨by decide +kernel, by decide +kernel⟩, by decide +kernel,
     by decide +kernel, by decide +kernel, by decide +kernel, by decide +kernel⟩, by decide +kernel⟩,
   ⟨rxb, lane0 (fun x => { x with trained := true }) [], ⟨⟨by decide +kernel, by decide +kernel⟩, by decide +kernel,
     by decide +kernel, by decide +kernel, by decide +kernel, by decide +kernel⟩⟩⟩

/-- What `Obligations.RingFramesAreJudged` supposes is met. -/
theorem test_meets_ring_frames_are_judged :
  (∃ (rx : RxBb) (s : State), Arrives rx s ∧ rx.frame.linkLocal = false ∧
    (wake rx.mac s.fresh).through (rx.mac / 4) = true) ∧
  (∃ (rx : RxBb) (s : State), s.Running ∧ s.laneOn rx.mac = true ∧ (s.lane rx.mac).trained = true ∧
    rxError rx.len 4200 rx.fcsOk rx.symOk = none ∧
      (rx.frame.version ≠ 1 ∨ 8 < rx.frame.kind ∨ addressed rx.frame = false)) ∧
  (∃ (rx : RxBb) (s : State), Arrives rx s ∧ rx.frame.kind ≤ 8 ∧ (wake rx.mac s.fresh).through (rx.mac / 4) = false ∧
    rx.frame.linkLocal = false ∧ rx.frame.kind ≠ 4) ∧
  (∃ (rx : RxBb) (s : State), s.Running ∧ s.laneOn rx.mac = true ∧ (s.lane rx.mac).trained = true ∧ rx.symOk = false) :=
  ⟨⟨{ rxb with frame := { rxb.frame with linkLocal := false, dst := dstForwarded } },
    lane0 (fun x => { x with trained := true }) [(BKB_PEp_END.f 0, 1)], ⟨⟨by decide +kernel, by decide +kernel⟩,
      by decide +kernel, by decide +kernel, by decide +kernel, by decide +kernel, by decide +kernel⟩, by decide +kernel⟩,
   ⟨{ rxb with frame := { rxb.frame with etherType := 0x0800 } }, lane0 (fun x => { x with trained := true }) [],
     ⟨by decide +kernel, by decide +kernel⟩, by decide +kernel⟩,
   ⟨{ rxb with frame := { rxb.frame with linkLocal := false, dst := dstForwarded } },
     lane0 (fun x => { x with trained := true }) [(BKB_PEp_END.f 0, 0)], ⟨⟨by decide +kernel, by decide +kernel⟩,
       by decide +kernel, by decide +kernel, by decide +kernel, by decide +kernel, by decide +kernel⟩, by decide +kernel⟩,
   ⟨{ rxb with symOk := false }, lane0 (fun x => { x with trained := true }) [], ⟨by decide +kernel, by decide +kernel⟩,
     by decide +kernel⟩⟩

/-- What `Obligations.SlotsAndPhasesKeepTheirTimes` supposes is met. -/
theorem test_meets_slots_and_phases_keep_their_times :
  (∃ (n : Nat) (x : Slot) (fallback : Bool) (s : State), s.Running ∧ s.slot n = some x ∧ s.originates x = some fallback) ∧
  (∃ (n : Nat) (p : Nat) (t : Nat) (w : SlotOut) (s : State), s.Running ∧ s.slotWaiting n p = some w ∧
    s.slotAt n p = some t ∧ t ≤ s.clk.now ∧ s.clk.now ≤ t + 200 ∧ s.slotsOn = true ∧ (s.tcy.mismatch = false ∨ n = 0) ∧
      s.slotLane p n ≠ 255 ∧ s.inGroup p (s.slotLane p n) = true ∧ w.frame.kind ≠ 0) ∧
  (∃ (n : Nat) (p : Nat) (t : Nat) (w : SlotOut) (s : State), s.Running ∧ s.slotWaiting n p = some w ∧
    s.slotAt n p = some t ∧ t ≤ s.clk.now ∧ s.clk.now ≤ t + 200 ∧ (s.slotsOn = false ∨ (s.tcy.mismatch = true ∧
      n ≠ 0) ∨ s.slotLane p n = 255)) ∧
  (∃ (n : Nat) (p : Nat) (t : Nat) (w : SlotOut) (s : State), s.Running ∧ s.slotWaiting n p = some w ∧
    s.slotAt n p = some t ∧ t ≤ s.clk.now ∧ s.clk.now ≤ t + 200 ∧ s.slotsOn = true ∧ (s.tcy.mismatch = false ∨ n = 0) ∧
      s.slotLane p n ≠ 255 ∧ s.inGroup p (s.slotLane p n) = false) ∧
  (∃ (n : Nat) (p : Nat) (t : Nat) (w : SlotOut) (s : State), s.Running ∧ s.slotWaiting n p = some w ∧
    s.slotAt n p = some t ∧ t + 200 < s.clk.now ∧ s.slotLane p n < 4) ∧
  (∃ (s : State), s.Running ∧ s.keepsCycle = true ∧ s.tcy.phaseDone = false ∧ s.inMsgPhase = true) ∧
  (∃ (s : State), s.Running ∧ s.keepsCycle = true ∧ s.tcy.start + s.rd TCY_CYCLE_NS.f ≤ s.clk.now) ∧
  (∃ (w : Nat) (s : State), s.Running ∧ w < 16 ∧ s.on (BKB_DW_n_VALID.f w) = true) ∧
  (∃ (w : Nat) (x : Nat × Nat × Nat) (s : State), s.Running ∧ w < 16 ∧ s.window w = some x) :=
  ⟨⟨1, slot1, false, slotted 200 true, ⟨by decide +kernel, by decide +kernel⟩, by decide +kernel⟩,
   ⟨1, 0, 100, wait1, slotted 300 true, ⟨by decide +kernel, by decide +kernel⟩, by decide +kernel⟩,
   ⟨1, 0, 100, wait1, (let s := slotted 300 true; { s with tcy := { s.tcy with mismatch := true } }),
     ⟨by decide +kernel, by decide +kernel⟩, by decide +kernel⟩,
   ⟨1, 0, 100, wait1, slotted 100 false, ⟨by decide +kernel, by decide +kernel⟩, by decide +kernel⟩,
   ⟨1, 0, 100, wait1, slotted 301 true, ⟨by decide +kernel, by decide +kernel⟩, by decide +kernel⟩,
   ⟨put [(TCY_STATE.f, 5), (TCY_MSG_START_NS.f, 0), (TCY_CYCLE_NS.f, 1000000), (TCY_CGUARD_NS.f, 0)],
     ⟨by decide +kernel, by decide +kernel⟩, by decide +kernel⟩,
   ⟨put [(TCY_STATE.f, 5), (TCY_CYCLE_NS.f, 0)], ⟨by decide +kernel, by decide +kernel⟩, by decide +kernel⟩,
   ⟨15, put [(BKB_DW_n_VALID.f 15, 1)], ⟨by decide +kernel, by decide +kernel⟩, by decide +kernel⟩,
   ⟨15, (5, 7, 3), put [(BKB_DW_n_VALID.f 15, 1), (BKB_DW_n_START.f 15, 5), (BKB_DW_n_DUR.f 15, 7), (BKB_DW_n_MASK.f 15,
     3)], ⟨by decide +kernel, by decide +kernel⟩, by decide +kernel⟩⟩

/-- What `Obligations.ColdStartAndLossFollowTheCycleStates` supposes is met. -/
theorem test_meets_cold_start_and_loss_follow_the_cycle_states :
  (∃ (s : State), s.Running ∧ s.rd TCY_STATE.f = 0 ∧
    (bit (s.rd GLB_IMAGE_SECTIONS.f) 1 = true ∨ bit (s.rd GLB_CFG_SOURCE.f) 1 = true) ∧ s.presentEnds.isEmpty = false) ∧
  (∃ (s : State), s.Running ∧
    (s.rd TCY_STATE.f ≠ 0 ∨ s.presentEnds.isEmpty = true ∨ (bit (s.rd GLB_IMAGE_SECTIONS.f) 1 = false ∧
      bit (s.rd GLB_CFG_SOURCE.f) 1 = false))) ∧
  (∃ (s : State), s.Running ∧ s.rd TCY_STATE.f = 1 ∧ s.on TCY_COLD_CAP.f = true ∧ s.tcy.heard = false) ∧
  (∃ (s : State), s.Running ∧ s.rd TCY_STATE.f = 1 ∧ s.on TCY_COLD_CAP.f = true ∧ s.tcy.heard = true) ∧
  (∃ (s : State), s.Running ∧ (s.rd TCY_STATE.f ≠ 1 ∨ s.on TCY_COLD_CAP.f = false)) ∧
  (∃ (s : State), s.Running ∧ s.rd TCY_STATE.f = 2) ∧
  (∃ (s : State), s.Running ∧ s.rd TCY_STATE.f ≠ 2) ∧
  (∃ (s : State), s.Running ∧ s.rd TCY_STATE.f = 3) ∧
  (∃ (s : State), s.Running ∧ s.rd TCY_STATE.f ≠ 3) ∧
  (∃ (s : State), s.Running ∧ (s.rd TCY_STATE.f ∉ [4, 5, 7,
    8] ∨ s.tcy.acceptedNow = true ∨ s.tcy.missedNow = true ∨ s.clk.now < s.msgStart)) ∧
  (∃ (s : State), Judges 4 s ∧ s.tcy.missed + 1 < 2) ∧
  (∃ (s : State), Judges 4 s ∧ 2 ≤ s.tcy.missed + 1 ∧ s.on TCY_LEAD_LOST.f = true) ∧
  (∃ (s : State), Judges 5 s ∧ (s.tcy.missed + 1 < 2 ∨ s.on TCY_LEAD_LOST.f = true)) ∧
  (∃ (s : State), Judges 7 s ∧ (s.tcy.missed + 1 < 2 ∨ s.on TCY_LEAD_LOST.f = true)) ∧
  (∃ (s : State), Judges 8 s ∧ (s.tcy.missed + 1 < 2 ∨ s.on TCY_LEAD_LOST.f = true)) ∧
  (∃ (s : State), Judges 5 s ∧ 2 ≤ s.tcy.missed + 1 ∧ s.tcy.missed + 1 < s.tcy.lost ∧ s.on TCY_LEAD_LOST.f = false) :=
  ⟨⟨neighbours [(TCY_STATE.f, 0), (GLB_IMAGE_SECTIONS.f, 2)], ⟨by decide +kernel, by decide +kernel⟩, by decide +kernel⟩,
   ⟨put [(TCY_STATE.f, 1)], ⟨by decide +kernel, by decide +kernel⟩, by decide +kernel⟩,
   ⟨put [(TCY_STATE.f, 1), (TCY_COLD_CAP.f, 1)], ⟨by decide +kernel, by decide +kernel⟩, by decide +kernel⟩,
   ⟨{ put [(TCY_STATE.f, 1), (TCY_COLD_CAP.f, 1)] with tcy := { up.tcy with heard := true } }, ⟨by decide +kernel,
     by decide +kernel⟩, by decide +kernel⟩,
   ⟨put [(TCY_STATE.f, 1), (TCY_COLD_CAP.f, 0)], ⟨by decide +kernel, by decide +kernel⟩, by decide +kernel⟩,
   ⟨put [(TCY_STATE.f, 2)], ⟨by decide +kernel, by decide +kernel⟩, by decide +kernel⟩,
   ⟨put [(TCY_STATE.f, 1)], ⟨by decide +kernel, by decide +kernel⟩, by decide +kernel⟩,
   ⟨put [(TCY_STATE.f, 3)], ⟨by decide +kernel, by decide +kernel⟩, by decide +kernel⟩,
   ⟨put [(TCY_STATE.f, 1)], ⟨by decide +kernel, by decide +kernel⟩, by decide +kernel⟩,
   ⟨put [(TCY_STATE.f, 6)], ⟨by decide +kernel, by decide +kernel⟩, by decide +kernel⟩,
   ⟨put [(TCY_STATE.f, 4), (TCY_MSG_START_NS.f, 0)], ⟨⟨by decide +kernel, by decide +kernel⟩, by decide +kernel,
     by decide +kernel, by decide +kernel, by decide +kernel⟩, by decide +kernel⟩,
   ⟨{ put [(TCY_STATE.f, 4), (TCY_MSG_START_NS.f, 0), (TCY_LEAD_LOST.f, 1)] with tcy := { up.tcy with missed := 1 } },
     ⟨⟨by decide +kernel, by decide +kernel⟩, by decide +kernel, by decide +kernel, by decide +kernel,
       by decide +kernel⟩, by decide +kernel⟩,
   ⟨put [(TCY_STATE.f, 5), (TCY_MSG_START_NS.f, 0)], ⟨⟨by decide +kernel, by decide +kernel⟩, by decide +kernel,
     by decide +kernel, by decide +kernel, by decide +kernel⟩, by decide +kernel⟩,
   ⟨{ put [(TCY_STATE.f, 7), (TCY_MSG_START_NS.f, 0), (TCY_LEAD_LOST.f, 1)] with tcy := { up.tcy with missed := 1 } },
     ⟨⟨by decide +kernel, by decide +kernel⟩, by decide +kernel, by decide +kernel, by decide +kernel,
       by decide +kernel⟩, by decide +kernel⟩,
   ⟨put [(TCY_STATE.f, 8), (TCY_MSG_START_NS.f, 0)], ⟨⟨by decide +kernel, by decide +kernel⟩, by decide +kernel,
     by decide +kernel, by decide +kernel, by decide +kernel⟩, by decide +kernel⟩,
   ⟨{ put [(TCY_STATE.f, 5), (TCY_MSG_START_NS.f, 0)] with tcy := { up.tcy with missed := 1, lost := 3 } },
     ⟨⟨by decide +kernel, by decide +kernel⟩, by decide +kernel, by decide +kernel, by decide +kernel,
       by decide +kernel⟩, by decide +kernel⟩⟩

/-- What `Obligations.HoistStagesCloseInOrder` supposes is met. -/
theorem test_meets_hoist_stages_close_in_order :
  (∃ (level : Nat) (s : State), s.Running ∧ level ≤ 1 ∧ b2n s.hst.senseE1 ≠ level) ∧
  (∃ (level : Nat) (s : State), s.Running ∧ level ≤ 1 ∧ b2n s.hst.senseE2 ≠ level) ∧
  (∃ (s : State), s.Running ∧ s.isLead = true ∧ s.rd HST_LEAD_STATE.f = 2) ∧
  (∃ (s : State), s.Running ∧ s.isLead = true ∧ s.rd HST_LEAD_STATE.f = 3 ∧ s.hst.topologySent = true ∧
    s.hst.collectLeft ≤ 1) ∧
  (∃ (p : Proposal) (left : Nat) (miss : Nat) (s : State), s.Running ∧ s.isLead = true ∧ s.rd HST_LEAD_STATE.f = 4 ∧
    makeProposal s.fresh = (p, left, miss)) ∧
  (∃ (p : Proposal) (r : Nat) (d : Nat) (s : State), s.Running ∧ s.hst.proposal = some p ∧ s.rd HST_STATE.f = 1 ∧
    s.shadowsBuilt p = false ∧ s.fresh.refusal p (ownSlots s.fresh p) (ownLanes s.fresh p) = some (r, d)) ∧
  (∃ (p : Proposal) (s : State), s.Running ∧ s.hst.proposal = some p ∧ s.rd HST_STATE.f = 1 ∧ s.shadowsBuilt p = false ∧
    s.fresh.refusal p (ownSlots s.fresh p) (ownLanes s.fresh p) = none) ∧
  (∃ (p : Proposal) (s : State), s.Running ∧ s.hst.leadProposal = some p ∧ s.isLead = true ∧ s.rd HST_LEAD_STATE.f = 5 ∧
    s.hst.proposeReady = false ∧ s.hst.collectLeft ≤ 1 ∧
      (nodesOf p.recs).all (fun r => s.hst.readies.contains r.uid) = true) ∧
  (∃ (p : Proposal) (s : State), s.Running ∧ s.hst.leadProposal = some p ∧ s.isLead = true ∧ s.rd HST_LEAD_STATE.f = 5 ∧
    s.hst.proposeReady = false ∧ s.hst.collectLeft ≤ 1 ∧
      (nodesOf p.recs).all (fun r => s.hst.readies.contains r.uid) = false ∧ s.mayRetry = true) ∧
  (∃ (s : State), s.Running ∧ s.isLead = true ∧ s.on LAD_SLEEP_ARMED.f = true ∧
    (s.cycle + 1) % 2 ^ 32 = s.rd LAD_SLEEP_CYCLE.f ∧ s.msgEnd ≤ s.clk.now) ∧
  (∃ (s : State), s.Running ∧ s.rd TCY_STATE.f = 1 ∧ s.rd LAD_ORPHAN_S.f ≠ 0 ∧
    (List.range 4).all (fun p => !s.on (BKB_PEp_PRESENT.f p)) = true) :=
  ⟨⟨1, up, ⟨by decide +kernel, by decide +kernel⟩, by decide +kernel⟩,
   ⟨1, up, ⟨by decide +kernel, by decide +kernel⟩, by decide +kernel⟩,
   ⟨put [(TCY_STATE.f, 6), (HST_LEAD_STATE.f, 2)], ⟨by decide +kernel, by decide +kernel⟩, by decide +kernel⟩,
   ⟨{ put [(TCY_STATE.f, 6), (HST_LEAD_STATE.f, 3)] with hst := { up.hst with topologySent := true, collectLeft := 1 } }, ⟨by decide +kernel, by decide +kernel⟩, by decide +kernel⟩,
   ⟨(makeProposal (put [(TCY_STATE.f, 6), (HST_LEAD_STATE.f, 4)]).fresh).1, (makeProposal (put [(TCY_STATE.f, 6),
     (HST_LEAD_STATE.f, 4)]).fresh).2.1, (makeProposal (put [(TCY_STATE.f, 6), (HST_LEAD_STATE.f, 4)]).fresh).2.2,
       put [(TCY_STATE.f, 6), (HST_LEAD_STATE.f, 4)], ⟨by decide +kernel, by decide +kernel⟩, by decide +kernel,
         by decide +kernel, rfl⟩,
   ⟨someProp, 4, 0, proposed, ⟨by decide +kernel, by decide +kernel⟩, by decide +kernel⟩,
   ⟨{ someProp with recs := [lone] },
     { proposed with hst := { proposed.hst with proposal := some { someProp with recs := [lone] } } },
       ⟨by decide +kernel, by decide +kernel⟩, by decide +kernel⟩,
   ⟨{ someProp with recs := [lone] },
     { put [(TCY_STATE.f, 6), (HST_LEAD_STATE.f, 5)] with hst := { up.hst with leadProposal := some { someProp with recs := [lone] }, readies := [lone.uid], collectLeft := 1 } }, ⟨by decide +kernel, by decide +kernel⟩, by decide +kernel⟩,
   ⟨{ someProp with recs := [lone] },
     { put [(TCY_STATE.f, 6), (HST_LEAD_STATE.f, 5), (HST_RETRIES.f, 1)] with hst := { up.hst with leadProposal := some { someProp with recs := [lone] }, collectLeft := 1 } }, ⟨by decide +kernel, by decide +kernel⟩, by decide +kernel⟩,
   ⟨put [(TCY_STATE.f, 6), (LAD_SLEEP_ARMED.f, 1), (LAD_SLEEP_CYCLE.f, 1), (TCY_CYCLE_NUM.f, 0), (TCY_CYCLE_NS.f, 0)],
     ⟨by decide +kernel, by decide +kernel⟩, by decide +kernel⟩,
   ⟨put [(TCY_STATE.f, 1), (LAD_ORPHAN_S.f, 1)], ⟨by decide +kernel, by decide +kernel⟩, by decide +kernel⟩⟩

/-- What `Obligations.TimeInputsMoveReferencesAndPorts` supposes is met. -/
theorem test_meets_time_inputs_move_references_and_ports :
  (∃ (s : State), s.Running) ∧
  (∃ (mac : Nat) (s : State), s.Running ∧ mac < 16 ∧ (s.dly mac).dx.isSome = true) ∧
  (∃ (s : State), s.Running ∧ s.todOn 0 = true ∧ (s.ref 2).waiting = none) ∧
  (∃ (s : State), s.Running ∧ s.todOn 1 = false) ∧
  (∃ (x : Nat) (s : State), s.Running ∧ x < 2) ∧
  (∃ (x : Nat) (t : Nat) (up : Nat) (b : List Byte) (s : State), s.Running ∧ x < 2 ∧ s.todOn x = true ∧
    (s.ref (x + 2)).waiting = some (t, up) ∧ (b.length ≠ 16 ∨ beAt b 0 2 ≠ 0xCE54 ∨ beAt b 12 4 ≠ crc32c (b.take 12))) ∧
  (∃ (x : Nat) (t : Nat) (up : Nat) (b : List Byte) (s : State), s.Running ∧ x < 2 ∧ s.todOn x = true ∧
    (s.ref (x + 2)).waiting = some (t, up) ∧ b.length = 16 ∧ beAt b 0 2 = 0xCE54 ∧ beAt b 12 4 = crc32c (b.take 12) ∧
      10000000 ≤ s.clk.now - t ∧ s.clk.now - t ≤ 900000000 ∧ bit (byteAt b 10) 0 = true) ∧
  (∃ (x : Nat) (s : State), s.Running ∧ x < 2 ∧ s.todOn x = true ∧ (s.ref (x + 2)).waiting.isSome = true) ∧
  (∃ (x : Nat) (s : State), s.Running ∧ x < 2 ∧ s.refState (x + 2) ≠ 0) ∧
  (∃ (r : Nat) (s : State), s.Running ∧ 2 ≤ r ∧ r ≤ 4 ∧ s.refState r = 1 ∧ (s.ref r).bad = false ∧
    absNat (freqPpt ((s.ref r).lastE - (s.ref r).startE)) ≤ 100000) ∧
  (∃ (m : PtpMsg) (s : State), s.Running ∧ m.port < 48 ∧ bit (s.rd TIM_PTP_EN.f) m.port = true ∧
    m.domain = s.rd TIM_PTP_DOMAIN.f ∧ m.kind = 2 ∧ (s.ptpPort m.port).state = 2) ∧
  (∃ (k : Nat) (s : State), s.Running ∧ k < 48 ∧ bit (s.rd TIM_PTP_EN.f) k = true) ∧
  (∃ (k : Nat) (s : State), s.Running ∧ k < 48 ∧ bit (s.rd TIM_PTP_EN.f) k = true ∧ (s.ptpPort k).state = 2) ∧
  (∃ (k : Nat) (s : State), s.Running ∧ k < 48 ∧ bit (s.rd TIM_PTP_EN.f) k = true ∧ (s.ptpPort k).state = 2) ∧
  (∃ (m : PtpMsg) (s : State), s.Running ∧ m.port < 48 ∧ bit (s.rd TIM_PTP_EN.f) m.port = true ∧
    m.domain = s.rd TIM_PTP_DOMAIN.f ∧ m.kind = 0 ∧ (s.ptpPort m.port).state = 4 ∧ m.oneStep = true) ∧
  (∃ (s : State), s.Running ∧ s.ppsOutAllowed = true) :=
  ⟨⟨up, ⟨by decide +kernel, by decide +kernel⟩⟩,
   ⟨15, up.setDly 15 { results := [], dx := some { seq := 0, t1 := 0, t2 := none, t4 := none } }, ⟨by decide +kernel,
     by decide +kernel⟩, by decide +kernel⟩,
   ⟨put [(TIM_PPSA_TOD_EN.f, 1)], ⟨by decide +kernel, by decide +kernel⟩, by decide +kernel⟩,
   ⟨put [(TIM_PPSB_TOD_EN.f, 0)], ⟨by decide +kernel, by decide +kernel⟩, by decide +kernel⟩,
   ⟨0, up, ⟨by decide +kernel, by decide +kernel⟩, by decide +kernel⟩,
   ⟨0, 0, 0, [], (put [(TIM_PPSA_TOD_EN.f, 1)]).setRef 2 { refNone with waiting := some (0, 0) }, ⟨by decide +kernel,
     by decide +kernel⟩, by decide +kernel⟩,
   ⟨0, 0, 0, (let b := toBE 2 0xCE54 ++ toBE 6 100 ++ zeros 2 ++ [1#8, 0#8]; b ++ toBE 4 (crc32c b)),
     (let s := (put [(TIM_PPSA_TOD_EN.f,
       1)]).setRef 2 { refNone with waiting := some (0, 0) }; { s with clk := { s.clk with now := 10000000 } }),
         ⟨by decide +kernel, by decide +kernel⟩, by decide +kernel⟩,
   ⟨0, (put [(TIM_PPSA_TOD_EN.f, 1)]).setRef 2 { refNone with waiting := some (0, 0) }, ⟨by decide +kernel,
     by decide +kernel⟩, by decide +kernel⟩,
   ⟨0, put [(TIM_REFr_STATE.f 2, 1)], ⟨by decide +kernel, by decide +kernel⟩, by decide +kernel⟩,
   ⟨4, put [(TIM_REFr_STATE.f 4, 1)], ⟨by decide +kernel, by decide +kernel⟩, by decide +kernel⟩,
   ⟨ptpm, (put [(TIM_PTP_EN.f, 1), (TIM_PTP_DOMAIN.f, 0)]).setPtp 0 { ptpNone with state := 2 }, ⟨by decide +kernel,
     by decide +kernel⟩, by decide +kernel⟩,
   ⟨47, put [(TIM_PTP_EN.f, 2 ^ 47)], ⟨by decide +kernel, by decide +kernel⟩, by decide +kernel⟩,
   ⟨0, (put [(TIM_PTP_EN.f, 1)]).setPtp 0 { ptpNone with state := 2 }, ⟨by decide +kernel, by decide +kernel⟩,
     by decide +kernel⟩,
   ⟨0, (put [(TIM_PTP_EN.f, 1), (TIM_PTP_DOMAIN.f, 0)]).setPtp 0 { ptpNone with state := 2 }, ⟨by decide +kernel,
     by decide +kernel⟩, by decide +kernel⟩,
   ⟨{ ptpm with kind := 0, oneStep := true }, (put [(TIM_PTP_EN.f, 1), (TIM_PTP_DOMAIN.f,
     0)]).setPtp 0 { ptpNone with state := 4 }, ⟨by decide +kernel, by decide +kernel⟩, by decide +kernel⟩,
   ⟨put [(TIM_PPSO_EN.f, 1), (TIM_PPSO_HOLDOVER.f, 1), (TCY_STATE.f, 6)], ⟨by decide +kernel, by decide +kernel⟩,
     by decide +kernel⟩⟩

/-- What `Obligations.PositionInputsMoveAxlesFusionAndPhase` supposes is met. -/
theorem test_meets_position_inputs_move_axles_fusion_and_phase :
  (∃ (e : AxleEdge) (s : State), s.Running ∧ e.axle < 4 ∧ s.axleOn e.axle = true ∧ (s.axle e.axle).seen = true ∧
    s.axleAge e.axle e.time < 2500 ∧ (if bit (s.rd POS_AX_PD.f) e.axle then (s.axle e.axle).a = false ∧
      e.a = true else e.a ≠ (s.axle e.axle).a ∨ e.b ≠ (s.axle e.axle).b)) ∧
  (∃ (e : AxleEdge) (s : State), s.Running ∧ e.axle < 4 ∧ s.axleOn e.axle = true ∧
    bit (s.rd POS_AX_PD.f) e.axle = false ∧ e.a ≠ (s.axle e.axle).a ∧ e.b ≠ (s.axle e.axle).b) ∧
  (∃ (e : AxleEdge) (s : State), s.Running ∧ e.axle < 4 ∧ s.axleOn e.axle = true ∧ bit (s.rd POS_AX_PD.f) e.axle = true ∧
    (e.a = false ∨ (s.axle e.axle).a = true)) ∧
  (∃ (e : AxleEdge) (s : State), s.Running ∧ e.axle < 4 ∧ s.axleOn e.axle = true ∧ (s.axle e.axle).seen = false ∧
    bit (s.rd POS_AX_PD.f) e.axle = true ∧ bit (s.rd POS_AX_INV.f) e.axle = false ∧ (s.axle e.axle).a = false ∧
      e.a = true) ∧
  (∃ (s : State), s.Running ∧ s.included.length ≠ 2) ∧
  (∃ (s : State), s.Running ∧ s.included.length = 2) ∧
  (∃ (n : Nat) (s : State), s.on (POS_AXn_SUSPECT.f n) = false) ∧
  (∃ (s : State), s.Running ∧ s.on POS_ODO_CAP.f = true ∧ s.odoGood = true) ∧
  (∃ (s : State), s.Running ∧ s.on POS_ODO_CAP.f = true ∧ s.included.any (fun n => !s.on (POS_AXn_SUSPECT.f n)) = false ∧
    s.pos.extrapFrom = none) ∧
  (∃ (s : State), s.Running ∧ s.rd POS_LP_SYS.f = 0 ∧ s.pos.pll = false ∧ s.pos.crossings = 0) ∧
  (∃ (period : Nat) (s : State), s.Running ∧ s.rd POS_LP_SYS.f ≠ 4 ∧ s.pos.pll = true ∧ 0 < period ∧
    s.bandOk (lineBand (roundOpen 1000000000000 period).toNat) = true) ∧
  (∃ (ampl : Nat) (err : Int) (s : State), s.Running ∧ s.pos.pll = true ∧ ampl < s.rd POS_LP_MIN_MV.f ∧
    1 ≤ s.pos.lowAmpl ∧ absNat err < 23860929) ∧
  (∃ (ampl : Nat) (err : Int) (s : State), s.Running ∧ s.pos.pll = true ∧ s.rd POS_LP_MIN_MV.f ≤ ampl ∧
    7 ≤ s.pos.goodPeriods ∧ absNat err < 23860929) ∧
  (∃ (s : State), s.Running ∧ s.rd POS_LP_SYS.f = 0 ∧ s.pos.pll = false) ∧
  (∃ (i : Nat) (s : State), s.Running ∧ i < 4096) ∧
  (∃ (i : Nat) (e : EvEntry) (s : State), s.event i = some e ∧ (s.evState i = 1 ∨ s.evState i = 2) ∧
    s.baseInvalid (evBase e.bytes) = true) ∧
  (∃ (i : Nat) (e : EvEntry) (s : State), s.event i = some e ∧ s.evState i = 1 ∧ s.baseInvalid (evBase e.bytes) = false ∧
    evAction e.bytes ≠ 3) :=
  ⟨⟨{ axle := 0, a := true, b := false, time := 2499 }, axled (fun x => { x with seen := true }) [], ⟨by decide +kernel,
    by decide +kernel⟩, by decide +kernel⟩,
   ⟨{ axle := 0, a := true, b := true, time := 0 }, axled id [], ⟨by decide +kernel, by decide +kernel⟩,
     by decide +kernel⟩,
   ⟨{ axle := 0, a := false, b := true, time := 0 }, axled id [(POS_AX_PD.f, 1)], ⟨by decide +kernel,
     by decide +kernel⟩, by decide +kernel⟩,
   ⟨{ axle := 0, a := true, b := true, time := 0 }, (put [(POS_AX_EN.f, 1), (POS_AX_PD.f,
     1)]).setAxle 0 { axleNone with seen := false }, ⟨by decide +kernel, by decide +kernel⟩, by decide +kernel⟩,
   ⟨up, ⟨by decide +kernel, by decide +kernel⟩, by decide +kernel⟩,
   ⟨put [(POS_AX_EN.f, 3)], ⟨by decide +kernel, by decide +kernel⟩, by decide +kernel⟩,
   ⟨0, up, by decide +kernel⟩,
   ⟨put [(POS_ODO_CAP.f, 1), (POS_AX_EN.f, 1)], ⟨by decide +kernel, by decide +kernel⟩, by decide +kernel⟩,
   ⟨put [(POS_ODO_CAP.f, 1)], ⟨by decide +kernel, by decide +kernel⟩, by decide +kernel⟩,
   ⟨up, ⟨by decide +kernel, by decide +kernel⟩, by decide +kernel⟩,
   ⟨20000000, { up with pos := { up.pos with pll := true } }, ⟨by decide +kernel, by decide +kernel⟩, by decide +kernel⟩,
   ⟨0, 0, { put [(POS_LP_MIN_MV.f, 1)] with pos := { up.pos with pll := true, lowAmpl := 1 } }, ⟨by decide +kernel,
     by decide +kernel⟩, by decide +kernel⟩,
   ⟨1, 0, { put [(POS_LP_MIN_MV.f, 1)] with pos := { up.pos with pll := true, goodPeriods := 7 } }, ⟨by decide +kernel,
     by decide +kernel⟩, by decide +kernel⟩,
   ⟨up, ⟨by decide +kernel, by decide +kernel⟩, by decide +kernel⟩,
   ⟨0, up, ⟨by decide +kernel, by decide +kernel⟩, by decide +kernel⟩,
   ⟨0, evPos, { put [(SCH_EVi_STATE.f 0, 1)] with sch := { up.sch with entries := [evPos] } }, by decide +kernel⟩,
   ⟨0, evEnt, { put [(SCH_EVi_STATE.f 0, 1)] with sch := { up.sch with entries := [evEnt] } }, by decide +kernel⟩⟩

/-- What `Obligations.HostRingsAndPortsMoveFrames` supposes is met. -/
theorem test_meets_host_rings_and_ports_move_frames :
  (∃ (hb : Bool) (word : Nat) (s : State), s.Running ∧ s.on (SCH_Hx_TX_EN.f (hx hb)) = true ∧
    s.on (SCH_Hx_RX_EN.f (hx hb)) = false ∧ bits word 0 16 < 2 ^ s.rd (SCH_Hx_TX_LOG2.f (hx hb))) ∧
  (∃ (hb : Bool) (desc : List Byte) (s : State), s.Running ∧ s.on (SCH_Hx_TX_EN.f (hx hb)) = true ∧
    (s.rings hb).txStopped = false ∧ s.rd (SCH_Hx_TX_HEAD.f (hx hb)) ≠ (s.rings hb).txTail ∧ s.sch.bound.length < 1024 ∧
      desc.length = 32 ∧ s.descOk desc = true ∧ bit (byteAt desc 23) 0 = false) ∧
  (∃ (hb : Bool) (desc : List Byte) (s : State), s.Running ∧ s.on (SCH_Hx_TX_EN.f (hx hb)) = true ∧
    (s.rings hb).txStopped = false ∧ s.rd (SCH_Hx_TX_HEAD.f (hx hb)) ≠ (s.rings hb).txTail ∧ s.sch.bound.length < 1024 ∧
      desc.length = 32 ∧ s.descOk desc = true ∧ bit (byteAt desc 23) 0 = false ∧ bit (byteAt desc 23) 2 = false) ∧
  (∃ (mac : Nat) (s : State), s.Running ∧ s.portIdle mac = true) ∧
  (∃ (mac : Nat) (c : Copy) (w : Wire) (s : State), s.Running ∧ s.sendingOn mac = some c ∧ s.wireOf c = some w ∧
    c.queue < 8) ∧
  (∃ (rx : RxEth) (s : State), s.Running ∧ 16 ≤ rx.mac ∧ rx.mac < 80 ∧ s.on (MAC_n_CFG_EN.f rx.mac) = true ∧
    s.on (MAC_n_LINK.f rx.mac) = true ∧ s.rd (LAD_Dd_RUNG.f rx.mac) = 0 ∧ rx.symOk = true ∧ 64 ≤ rx.len ∧
      rx.fcsOk = false ∧ rx.len ≤ s.maxLen rx.mac) ∧
  (∃ (rx : RxEth) (s : State), s.Running ∧ 64 ≤ rx.mac ∧ rx.mac < 80 ∧ s.on (MAC_n_CFG_EN.f rx.mac) = true ∧
    s.on (MAC_n_LINK.f rx.mac) = true ∧ s.rd (LAD_Dd_RUNG.f rx.mac) = 0 ∧ rx.symOk = true ∧ 64 ≤ rx.len ∧
      rx.fcsOk = true ∧ rx.len ≤ s.maxLen rx.mac ∧ ethType rx.bytes ≠ 0x8808) ∧
  (∃ (mac : Nat) (s : State), s.Running ∧ mac ≤ 80 ∧ s.on (MAC_n_PAUSED.f mac) = true) ∧
  (∃ (mac : Nat) (q : Nat) (c : Copy) (s : State), s.Running ∧ q < 8 ∧ s.firstAged mac q = some c) ∧
  (∃ (mac : Nat) (s : State), s.Running ∧ 16 ≤ mac ∧ mac ≤ 80 ∧ s.on (MAC_n_CFG_EN.f mac) = true) ∧
  (∃ (mac : Nat) (c : Copy) (s : State), s.Running ∧ s.sendingOn mac = some c ∧ 64 ≤ mac ∧ mac ≤ 79) ∧
  (∃ (mac : Nat) (c : Copy) (s : State), s.Running ∧ s.backoffOn mac = some c) ∧
  (∃ (mac : Nat) (s : State), s.Running ∧ 64 ≤ mac ∧ mac ≤ 79 ∧ s.on (MAC_n_PLCA_EN.f mac) = true) ∧
  (∃ (s : State), s.sys.power = 3) :=
  ⟨⟨false, 0, put [(SCH_Hx_TX_EN.f 0, 1)], ⟨by decide +kernel, by decide +kernel⟩, by decide +kernel⟩,
   ⟨false, descGood, (put [(SCH_Hx_TX_EN.f 0, 1)]).setRings false { FrameRings.reset with txTail := 1 },
     ⟨by decide +kernel, by decide +kernel⟩, by decide +kernel⟩,
   ⟨false, descGood, (put [(SCH_Hx_TX_EN.f 0, 1)]).setRings false { FrameRings.reset with txTail := 1 },
     ⟨by decide +kernel, by decide +kernel⟩, by decide +kernel⟩,
   ⟨79, put [(MAC_n_OPER.f 79, 1)], ⟨by decide +kernel, by decide +kernel⟩, by decide +kernel⟩,
   ⟨16, copy16, .eth (zeros 60), { up with net := { up.net with sending := [copy16], held := [buf0] } },
     ⟨by decide +kernel, by decide +kernel⟩, by decide +kernel⟩,
   ⟨{ rxe with mac := 16, fcsOk := false }, put [(MAC_n_CFG_EN.f 16, 1), (MAC_n_LINK.f 16, 1)], ⟨by decide +kernel,
     by decide +kernel⟩, by decide +kernel⟩,
   ⟨{ rxe with mac := 79 }, put [(MAC_n_CFG_EN.f 79, 1), (MAC_n_LINK.f 79, 1)], ⟨by decide +kernel, by decide +kernel⟩,
     by decide +kernel⟩,
   ⟨80, put [(MAC_n_PAUSED.f 80, 1)], ⟨by decide +kernel, by decide +kernel⟩, by decide +kernel⟩,
   ⟨16, 0, copy16, { up with net := { up.net with queue := [copy16] } }, ⟨by decide +kernel, by decide +kernel⟩,
     by decide +kernel⟩,
   ⟨80, put [(MAC_n_CFG_EN.f 80, 1)], ⟨by decide +kernel, by decide +kernel⟩, by decide +kernel⟩,
   ⟨64, { copy16 with mac := 64 }, { up with net := { up.net with sending := [{ copy16 with mac := 64 }] } },
     ⟨by decide +kernel, by decide +kernel⟩, by decide +kernel⟩,
   ⟨64, { copy16 with mac := 64 }, { up with net := { up.net with backoff := [{ copy16 with mac := 64 }] } },
     ⟨by decide +kernel, by decide +kernel⟩, by decide +kernel⟩,
   ⟨79, put [(MAC_n_PLCA_EN.f 79, 1)], ⟨by decide +kernel, by decide +kernel⟩, by decide +kernel⟩,
   ⟨up, by decide +kernel⟩⟩

/-- What `Obligations.EnginesAndStoresTakeWhatWaits` supposes is met. -/
theorem test_meets_engines_and_stores_take_what_waits :
  (∃ (e : Nat) (j : Job) (rest : List Job) (s : State), s.Running ∧ e < 512 ∧ (s.engine e).running = none ∧
    (dropShed e (s.engine e).deque.length s.fresh).mine e = j :: rest) ∧
  (∃ (e : Nat) (s : State), s.Running ∧ e < 512 ∧ (s.engOper e = 1 ∨ s.engOper e = 6) ∧ s.on STL_STEAL_EN.f = true ∧
    (s.engine e).running = none ∧ s.ownWork e = [] ∧ (s.engine e).deque.length < 64 ∧
      searchVictims s.fresh (64 - (s.engine e).deque.length) (searchOrder e (Nat.min 4 (s.rd STL_MAX_HOPS.f))) false = (none, true)) ∧
  (∃ (e : Nat) (v : Nat) (b : List Job) (inelig : Bool) (s : State), s.Running ∧ e < 512 ∧
    (s.engOper e = 1 ∨ s.engOper e = 6) ∧ s.on STL_STEAL_EN.f = true ∧ (s.engine e).running = none ∧ s.ownWork e = [] ∧
      (s.engine e).deque.length < 64 ∧
        searchVictims s.fresh (64 - (s.engine e).deque.length) (searchOrder e (Nat.min 4 (s.rd STL_MAX_HOPS.f))) false = (some (v, b), inelig)) ∧
  (∃ (e : Nat) (r : Running) (s : State), s.Running ∧ e < 512 ∧ (s.engine e).running = some r ∧ r.done = true ∧
    r.triggers = []) ∧
  (∃ (r : RecRecord) (q : List RecRecord) (s : State), s.Running ∧ s.sto.queue = r :: q ∧ s.sto.ring.length < 132120576 ∧
    (r.seq + 1) % 32768 ≠ 0) ∧
  (∃ (s : State), s.Running) ∧
  (∃ (s : State), s.Running) ∧
  (∃ (unit : Nat) (layout : Nat) (c : Chunk) (s : State), s.Running ∧
    s.eng.chunks.find? (fun c => c.layout == 128 * unit + layout) = some c ∧ s.epochLive c.epoch = false) ∧
  (∃ (unit : Nat) (layout : Nat) (c : Chunk) (s : State), s.Running ∧
    s.eng.chunks.find? (fun c => c.layout == 128 * unit + layout) = some c ∧ s.epochLive c.epoch = true) ∧
  (∃ (unit : Nat) (layout : Nat) (s : State), s.Running ∧ s.layoutOn (128 * unit + layout) = true ∧
    s.layoutMode (128 * unit + layout) = 1) ∧
  (∃ (e : Nat) (cause : Nat) (s : State), s.Running ∧ e < 512 ∧ 1 ≤ cause ∧ cause ≤ 4 ∧ cause ≠ 3 ∧ s.engOper e ≠ 4 ∧
    (s.engine e).running = none) ∧
  (∃ (e : Nat) (s : State), s.Running ∧ e < 512 ∧ (s.engine e).testing = true ∧ (s.engine e).running = none ∧
    (s.engine e).deque = []) ∧
  (∃ (s : State), s.Running ∧ s.eng.envelope.any (fun n => s.rd STL_ENV_RECORDS.f < n) = true) ∧
  (∃ (r : JRecord) (s : State), s.sto.inFlight = some r ∧ s.sto.journal.length < 32768) :=
  ⟨⟨0, jobA, [],
    { put [(STL_ENGe_OPER.f 0, 1), (STL_ENGe_CFG.f 0, 1)] with eng := { up.eng with engines := [{ engineNone 0 with deque := [jobA] }] } }, ⟨by decide +kernel, by decide +kernel⟩, by decide +kernel⟩,
   ⟨0, stealing { jobA with deadline := 0 }, ⟨by decide +kernel, by decide +kernel⟩, by decide +kernel⟩,
   ⟨0, 1, [{ jobA with deadline := 2 ^ 40 }], false, stealing { jobA with deadline := 2 ^ 40 }, ⟨by decide +kernel,
     by decide +kernel⟩, by decide +kernel⟩,
   ⟨0, runA, { up with eng := { up.eng with engines := [{ engineNone 0 with running := some runA }] } },
     ⟨by decide +kernel, by decide +kernel⟩, by decide +kernel⟩,
   ⟨recA, [], { up with sto := { up.sto with queue := [recA] } }, ⟨by decide +kernel, by decide +kernel⟩,
     by decide +kernel⟩,
   ⟨up, ⟨by decide +kernel, by decide +kernel⟩⟩,
   ⟨up, ⟨by decide +kernel, by decide +kernel⟩⟩,
   ⟨0, 0, { chunkA with epoch := 9 }, { up with eng := { up.eng with chunks := [{ chunkA with epoch := 9 }] } },
     ⟨by decide +kernel, by decide +kernel⟩, by decide +kernel⟩,
   ⟨0, 0, chunkA, { up with eng := { up.eng with chunks := [chunkA] } }, ⟨by decide +kernel, by decide +kernel⟩,
     by decide +kernel⟩,
   ⟨0, 0, put [(STL_PLu_k_Ww.f 0 0 0, 257)], ⟨by decide +kernel, by decide +kernel⟩, by decide +kernel⟩,
   ⟨511, 4, put [(STL_ENGe_OPER.f 511, 1)], ⟨by decide +kernel, by decide +kernel⟩, by decide +kernel⟩,
   ⟨0, { up with eng := { up.eng with engines := [{ engineNone 0 with testing := true }] } }, ⟨by decide +kernel,
     by decide +kernel⟩, by decide +kernel⟩,
   ⟨{ put [(STL_ENV_RECORDS.f, 0)] with eng := { up.eng with envelope := [1] } }, ⟨by decide +kernel,
     by decide +kernel⟩, by decide +kernel⟩,
   ⟨jrecA, { up with sto := { up.sto with inFlight := some jrecA } }, by decide +kernel⟩⟩

/-- What `Obligations.LegacyBusesReceiveAndTimeOut` supposes is met. -/
theorem test_meets_legacy_buses_receive_and_time_out :
  (∃ (c : Nat) (s : State), s.Running ∧ s.mvbOn c = true ∧ s.on (LEG_MVBc_MASTER.f c) = false) ∧
  (∃ (c : Nat) (lines : Nat) (s : State) (t : State), s.Running ∧ t = mvbWake c lines s.fresh ∧ t.mvbOn c = true ∧
    (mvbArrive c lines (lines / 4) t).2 = false) ∧
  (∃ (c : Nat) (fcode : Nat) (lines : Nat) (s : State) (t : State) (w : State), s.Running ∧ t = mvbWake c lines s.fresh ∧
    t.mvbOn c = true ∧ w = (mvbArrive c lines (lines / 4) t).1 ∧ (mvbArrive c lines (lines / 4) t).2 = true ∧ 4 < fcode ∧
      fcode ≠ 8 ∧ fcode ≠ 15) ∧
  (∃ (c : Nat) (lines : Nat) (s : State) (t : State) (w : State), s.Running ∧ t = mvbWake c lines s.fresh ∧
    t.mvbOn c = true ∧ w = (mvbArrive c lines (lines / 4) t).1 ∧ (mvbArrive c lines (lines / 4) t).2 = true) ∧
  (∃ (c : Nat) (i : Nat) (lines : Nat) (fcode : Nat) (addr : Nat) (data : List Byte) (goodA : Bool) (goodB : Bool) (s : State) (t : State) (w : State), s.Running ∧ t = mvbWake c lines s.fresh ∧ t.mvbOn c = true ∧ data.length = fcodeBytes fcode ∧ w = (mvbArrive c lines (b2n goodA + 2 * b2n goodB) t).1 ∧ (mvbArrive c lines (b2n goodA + 2 * b2n goodB) t).2 = true ∧ w.mvbEntry c addr false = some i ∧ w.rd (MP_FCODE.f c i) = fcode) ∧
  (∃ (c : Nat) (s : State), s.Running ∧ c < 4 ∧ (s.leg.polls.getD c []).isEmpty = false ∧
    s.on (LEG_MVBc_MASTER.f c) = true) ∧
  (∃ (c : Nat) (s : State), s.Running ∧ s.mvbOn c = true ∧ s.on (LEG_MVBc_ADMIN.f c) = true ∧
    s.on (LEG_MVBc_MASTER.f c) = false ∧ s.gateOpen (s.mvbGated c) = true) ∧
  (∃ (s : State) (t : State), s.Running ∧ t = wakeLegacy [88, 89, 90, 91] s.fresh ∧ t.wtbOn = true ∧
    t.rd LEG_WTB_STATE.f = 2) ∧
  (∃ (w : WtbInaug) (s : State), s.Running ∧ s.rd LEG_WTB_STATE.f = 1 ∧ s.on LEG_WTB_FOREIGN_DIR.f = false ∧
    s.leg.foreignBefore = 0 ∧ w.dir1 = [] ∧ w.lines = 0) ∧
  (∃ (addr : Nat) (k : Nat) (lines : Nat) (data : List Byte) (s : State) (t : State), s.Running ∧ lines % 16 ≠ 0 ∧
    data.length ≤ 128 ∧ t = wtbLines lines (wakeLegacy [88, 89, 90, 91] s.fresh) ∧ t.rd LEG_WTB_STATE.f = 2 ∧
      (List.range 64).find? (fun k => 1 ≤ k && t.on (LEG_WTB_FNk_VALID.f k) && t.rd (LEG_WTB_FNk_ADDR.f k) == addr) = some k) ∧
  (∃ (s : State), s.Running ∧ s.rd LEG_WTB_STATE.f = 2 ∧ s.txImage 88 0 = none) ∧
  (∃ (port : Nat) (s : State), s.Running ∧ 88 ≤ port ∧ port < 92 ∧ s.leg.lines.contains port = true) ∧
  (∃ (s : State) (t : State), s.Running ∧ t = wakeLegacy [88, 89, 90, 91] s.fresh ∧ t.rd LEG_WTB_STATE.f = 2) ∧
  (∃ (c : Nat) (lines : Nat) (fcode : Nat) (data : List Byte) (s : State) (t : State), s.Running ∧
    t = mvbWake c lines s.fresh ∧ t.mvbOn c = true ∧ fcode ≤ 4 ∧ data.length ≠ fcodeBytes fcode) :=
  ⟨⟨0, put [(LEG_MVBc_EN_A.f 0, 1)], ⟨by decide +kernel, by decide +kernel⟩, by decide +kernel⟩,
   ⟨0, 0, put [(LEG_MVBc_EN_A.f 0, 1)], mvbWake 0 0 (State.fresh (put [(LEG_MVBc_EN_A.f 0, 1)])), ⟨by decide +kernel,
     by decide +kernel⟩, rfl, by decide +kernel⟩,
   ⟨0, 5, 5, put [(LEG_MVBc_EN_A.f 0, 1)], mvbWake 0 5 (State.fresh (put [(LEG_MVBc_EN_A.f 0, 1)])),
     (mvbArrive 0 5 (5 / 4) (mvbWake 0 5 (State.fresh (put [(LEG_MVBc_EN_A.f 0, 1)])))).1, ⟨by decide +kernel,
       by decide +kernel⟩, rfl, by decide +kernel, rfl, by decide +kernel⟩,
   ⟨0, 5, put [(LEG_MVBc_EN_A.f 0, 1)], mvbWake 0 5 (State.fresh (put [(LEG_MVBc_EN_A.f 0, 1)])),
     (mvbArrive 0 5 (5 / 4) (mvbWake 0 5 (State.fresh (put [(LEG_MVBc_EN_A.f 0, 1)])))).1, ⟨by decide +kernel,
       by decide +kernel⟩, rfl, by decide +kernel, rfl, by decide +kernel⟩,
   ⟨0, 0, 1, 0, 7, zeros 2, true, false,
     { put [(LEG_MVBc_EN_A.f 0, 1), (MP_VALID.f 0 0, 1), (MP_ADDR.f 0 0, 7)] with leg := { up.leg with lines := [80] } }, mvbWake 0 1 (State.fresh ({ put [(LEG_MVBc_EN_A.f 0, 1), (MP_VALID.f 0 0, 1), (MP_ADDR.f 0 0, 7)] with leg := { up.leg with lines := [80] } })), (mvbArrive 0 1 (b2n true + 2 * b2n false) (mvbWake 0 1 (State.fresh ({ put [(LEG_MVBc_EN_A.f 0, 1), (MP_VALID.f 0 0, 1), (MP_ADDR.f 0 0, 7)] with leg := { up.leg with lines := [80] } })))).1, ⟨by decide +kernel, by decide +kernel⟩, rfl, by decide +kernel, by decide +kernel, rfl, by decide +kernel⟩,
   ⟨0, { put [(LEG_MVBc_MASTER.f 0, 1)] with leg := { up.leg with polls := [[(0, 0)], [], [], []] } },
     ⟨by decide +kernel, by decide +kernel⟩, by decide +kernel⟩,
   ⟨0, put [(LEG_MVBc_EN_A.f 0, 1), (LEG_MVBc_ADMIN.f 0, 1)], ⟨by decide +kernel, by decide +kernel⟩, by decide +kernel⟩,
   ⟨put [(LEG_WTB_ROLE.f, 1), (LEG_WTB_LINE_EN.f, 1), (LEG_WTB_STATE.f, 2)], wakeLegacy [88, 89, 90,
     91] (State.fresh (put [(LEG_WTB_ROLE.f, 1), (LEG_WTB_LINE_EN.f, 1), (LEG_WTB_STATE.f, 2)])), ⟨by decide +kernel,
       by decide +kernel⟩, rfl, by decide +kernel⟩,
   ⟨{ addr := 1, master := true, endNode := true, dir1 := [], dir2 := [], lines := 0 }, put [(LEG_WTB_STATE.f, 1)],
     ⟨by decide +kernel, by decide +kernel⟩, by decide +kernel⟩,
   ⟨5, 63, 1, [], put [(LEG_WTB_STATE.f, 2), (LEG_WTB_FNk_VALID.f 63, 1), (LEG_WTB_FNk_ADDR.f 63, 5)],
     wtbLines 1 (wakeLegacy [88, 89, 90, 91] (State.fresh (put [(LEG_WTB_STATE.f, 2), (LEG_WTB_FNk_VALID.f 63, 1),
       (LEG_WTB_FNk_ADDR.f 63, 5)]))), ⟨by decide +kernel, by decide +kernel⟩, by decide +kernel, by decide +kernel,
         rfl, by decide +kernel⟩,
   ⟨put [(LEG_WTB_STATE.f, 2)], ⟨by decide +kernel, by decide +kernel⟩, by decide +kernel⟩,
   ⟨91, { up with leg := { up.leg with lines := [91] } }, ⟨by decide +kernel, by decide +kernel⟩, by decide +kernel⟩,
   ⟨put [(LEG_WTB_STATE.f, 2)], wakeLegacy [88, 89, 90, 91] (State.fresh (put [(LEG_WTB_STATE.f, 2)])),
     ⟨by decide +kernel, by decide +kernel⟩, rfl, by decide +kernel⟩,
   ⟨0, 0, 0, [], put [(LEG_MVBc_EN_A.f 0, 1)], mvbWake 0 0 (State.fresh (put [(LEG_MVBc_EN_A.f 0, 1)])),
     ⟨by decide +kernel, by decide +kernel⟩, rfl, by decide +kernel⟩⟩

/-- What `Obligations.CanAndSerialPortsFollowTheirTables` supposes is met. -/
theorem test_meets_can_and_serial_ports_follow_their_tables :
  (∃ (k : Nat) (data : List Byte) (s : State) (t : State), s.Running ∧ k < 12 ∧ t = wakeLegacy [92 + k] s.fresh ∧
    t.canOn k = true ∧ data.length ≤ 64 ∧ t.on (LEG_CANk_FD_EN.f k) = false) ∧
  (∃ (k : Nat) (data : List Byte) (s : State) (t : State), s.Running ∧ k < 12 ∧ t = wakeLegacy [92 + k] s.fresh ∧
    t.canOn k = true ∧ data.length ≤ 8) ∧
  (∃ (k : Nat) (id : Nat) (ide : Nat) (i : Nat) (data : List Byte) (s : State) (t : State), s.Running ∧ k < 12 ∧
    t = wakeLegacy [92 + k] s.fresh ∧ t.canOn k = true ∧ data.length ≤ 8 ∧ (canRxGood k t).canMatch k id ide 0 = some i ∧
      (canRxGood k t).rd (CM_LEN.f k i) = data.length) ∧
  (∃ (k : Nat) (id : Nat) (ide : Nat) (data : List Byte) (s : State) (t : State), s.Running ∧ k < 12 ∧
    t = wakeLegacy [92 + k] s.fresh ∧ t.canOn k = true ∧ data.length ≤ 8 ∧ (canRxGood k t).canMatch k id ide 0 = none) ∧
  (∃ (k : Nat) (i : Nat) (x : TxImage) (s : State), s.Running ∧ s.canOn k = true ∧ s.on (LEG_CANk_LISTEN.f k) = false ∧
    s.gateOpen (s.canGated k) = true ∧ s.canNext k = some (i, x) ∧ s.rd (LEG_CANk_TEC.f k) = 0) ∧
  (∃ (k : Nat) (e : Nat) (x : TxImage) (s : State), s.Running ∧ k < 12 ∧ e < 128 ∧ s.on (CM_VALID.f k e) = true ∧
    s.on (CM_TX.f k e) = true ∧ s.txImage (92 + k) (s.canNum k e) = some x ∧ x.unsent = true) ∧
  (∃ (k : Nat) (s : State), s.Running ∧ s.canOn k = true) ∧
  (∃ (k : Nat) (s : State), s.Running ∧ k < 12 ∧ s.on (LEG_CANk_CFG_EN.f k) = true ∧ s.rd (LEG_CANk_ESTATE.f k) = 2 ∧
    s.on (LEG_CANk_AUTO_RECOVER.f k) = true) ∧
  (∃ (k : Nat) (tec : Nat) (s : State) (t : State), s.Running ∧ k < 12 ∧ t = wakeLegacy [92 + k] s.fresh ∧
    t.canOn k = true ∧ tec ≤ 255) ∧
  (∃ (x : Nat) (data : List Byte) (s : State) (t : State), s.Running ∧ x < 12 ∧ t = wakeLegacy [104 + x] s.fresh ∧
    t.on (LEG_SERs_CFG_EN.f x) = true ∧ data.length ≤ 256) ∧
  (∃ (x : Nat) (data : List Byte) (s : State) (t : State), s.Running ∧ x < 12 ∧ t = wakeLegacy [104 + x] s.fresh ∧
    t.on (LEG_SERs_CFG_EN.f x) = true ∧ data.length ≤ 256 ∧ t.on (LEG_SERs_CRC.f x) = false ∧
      (List.range 64).find? (fun i => t.serMatch x i data) = none) ∧
  (∃ (x : Nat) (i : Nat) (data : List Byte) (s : State) (t : State), s.Running ∧ x < 12 ∧
    t = wakeLegacy [104 + x] s.fresh ∧ t.on (LEG_SERs_CFG_EN.f x) = true ∧ data.length ≤ 256 ∧
      t.on (LEG_SERs_CRC.f x) = false ∧ (List.range 64).find? (fun i => t.serMatch x i data) = some i ∧
        t.leg.late.any (fun p => p.1 == x) = false) ∧
  (∃ (x : Nat) (f : SerFrame) (rest : List SerFrame) (s : State), s.Running ∧ x < 12 ∧
    s.on (LEG_SERs_CFG_EN.f x) = true ∧ s.on (LEG_SERs_WAITING.f x) = false ∧ s.gateOpen (s.serGated x) = true ∧
      s.serQueue (104 + x) = f :: rest ∧ s.on (LEG_SERs_CRC.f x) = false ∧ s.on (LEG_SERs_MODE.f x) = false) ∧
  (∃ (x : Nat) (s : State), s.Running ∧ x < 12 ∧ s.on (LEG_SERs_WAITING.f x) = true) ∧
  (∃ (bus : Nat) (unit : Nat) (entry : Nat) (port : Nat) (m : Nat) (tmo : Fld) (s : State), s.Running ∧
    s.timedEntry bus unit entry = some (port, m, tmo) ∧ s.leg.silent.contains (bus, unit, entry) = false) :=
  ⟨⟨0, [], put [(LEG_CANk_CFG_EN.f 0, 1), (LEG_CANk_FD_EN.f 0, 0)],
    wakeLegacy [92] (State.fresh (put [(LEG_CANk_CFG_EN.f 0, 1), (LEG_CANk_FD_EN.f 0, 0)])), ⟨by decide +kernel,
      by decide +kernel⟩, by decide +kernel, rfl, by decide +kernel⟩,
   ⟨0, [], put [(LEG_CANk_CFG_EN.f 0, 1), (LEG_CANk_FD_EN.f 0, 0)],
     wakeLegacy [92] (State.fresh (put [(LEG_CANk_CFG_EN.f 0, 1), (LEG_CANk_FD_EN.f 0, 0)])), ⟨by decide +kernel,
       by decide +kernel⟩, by decide +kernel, rfl, by decide +kernel⟩,
   ⟨0, 5, 0, 127, zeros 2, put [(LEG_CANk_CFG_EN.f 0, 1), (CM_VALID.f 0 127, 1), (CM_ID.f 0 127, 5), (CM_LEN.f 0 127,
     2)], wakeLegacy [92] (State.fresh (put [(LEG_CANk_CFG_EN.f 0, 1), (CM_VALID.f 0 127, 1), (CM_ID.f 0 127, 5),
       (CM_LEN.f 0 127, 2)])), ⟨by decide +kernel, by decide +kernel⟩, by decide +kernel, rfl, by decide +kernel⟩,
   ⟨0, 0, 0, [], put [(LEG_CANk_CFG_EN.f 0, 1), (LEG_CANk_FD_EN.f 0, 0)],
     wakeLegacy [92] (State.fresh (put [(LEG_CANk_CFG_EN.f 0, 1), (LEG_CANk_FD_EN.f 0, 0)])), ⟨by decide +kernel,
       by decide +kernel⟩, by decide +kernel, rfl, by decide +kernel⟩,
   ⟨0, 3, { port := 92, msg := 5, bytes := [], unsent := true, since := 0 },
     { put [(LEG_CANk_CFG_EN.f 0, 1), (CM_VALID.f 0 3, 1), (CM_TX.f 0 3, 1), (CM_ID.f 0 3, 5)] with leg := { up.leg with images := [{ port := 92, msg := 5, bytes := [], unsent := true, since := 0 }] } }, ⟨by decide +kernel, by decide +kernel⟩, by decide +kernel⟩,
   ⟨0, 3, { port := 92, msg := 5, bytes := [], unsent := true, since := 0 },
     { put [(CM_VALID.f 0 3, 1), (CM_TX.f 0 3, 1), (CM_ID.f 0 3, 5)] with leg := { up.leg with images := [{ port := 92, msg := 5, bytes := [], unsent := true, since := 0 }] } }, ⟨by decide +kernel, by decide +kernel⟩, by decide +kernel⟩,
   ⟨0, put [(LEG_CANk_CFG_EN.f 0, 1)], ⟨by decide +kernel, by decide +kernel⟩, by decide +kernel⟩,
   ⟨0, put [(LEG_CANk_CFG_EN.f 0, 1), (LEG_CANk_ESTATE.f 0, 2), (LEG_CANk_AUTO_RECOVER.f 0, 1)], ⟨by decide +kernel,
     by decide +kernel⟩, by decide +kernel⟩,
   ⟨0, 255, put [(LEG_CANk_CFG_EN.f 0, 1), (LEG_CANk_FD_EN.f 0, 0)],
     wakeLegacy [92] (State.fresh (put [(LEG_CANk_CFG_EN.f 0, 1), (LEG_CANk_FD_EN.f 0, 0)])), ⟨by decide +kernel,
       by decide +kernel⟩, by decide +kernel, rfl, by decide +kernel⟩,
   ⟨11, [], put [(LEG_SERs_CFG_EN.f 11, 1), (LEG_SERs_CRC.f 11, 0)],
     wakeLegacy [115] (State.fresh (put [(LEG_SERs_CFG_EN.f 11, 1), (LEG_SERs_CRC.f 11, 0)])), ⟨by decide +kernel,
       by decide +kernel⟩, by decide +kernel, rfl, by decide +kernel⟩,
   ⟨11, [], put [(LEG_SERs_CFG_EN.f 11, 1), (LEG_SERs_CRC.f 11, 0)],
     wakeLegacy [115] (State.fresh (put [(LEG_SERs_CFG_EN.f 11, 1), (LEG_SERs_CRC.f 11, 0)])), ⟨by decide +kernel,
       by decide +kernel⟩, by decide +kernel, rfl, by decide +kernel⟩,
   ⟨11, 63, [1#8], put [(LEG_SERs_CFG_EN.f 11, 1), (LEG_SERs_CRC.f 11, 0), (SE_VALID.f 11 63, 1), (SE_TX.f 11 63, 0),
     (SE_LEN_MAX.f 11 63, 9)], wakeLegacy [115] (State.fresh (put [(LEG_SERs_CFG_EN.f 11, 1), (LEG_SERs_CRC.f 11, 0),
       (SE_VALID.f 11 63, 1), (SE_TX.f 11 63, 0), (SE_LEN_MAX.f 11 63, 9)])), ⟨by decide +kernel, by decide +kernel⟩,
         by decide +kernel, rfl, by decide +kernel⟩,
   ⟨0, { port := 104, entry := 0, bytes := [] }, [],
     { put [(LEG_SERs_CFG_EN.f 0, 1), (LEG_SERs_CRC.f 0, 0), (LEG_SERs_MODE.f 0, 0)] with leg := { up.leg with serial := [{ port := 104, entry := 0, bytes := [] }] } }, ⟨by decide +kernel, by decide +kernel⟩, by decide +kernel⟩,
   ⟨0, put [(LEG_SERs_WAITING.f 0, 1)], ⟨by decide +kernel, by decide +kernel⟩, by decide +kernel⟩,
   ⟨2, 0, 3, 92, 5, LEG_CANk_TMO.f 0, put [(LEG_CANk_CFG_EN.f 0, 1), (CM_VALID.f 0 3, 1), (CM_ID.f 0 3, 5),
     (CM_TMO.f 0 3, 1)], ⟨by decide +kernel, by decide +kernel⟩, by decide +kernel⟩⟩

/-- What `Obligations.BridgeTimersEndWhatWaits` supposes is met. -/
theorem test_meets_bridge_timers_end_what_waits :
  (∃ (s : State), s.Running) ∧
  (∃ (uid : Nat) (n : Nat) (w : BrWait) (s : State), s.Running ∧
    s.rab.waits.find? (fun w => w.originUid == uid && w.epoch != s.rd HST_EPOCH.f) = none ∧
      s.firstWaiting uid (s.rd HST_EPOCH.f) = some (w, n) ∧ n ≠ 0) ∧
  (∃ (port : Nat) (tag : Nat) (r : BrReq) (s : State), s.Running ∧
    s.rab.open_.find? (fun r => cmdPortNum r.via.port == port && r.tag == tag) = some r) ∧
  (∃ (i : Nat) (s : State), s.Running ∧ i ≤ 63 ∧ s.on (RAB_SEMi_HELD.f i) = true) :=
  ⟨⟨up, ⟨by decide +kernel, by decide +kernel⟩⟩,
   ⟨9, 1,
     { origin := 2, originUid := 9, epoch := 0, oseq := 1, posted := false, port := 0, tag := 0, xid := 0, bytes := [] }, { up with rab := { up.rab with waits := [{ origin := 2, originUid := 9, epoch := 0, oseq := 1, posted := false, port := 0, tag := 0, xid := 0, bytes := [] }] } }, ⟨by decide +kernel, by decide +kernel⟩, by decide +kernel⟩,
   ⟨cmdPortNum .ss, 5, reqA, { up with rab := { up.rab with open_ := [reqA] } }, ⟨by decide +kernel, by decide +kernel⟩,
     by decide +kernel⟩,
   ⟨63, put [(RAB_SEMi_HELD.f 63, 1)], ⟨by decide +kernel, by decide +kernel⟩, by decide +kernel⟩⟩

/-- What `Obligations.StepRunsTheFrontCommand` supposes is met. -/
theorem test_meets_step_runs_the_front_command :
  (∃ (c : Instr) (rest : List Instr) (s : State), s.pending = c :: rest) :=
  ⟨.mirrorStale, [], { up with pending := [.mirrorStale] }, by decide +kernel⟩

/-- What `Obligations.IdleStepIsOneClock` supposes is met. -/
theorem test_meets_idle_step_is_one_clock :
  (∃ (s : State), s.pending = []) :=
  ⟨up, by decide +kernel⟩

/-- What `Obligations.WaitingCommandsStayWellFormed` supposes is met. -/
theorem test_meets_waiting_commands_stay_well_formed :
  (∃ (s : State) (t : State), s.queueWf = true ∧ step s = .next t) :=
  ⟨up, { up with clk := up.clk.tick (up.rdS TIM_RATE.f) }, by decide +kernel, rfl⟩

/-- What `Obligations.RegistersReadBackAndKeepTheirForm` supposes is met. -/
theorem test_meets_registers_read_back_and_keep_their_form :
  (∃ (a : List (Nat × Nat)) (b : List (Nat × Nat)), regWf a = true ∧ regWf b = true ∧ (∀ k, regGet k a = regGet k b)) :=
  ⟨[(1, 1)], [(1, 1)], by decide +kernel, by decide +kernel, fun _ => rfl⟩

/-- What `Obligations.CoreResetKeepsOnlyTheNamedFields` supposes is met. -/
theorem test_meets_core_reset_keeps_only_the_named_fields :
  (∃ (ns : Nat) (s : State), 2 ≤ s.sys.power ∧ 10000 ≤ ns) :=
  ⟨10000, up, by decide +kernel⟩

/-- What `Obligations.CommandTakeServesThePathsInTurn` supposes is met. -/
theorem test_meets_command_take_serves_the_paths_in_turn :
  (∃ (p : Packet) (rest : List Packet) (s : State), s.sys.power = 3 ∧ (s.sys.stage = 3 ∨ s.sys.stage = 5) ∧
    s.cmd.waitSS = p :: rest) ∧
  (∃ (c : Instr) (h : CmdHdr) (op : Nat) (params : List Byte) (rest : List Packet) (s : State), s.sys.power = 3 ∧
    (s.sys.stage = 3 ∨ s.sys.stage = 5) ∧ c.spell = some (h, op, params) ∧ c.wf = true ∧ h.via.port = .ha ∧
      s.cmd.waitSS = [] ∧ s.cmd.turn = 0 ∧ s.cmd.waitHA = { via := h.via, bytes := packetBytes h op params } :: rest) ∧
  (∃ (k : Nat) (p : Packet) (rest : List Packet) (s : State), s.sys.power = 3 ∧ (s.sys.stage = 3 ∨ s.sys.stage = 5) ∧
    s.cmd.waitSS = [] ∧ k < 4 ∧ (∀ j < k, s.cmd.waiting ((s.cmd.turn + j) % 4) = []) ∧
      s.cmd.waiting ((s.cmd.turn + k) % 4) = p :: rest) ∧
  (∃ (p : Packet) (rest : List Packet) (r : Reply) (s : State), s.sys.power = 3 ∧ (s.sys.stage = 3 ∨ s.sys.stage = 5) ∧
    s.cmd.waitSS = p :: rest ∧ p.via.port = .ss ∧ s.cachedReply p = some r) :=
  ⟨⟨{ via := viaSS, bytes := zeros 4 }, [],
    { up with cmd := { up.cmd with waitSS := [{ via := viaSS, bytes := zeros 4 }] } }, by decide +kernel⟩,
   ⟨.idRead { hd with via := { hd.via with port := .ha } }, { hd with via := { hd.via with port := .ha } }, 0x0101, [],
     [], { up with cmd := { up.cmd with waitHA := [{ via := { hd.via with port := .ha }, bytes := packetBytes { hd with via := { hd.via with port := .ha } } 0x0101 [] }] } }, by decide +kernel⟩,
   ⟨3, { via := { hd.via with port := .train }, bytes := [] }, [],
     { up with cmd := { up.cmd with waitTrain := [{ via := { hd.via with port := .train }, bytes := [] }] } },
       by decide +kernel⟩,
   ⟨pkEcho, [], rep,
     { up with cmd := { up.cmd with waitSS := [pkEcho], ssCache := [{ seq := 7, opcode := 0x0101, trailer := trailerOf pkEcho, reply := rep }] } }, by decide +kernel⟩⟩

/-- What `Obligations.PacketsDecodeToTheirCommands` supposes is met. -/
theorem test_meets_packets_decode_to_their_commands :
  (∃ (c : Instr) (h : CmdHdr) (op : Nat) (params : List Byte), c.spell = some (h, op, params) ∧ c.wf = true) :=
  ⟨.unitStateRead hd 5, hd, 0x0103, toBE 2 5, by decide +kernel⟩

/-- What `Obligations.ReservedHeaderBitsAreIgnored` supposes is met. -/
theorem test_meets_reserved_header_bits_are_ignored :
  (∃ (a : List Byte) (b : List Byte), packetFault a = none ∧ packetFault b = none ∧ a.length = b.length ∧
    byteAt a 3 % 8 = byteAt b 3 % 8 ∧ slice a 4 13 = slice b 4 13 ∧
      slice a 24 (a.length - 28) = slice b 24 (b.length - 28)) :=
  ⟨packetBytes hd 0x0101 [], pkReserved, by decide +kernel⟩

/-- What `Obligations.FailedPacketsAreEchoedAsReceived` supposes is met. -/
theorem test_meets_failed_packets_are_echoed_as_received :
  (∃ (p : Packet) (st : Nat), packetFault p.bytes = some st ∧ st ≠ stBadOpcode) :=
  ⟨{ via := viaSS, bytes := [1#8, 2#8, 3#8, 4#8, 5#8] }, stBadLength, by decide +kernel⟩

/-- What `Obligations.PacketChecksAnswerTheFirstFailure` supposes is met. -/
theorem test_meets_packet_checks_answer_the_first_failure :
  (∃ (p : Packet) (st : Nat), packetFault p.bytes = some st) ∧
  (∃ (p : Packet), packetFault p.bytes = none) ∧
  (∃ (c : Instr) (h : CmdHdr) (op : Nat) (params : List Byte) (cl : List PrivClass) (s : State), s.sys.power = 3 ∧
    s.sys.stage = 3 ∧ c.spell = some (h, op, params) ∧ opClasses op = some cl ∧
      cl.contains (classOf h.via.port) = false) :=
  ⟨⟨{ via := viaSS, bytes := [] }, stBadLength, by decide +kernel⟩,
   ⟨pkEcho, by decide +kernel⟩,
   ⟨.perfFloor { hd with via := { hd.via with port := .mt } } 0, { hd with via := { hd.via with port := .mt } }, 0x0805,
     [0#8], [PrivClass.safety, .host], up, by decide +kernel⟩⟩

/-- What `Obligations.HeldInResetNothingMoves` supposes is met. -/
theorem test_meets_held_in_reset_nothing_moves :
  (∃ (c : Instr) (s : State), s.sys.power ≠ 3 ∧ c.actsHeld = false) :=
  ⟨.mirrorStale, held, by decide +kernel⟩

/-- What `Obligations.NoSequenceNumberIsDeliveredTwice` supposes is met. -/
theorem test_meets_no_sequence_number_is_delivered_twice :
  (∃ (d : Dup) (d' : Dup) (e : Dup) (a : Nat) (b : Nat) (w : DupVerdict), a < 2 ^ 32 ∧ b < 2 ^ 32 ∧ d.high < 2 ^ 32 ∧
    d.seen < 2 ^ 1024 ∧ d.judge a = (.deliver, d') ∧ d'.judge b = (w, e)) :=
  ⟨{ origin := 1, epoch := 0, high := 5, seen := 1 }, { origin := 1, epoch := 0, high := 7, seen := 5 },
    { origin := 1, epoch := 0, high := 8, seen := 11 }, 7, 8, .deliver, by decide +kernel⟩

/-- What `Obligations.SemaphoresHaveOneOwner` supposes is met. -/
theorem test_meets_semaphores_have_one_owner :
  (∃ (h : CmdHdr) (g : CmdHdr) (i : Nat) (a : Nat) (b : Nat) (s : State), Serves 0x0A01 h s ∧ Serves 0x0A01 g s ∧
    Serves 0x0A02 g s ∧ Serves 0x0A02 h s ∧ i ≤ 63 ∧ 1 ≤ a ∧ a ≤ 60000 ∧ 1 ≤ b ∧ b ≤ 60000 ∧ (s.semOwner h).1 < 2 ^ 64 ∧
      (s.semOwner g).1 < 2 ^ 64 ∧ (s.semOwner h).2 < 2 ^ 8 ∧ (s.semOwner g).2 < 2 ^ 8 ∧ s.semOwner h ≠ s.semOwner g ∧
        s.on (RAB_SEMi_HELD.f i) = false) :=
  ⟨hd, { hd with via := { hd.via with port := .ha } }, 63, 1, 60000, up, serves_of (by decide +kernel),
    serves_of (by decide +kernel), serves_of (by decide +kernel), serves_of (by decide +kernel), by decide +kernel⟩

/-- What `Obligations.CompactTimesCompareByTheirDifference` supposes is met. -/
theorem test_meets_compact_times_compare_by_their_difference :
  (∃ (sa : Nat) (na : Nat) (sb : Nat) (nb : Nat), sa < 2 ^ 34 ∧ sb < 2 ^ 34 ∧ na < 1000000000 ∧ nb < 1000000000) ∧
  (∃ (t : Nat) (u : Nat), t ≤ u + (2 ^ 33 - 1) * 1000000000 ∧ u ≤ t + (2 ^ 33 - 1) * 1000000000) :=
  ⟨⟨2 ^ 34 - 1, 999999999, 0, 0, by decide +kernel⟩,
   ⟨(2 ^ 33 - 1) * 1000000000, 0, by decide +kernel⟩⟩

/-- What `Obligations.EndpointResetStopsItsRings` supposes is met. -/
theorem test_meets_endpoint_reset_stops_its_rings :
  (∃ (s : State), s.sys.power = 3) :=
  ⟨up, by decide +kernel⟩

/-! Packets and check values written out from the spec. -/

/-- R36: the CRC-32C of the ASCII string "123456789" is 0xE306_9283. -/
theorem test_crc : crc32c [0x31, 0x32, 0x33, 0x34, 0x35, 0x36, 0x37, 0x38, 0x39] = 0xE3069283 := by decide +kernel

/-- Table 02-1: `ID_READ`, `SEQ` 7, as it travels. -/
def idReadBytes : List Byte :=
  [0xCE, 0x4E, 0x01, 0x00, 0x01, 0x01, 0x00, 0x07, 0x00, 0x00, 0x00, 0x00, 0x00, 0x00, 0x00, 0x00, 0x00, 0x00, 0x00, 0x00,
   0x00, 0x00, 0x00, 0x00, 0x36, 0x44, 0x44, 0x13]

/-- `SIGNAL_WRITE` of index 42, `POSTED` and `EPOCH_CHECK`, `SEQ` 0x1234, to node 3 under epoch 0x56. -/
def signalWriteBytes : List Byte :=
  [0xCE, 0x4E, 0x01, 0x06, 0x06, 0x02, 0x12, 0x34, 0x00, 0x03, 0x00, 0x56, 0x00, 0x0C, 0x00, 0x00, 0x00, 0x00, 0x00, 0x00,
   0x00, 0x00, 0x00, 0x00, 0x00, 0x00, 0x00, 0x2A, 0x01, 0x23, 0x45, 0x67, 0x89, 0xAB, 0xCD, 0xEF, 0x8F, 0x46, 0x5C, 0xE5]

/-- `FIELD_SAFE_SET` of channel 5: level 1, latched, watchdog 250 ms. -/
def fieldSafeBytes : List Byte :=
  [0xCE, 0x4E, 0x01, 0x00, 0x07, 0x05, 0x00, 0x01, 0x00, 0x00, 0x00, 0x00, 0x00, 0x06, 0x00, 0x00, 0x00, 0x00, 0x00, 0x00,
   0x00, 0x00, 0x00, 0x00, 0x05, 0x81, 0x00, 0x00, 0x00, 0xFA, 0xDE, 0x21, 0x33, 0x3A]

theorem test_packets_spell :
    packetBytes hd 0x0101 [] = idReadBytes ∧
    (Instr.spell (.signalWrite { hd with posted := true, epochCheck := true, seq := 0x1234, target := 3, epoch := 0x56 } 42
      0x0123456789ABCDEF)).map (fun x => packetBytes x.1 x.2.1 x.2.2) = some signalWriteBytes ∧
    (Instr.spell (.fieldSafeSet { hd with seq := 1 } 5 0x81 250)).map (fun x => packetBytes x.1 x.2.1 x.2.2) =
      some fieldSafeBytes := by decide +kernel

theorem test_packets_read :
    packetFault idReadBytes = none ∧ packetFault signalWriteBytes = none ∧ packetFault fieldSafeBytes = none ∧
    headerOf { via := viaSS, bytes := signalWriteBytes } =
      { hd with posted := true, epochCheck := true, seq := 0x1234, target := 3, epoch := 0x56 } ∧
    opcodeOf { via := viaSS, bytes := fieldSafeBytes } = 0x0705 := by decide +kernel

/-- R38: one failed check after the other. -/
theorem test_packet_faults :
    packetFault (idReadBytes.take 27) = some stBadLength ∧
    packetFault ([0xCE, 0x4F] ++ idReadBytes.drop 2) = some stBadVersion ∧
    packetFault (idReadBytes ++ [0]) = some stBadLength ∧
    packetFault (idReadBytes.take 27 ++ [0]) = some stBadCrc := by decide +kernel

/-- The state after some commands. -/
def run : List Instr → State → Option State
  | [], s => some s
  | c :: cs, s => match exec c s with
    | .next t => run cs t
    | _ => none

/-- An `SS` packet is taken, executed and answered with the chip's ID (Table 02-6). -/
theorem test_ss_packet_runs :
    (run [.writePacket idReadBytes, .commandTake] up).map (fun t => t.cmd.ssReplies.map (fun r => (r.status,
      r.data.take 8))) =
      some [(stOk, toBE 8 0x4E474256000000C0)] := by decide +kernel

/-- The table gives no bits, so no word spells a command. -/
theorem test_no_word : decodeTableWord 8 0 = none ∧ State.reset.withFetchWord 8 0 = State.reset := by decide +kernel

/-- From reset, the internal release with a boot record of slot A and a fallback starts the check of slot A. -/
theorem test_release_checks :
    (run [.internalRelease { board with boot := 1 }]
      { held with sto := { held.sto with slotA := image, journal := [{ jrecA with body := [0, 1] }] } }).map
        (fun t => (t.sys.power, t.sys.stage, t.sto.checking)) = some (3, 2, some (0, true)) := by decide +kernel

/-! What single clauses suppose. -/

/-- A staged image that passes every check. -/
def stagedImage : Staging := { slot := 1, length := 160, writes := [(0, image)], bad := false }

/-- A node that has staged it, its commit pending. -/
def committed : State := { committing with sto := { up.sto with staging := some stagedImage } }

theorem test_meets_commit_ends : committed.stagedGood = true ∧
    State.stagedGood { up with sto := { up.sto with staging := some { stagedImage with bad := true } } } = false ∧
    committed.cmd.longs.find? (fun x => x.opcode == 0x0203) = some longC ∧ committed.sys.power = 3 := by
  have h : stagedBytes stagedImage = image := by decide +kernel
  refine ⟨?_, ?_, by decide +kernel, by decide +kernel⟩
  · have e : committed.sto.staging = some stagedImage := rfl
    simp only [State.stagedGood, e, h]
    decide +kernel
  · decide +kernel

theorem test_meets_commit_waits :
    State.stagedGood { committed with pair := { committed.pair with noMram := true } } = true ∧
    committed.pair.noMram = false := ⟨test_meets_commit_ends.1, by decide +kernel⟩

/-- A node in a cycle state whose Pennants were missed, against the number that loses the Lead. -/
def missing (st missed lost : Nat) : State :=
  let s := put [(TCY_STATE.f, st), (TCY_MSG_START_NS.f, 0), (TCY_LEAD_LOST.f, 1)]
  { s with tcy := { s.tcy with missed := missed, lost := lost } }

theorem test_meets_missing_pennants :
    (missing 5 1 3).tcy.missed + 1 < (missing 5 1 3).tcy.lost ∧
      (missing 5 2 3).tcy.lost ≤ (missing 5 2 3).tcy.missed + 1 ∧
    (missing 7 1 3).tcy.missed + 1 < (missing 7 1 3).tcy.lost ∧
      (missing 7 2 3).tcy.lost ≤ (missing 7 2 3).tcy.missed + 1 ∧
    (missing 5 1 3).strikable = false ∧ proposed.strikable = true ∧ proposed.hst.proposal = some someProp ∧
    (∀ s ∈ [missing 5 1 3, missing 5 2 3], s.rd TCY_STATE.f = 5 ∧ s.on TCY_LEAD_LOST.f = true ∧
      s.msgStart ≤ s.clk.now) := by
  decide +kernel

/-- A node of MVB controller 0 with a source port at address 7 whose image has been released, and device address 7. -/
def mvbSource : State :=
  let s := put [(LEG_MVBc_EN_A.f 0, 1), (MP_VALID.f 0 0, 1), (MP_ADDR.f 0 0, 7), (MP_SOURCE.f 0 0, 1),
    (LEG_MVBc_DEVADDR.f 0, 7)]
  { s with leg := { s.leg with images := [{ port := 80, msg := 7, bytes := zeros 2, unsent := true, since := 0 }] } }

theorem test_meets_master_frames :
    (mvbSource.mvbAnswer 0 0 7).isSome = true ∧ mvbSource.mvbAnswer 0 0 8 = none ∧
    7 = mvbSource.rd (LEG_MVBc_DEVADDR.f 0) ∧ mvbSource.gateOpen (mvbSource.mvbGated 0) = true := by decide +kernel

theorem test_meets_clock_and_link_clauses :
    (put [(PWR_LINK_UP.f, 0)]).on PWR_LINK_UP.f = false ∧ (put [(PWR_LINK_UP.f, 1)]).on PWR_LINK_UP.f = true ∧
    State.clockLost { up with sys := { up.sys with refLostA := true } } 0 = true ∧ up.clockLost 0 = false ∧ 8 < spaceEnd ∧
    spaceEnd ≤ spaceEnd ∧ spaceEnd < 2 ^ 64 := by decide +kernel

theorem test_meets_packet_checks :
    (idReadBytes.take 27).length < 28 ∧ 65536 < 65537 ∧
    (28 ≤ idReadBytes.length ∧ idReadBytes.length ≤ 65536 ∧
      (beAt ([0xCE, 0x4F] ++ idReadBytes.drop 2) 0 2 ≠ 0xCE4E ∨ byteAt ([0xCE, 0x4F] ++ idReadBytes.drop 2) 2 ≠ 1)) ∧
    (beAt (idReadBytes ++ [0]) 0 2 = 0xCE4E ∧ byteAt (idReadBytes ++ [0]) 2 = 1 ∧
      24 + beAt (idReadBytes ++ [0]) 12 2 + 4 ≠ (idReadBytes ++ [0]).length) ∧
    fromBE (lastN 4 (idReadBytes.take 27 ++ [0])) ≠ crc32c ((idReadBytes.take 27 ++ [0]).take 24) ∧
    opClasses 0x0106 = none ∧
    (opClasses 0x0805 = some [.safety, .host] ∧ [PrivClass.safety, .host].contains (classOf .mt) = false ∧
      paramLenOk 0x0805 [] = false) ∧
    ([PrivClass.safety, .host].contains (classOf .ha) = true ∧ 128 < 129) ∧
    up.epochOk 7 = false := by decide +kernel

theorem test_meets_single_clauses :
    (endSending 64 (stat 64 46 1 up)).collisions 64 < 15 ∧ up.rd (MAC_n_PLCA_ID.f 64) = 0 ∧
    -42949 ≤ up.rdS TIM_RATE.f ∧ held.sys.power ≠ 3 ∧ up.regsWf = true ∧ GLB_UID.f.key ≠ GLB_ID.f.key ∧
    held.sto.inFlight = none ∧ GLB_UID.f.key ∉ keptFields.map Fld.key ∧ 2 ≤ held.sys.power ∧
    (8 + 2 ^ 32 - 7) % 2 ^ 32 ≤ 2 ^ 31 - 1024 := by decide +kernel

end Sys2Proof.Tests
end

section
/-!
SUPPORT. How bytes are cut and joined: the middle part of joined bytes, a field inside a cut, and that laying down a field
read from bytes gives those bytes back.
-/
namespace Sys2Proof.Proofs
open Sys2Proof Sys2Proof.Machine

/-- A slice that falls exactly on the middle part of joined bytes is that part. -/
theorem slice_append_middle (a b c : List Byte) (o n : Nat) (ho : a.length = o) (hn : b.length = n) :
    slice (a ++ b ++ c) o n = b := by
  subst ho hn
  simp [slice]

theorem slice_length (bs : List Byte) (o n : Nat) (h : o + n ≤ bs.length) : (slice bs o n).length = n := by
  simp only [slice, List.length_take, List.length_drop]
  omega

/-- Adjacent slices join to one. -/
theorem slice_append_slice (bs : List Byte) (o n m : Nat) : slice bs o n ++ slice bs (o + n) m = slice bs o (n + m) := by
  simp only [slice, List.take_add, List.drop_drop]

theorem byteAt_slice (bs : List Byte) (o n i : Nat) (h : i < n) : byteAt (slice bs o n) i = byteAt bs (o + i) := by
  simp only [byteAt, slice, List.getD_eq_getElem?_getD, List.getElem?_take_of_lt h, List.getElem?_drop]

/-- A field that lies within a slice reads the same there. -/
theorem beAt_slice (bs : List Byte) (o n i k : Nat) (h : i + k ≤ n) : beAt (slice bs o n) i k = beAt bs (o + i) k := by
  simp only [beAt, slice, List.drop_take, List.take_take, List.drop_drop, Nat.min_eq_left (show k ≤ n - i by omega)]

/-- Bytes that agree on a slice agree at every place in it. -/
theorem byteAt_eq_of_slice_eq {a b : List Byte} {o n : Nat} (h : slice a o n = slice b o n) {i : Nat} (ho : o ≤ i)
    (hi : i < o + n) : byteAt a i = byteAt b i := by
  have e (c : List Byte) : byteAt (slice c o n) (i - o) = byteAt c i := by
    rw [byteAt_slice _ _ _ _ (by omega), Nat.add_sub_cancel' ho]
  rw [← e a, ← e b, h]

/-- Bytes that agree on a slice agree in every field within it. -/
theorem beAt_eq_of_slice_eq {a b : List Byte} {o n : Nat} (h : slice a o n = slice b o n) {i k : Nat} (ho : o ≤ i)
    (hi : i + k ≤ o + n) : beAt a i k = beAt b i k := by
  have e (c : List Byte) : beAt (slice c o n) (i - o) k = beAt c i k := by
    rw [beAt_slice _ _ _ _ _ (by omega), Nat.add_sub_cancel' ho]
  rw [← e a, ← e b, h]

theorem byteAt_zeros (n i : Nat) : byteAt (zeros n) i = 0 := by
  by_cases h : i < n <;> simp [byteAt, zeros, h]

/-- Bytes brought to a length read as they are within it; zero where they were missing. -/
theorem byteAt_fitBytes (n i : Nat) (bs : List Byte) (h : i < n) : byteAt (fitBytes n bs) i = byteAt bs i := by
  rw [fitBytes, byte_take _ _ _ h]
  rcases Nat.lt_or_ge i bs.length with hi | hi
  · exact byteAt_append_left _ _ _ hi
  · rw [byteAt_append_right _ _ _ hi, byteAt_zeros]
    simp [byteAt, hi]

/-- Bytes that are long enough are only cut. -/
theorem fitBytes_of_le (n : Nat) (bs : List Byte) (h : n ≤ bs.length) : fitBytes n bs = bs.take n := by
  rw [fitBytes, List.take_append_of_le_length h]

theorem toLE_fromLE (bs : List Byte) : toLE bs.length (fromLE bs) = bs := by
  induction bs with
  | nil => rfl
  | cons b bs ih =>
    have hb : (b.toNat + 256 * fromLE bs) / 256 = fromLE bs := by have := b.isLt; omega
    have hlow : BitVec.ofNat 8 (b.toNat + 256 * fromLE bs) = b := by
      apply BitVec.eq_of_toNat_eq
      have := b.isLt
      simp only [BitVec.toNat_ofNat]
      omega
    simp only [List.length_cons, toLE, fromLE, hb, hlow, ih]

theorem toBE_fromBE (bs : List Byte) : toBE bs.length (fromBE bs) = bs := by
  have h := toLE_fromLE bs.reverse
  rw [List.length_reverse] at h
  rw [toBE, fromBE, h, List.reverse_reverse]

/-- Laying down the field read at an offset gives the bytes that stand there. -/
theorem toBE_beAt (bs : List Byte) (o n : Nat) (h : o + n ≤ bs.length) : toBE n (beAt bs o n) = slice bs o n := by
  have e := toBE_fromBE (slice bs o n)
  rwa [slice_length bs o n h] at e

/-- A byte is a field of one byte. -/
theorem byteAt_eq_beAt (bs : List Byte) (o : Nat) (h : o < bs.length) : byteAt bs o = beAt bs o 1 := by
  have e : slice bs o 1 = [bs[o]] := by
    rw [slice, List.drop_eq_getElem_cons h, List.take_succ_cons, List.take_zero]
  simp [beAt, e, byteAt, fromBE, fromLE, h]

end Sys2Proof.Proofs
end

section
/-!
SUPPORT. The bytes of a reply (R37), field by field, and the trailer that packets and replies end with (R36).
-/
namespace Sys2Proof.Proofs
open Sys2Proof Sys2Proof.Machine

theorem take_withTrailer (bs : List Byte) : (withTrailer bs).take ((withTrailer bs).length - 4) = bs := by
  simp [withTrailer]

theorem fromBE_lastN_withTrailer (bs : List Byte) : fromBE (lastN 4 (withTrailer bs)) = crc32c bs := by
  rw [withTrailer, lastN_append _ _ _ (toBE_length 4 _), fromBE_toBE]
  exact Nat.mod_eq_of_lt (crc32c_lt bs)

/-- What `withTrailer` ends holds the CRC-32C of every byte before it. -/
theorem trailer_withTrailer (bs : List Byte) :
    fromBE (lastN 4 (withTrailer bs)) =
      crc32c ((withTrailer bs).take ((withTrailer bs).length - 4)) := by
  rw [take_withTrailer, fromBE_lastN_withTrailer]

/-- Bytes 0 to 3 of a reply: `MAGIC`, `VERSION` and `FLAGS`. -/
def replyFront (r : Reply) : List Byte :=
  toBE 2 0xCE4E ++ [1#8, BitVec.ofNat 8 (1 + 2 * b2n r.posted + 4 * b2n r.epochCheck)]

/-- Bytes 4 to 11 of a reply: `OPCODE`, `SEQ`, `TARGET_NODE` and `TARGET_EPOCH`. -/
def replyRoute (r : Reply) : List Byte := toBE 2 r.opcode ++ toBE 2 r.seq ++ toBE 2 r.target ++ toBE 2 r.epoch

/-- Bytes 14 to 16 of a reply: `ORIGIN_NODE` and `ORIGIN_PORT`. -/
def replyOrigin (r : Reply) : List Byte := toBE 2 r.originNode ++ toBE 1 r.originPort

theorem replyBytes_layout (r : Reply) :
    ∃ rest, replyBytes r =
      replyFront r ++ replyRoute r ++ toBE 2 (r.data.length + 4) ++ replyOrigin r ++ zeros 7 ++ rest := by
  simp only [replyBytes, withTrailer, replyFront, replyRoute, replyOrigin, List.append_assoc]
  exact ⟨_, rfl⟩

@[simp] theorem replyFront_length (r : Reply) : (replyFront r).length = 4 := by simp [replyFront]

@[simp] theorem replyRoute_length (r : Reply) : (replyRoute r).length = 8 := by simp [replyRoute]

@[simp] theorem replyOrigin_length (r : Reply) : (replyOrigin r).length = 3 := by simp [replyOrigin]

theorem slice_replyBytes_route (r : Reply) : slice (replyBytes r) 4 8 = replyRoute r := by
  obtain ⟨rest, e⟩ := replyBytes_layout r
  rw [e, List.append_assoc, List.append_assoc, List.append_assoc]
  exact slice_append_middle _ _ _ _ _ (by simp) (by simp)

/-- The flags byte of a reply: `REPLY`, the two copied flags, and nothing else. -/
theorem byteAt_replyBytes_flags (r : Reply) :
    byteAt (replyBytes r) 3 = 1 + 2 * b2n r.posted + 4 * b2n r.epochCheck := by
  obtain ⟨rest, e⟩ := replyBytes_layout r
  simp only [e, List.append_assoc]
  rw [byteAt_append_left _ _ _ (by simp), replyFront, byteAt_append_right _ _ _ (by simp), toBE_length]
  cases r.posted <;> cases r.epochCheck <;> rfl

theorem slice_replyBytes_origin (r : Reply) : slice (replyBytes r) 14 3 = replyOrigin r := by
  obtain ⟨rest, e⟩ := replyBytes_layout r
  rw [e, List.append_assoc]
  exact slice_append_middle _ _ _ _ _ (by simp) (by simp)

theorem slice_replyBytes_reserved (r : Reply) : slice (replyBytes r) 17 7 = zeros 7 := by
  obtain ⟨rest, e⟩ := replyBytes_layout r
  rw [e]
  exact slice_append_middle _ _ _ _ _ (by simp) (by simp)

end Sys2Proof.Proofs
end

section
/-!
The echo of a reply (R37, R39): a reply to a packet repeats what the packet's header gave.
-/
namespace Sys2Proof.Proofs
open Sys2Proof Sys2Proof.Machine

theorem replyRoute_mkReply (p : Packet) (st : Nat) (d : List Byte) :
    replyRoute (mkReply (headerOf p) (opcodeOf p) st d) = slice (fitBytes 24 p.bytes) 4 8 := by
  have field (o : Nat) (h : o + 2 ≤ 24) : toBE 2 (beAt (fitBytes 24 p.bytes) o 2) = slice (fitBytes 24 p.bytes) o 2 :=
    toBE_beAt _ _ _ (by simpa using h)
  simp only [replyRoute, mkReply, headerOf, opcodeOf]
  rw [field 4 (by omega), field 6 (by omega), field 8 (by omega), field 10 (by omega)]
  iterate 3 rw [slice_append_slice]

theorem replyOrigin_mkReply (p : Packet) (st : Nat) (d : List Byte) :
    replyOrigin (mkReply (headerOf p) (opcodeOf p) st d) = slice (fitBytes 24 p.bytes) 14 3 := by
  simp only [replyOrigin, mkReply, headerOf]
  rw [byteAt_eq_beAt _ _ (by simp), toBE_beAt _ _ _ (by simp), toBE_beAt _ _ _ (by simp), slice_append_slice]

/-- Bits 1 and 2 of a flags byte, put back in their places. -/
theorem flags_copied (x : Nat) : 1 + 2 * b2n (bit x 1) + 4 * b2n (bit x 2) = 1 + x / 2 % 4 * 2 := by
  simp only [b2n, bit, Nat.testBit_eq_decide_div_mod_eq, decide_eq_true_eq]
  split <;> split <;> omega

section
variable (p : Packet) (st : Nat) (d : List Byte)

theorem byteAt_reply_route {i : Nat} (h4 : 4 ≤ i) (h11 : i ≤ 11) :
    byteAt (replyBytes (mkReply (headerOf p) (opcodeOf p) st d)) i = byteAt p.bytes i := by
  have e := (slice_replyBytes_route _).trans (replyRoute_mkReply p st d)
  rw [byteAt_eq_of_slice_eq e h4 (by omega), byteAt_fitBytes _ _ _ (by omega)]

theorem byteAt_reply_origin {i : Nat} (h14 : 14 ≤ i) (h16 : i ≤ 16) :
    byteAt (replyBytes (mkReply (headerOf p) (opcodeOf p) st d)) i = byteAt p.bytes i := by
  have e := (slice_replyBytes_origin _).trans (replyOrigin_mkReply p st d)
  rw [byteAt_eq_of_slice_eq e h14 (by omega), byteAt_fitBytes _ _ _ (by omega)]

theorem byteAt_reply_flags :
    byteAt (replyBytes (mkReply (headerOf p) (opcodeOf p) st d)) 3 = 1 + byteAt p.bytes 3 / 2 % 4 * 2 := by
  rw [byteAt_replyBytes_flags, ← byteAt_fitBytes 24 3 p.bytes (by omega)]
  exact flags_copied _

end

/-- A packet that fails checks 1 to 5 is answered with the failure's status and not executed (R38). -/
theorem runPacket_of_fault {p : Packet} {st : Nat} (h : packetFault p.bytes = some st) (s : State) :
    runPacket p s = deliverReply p.via (mkReply (headerOf p) (opcodeOf p) st []) s := by
  simp only [runPacket, h]

/-- Settles O53: the reply lays down the fields that the header's bytes spell, so each echoed byte comes back as it was
received, and as zero where `fitBytes` filled it in. -/
theorem failedPacketsAreEchoedAsReceived : Obligations.FailedPacketsAreEchoedAsReceived := by
  intro p st s hfault _
  exact ⟨mkReply (headerOf p) (opcodeOf p) st [], runPacket_of_fault hfault s, rfl, rfl,
    fun _ => byteAt_reply_route p st [], fun _ => byteAt_reply_origin p st [], byteAt_reply_flags p st []⟩

end Sys2Proof.Proofs
end

section
/-!
What the node takes from a header (R35): nothing of it rests on the reserved bytes and flag bits.
-/
namespace Sys2Proof.Proofs
open Sys2Proof Sys2Proof.Machine

theorem length_of_packetFault_none {b : List Byte} (h : packetFault b = none) : 28 ≤ b.length := by
  by_contra hlt
  simp [packetFault, show b.length < 28 by omega] at h

/-- The header of a packet long enough to hold one, read from the packet's own bytes. -/
theorem headerOf_of_le (v : Via) {b : List Byte} (h : 24 ≤ b.length) :
    headerOf ⟨v, b⟩ =
      { via := v, posted := bit (byteAt b 3) 1, epochCheck := bit (byteAt b 3) 2, seq := beAt b 6 2, target := beAt b 8 2,
        epoch := beAt b 10 2, originNode := beAt b 14 2, originPort := byteAt b 16 } := by
  simp only [headerOf, fitBytes_of_le 24 b h, be_take _ _ _ _ (show 6 + 2 ≤ 24 by omega),
    be_take _ _ _ _ (show 8 + 2 ≤ 24 by omega), be_take _ _ _ _ (show 10 + 2 ≤ 24 by omega),
    be_take _ _ _ _ (show 14 + 2 ≤ 24 by omega), byte_take _ _ _ (show 3 < 24 by omega),
    byte_take _ _ _ (show 16 < 24 by omega)]

theorem opcodeOf_of_le (v : Via) {b : List Byte} (h : 24 ≤ b.length) : opcodeOf ⟨v, b⟩ = beAt b 4 2 := by
  rw [opcodeOf, fitBytes_of_le 24 b h, be_take _ _ _ _ (by omega)]

/-- The flag bits below 3 are those of the lowest three bits. -/
theorem bit_eq_of_mod_eight_eq {x y : Nat} (h : x % 8 = y % 8) {k : Nat} (hk : k < 3) : bit x k = bit y k := by
  have e (z : Nat) : (z % 2 ^ 3).testBit k = z.testBit k := by
    rw [Nat.testBit_mod_two_pow, decide_eq_true hk, Bool.true_and]
  rw [bit, bit, ← e x, ← e y]
  exact congrArg (Nat.testBit · k) h

section
variable (v : Via) {a b : List Byte} (ha : 24 ≤ a.length) (hb : 24 ≤ b.length) (hs : slice a 4 13 = slice b 4 13)
include ha hb hs

theorem headerOf_eq_of_reserved (hflags : byteAt a 3 % 8 = byteAt b 3 % 8) : headerOf ⟨v, a⟩ = headerOf ⟨v, b⟩ := by
  rw [headerOf_of_le v ha, headerOf_of_le v hb, bit_eq_of_mod_eight_eq hflags (k := 1) (by omega),
    bit_eq_of_mod_eight_eq hflags (k := 2) (by omega), beAt_eq_of_slice_eq hs (i := 6) (by omega) (by omega),
    beAt_eq_of_slice_eq hs (i := 8) (by omega) (by omega), beAt_eq_of_slice_eq hs (i := 10) (by omega) (by omega),
    beAt_eq_of_slice_eq hs (i := 14) (by omega) (by omega), byteAt_eq_of_slice_eq hs (i := 16) (by omega) (by omega)]

theorem opcodeOf_eq_of_reserved : opcodeOf ⟨v, a⟩ = opcodeOf ⟨v, b⟩ := by
  rw [opcodeOf_of_le v ha, opcodeOf_of_le v hb, beAt_eq_of_slice_eq hs (by omega) (by omega)]

end

/-- What a packet that passes checks 1 to 5 does is settled by its header, opcode and parameters. -/
theorem runPacket_eq_of_decode_eq {p q : Packet} (hp : packetFault p.bytes = none) (hq : packetFault q.bytes = none)
    (hh : headerOf p = headerOf q) (ho : opcodeOf p = opcodeOf q)
    (hpar : slice p.bytes 24 (p.bytes.length - 28) = slice q.bytes 24 (q.bytes.length - 28)) :
    runPacket p = runPacket q := by
  funext s
  simp only [runPacket, hp, hq, hh, ho, hpar]

/-- Settles O52: the header, the opcode and the parameters are read from other places than the reserved ones, and they settle
the effect; the reply's layout gives its reserved bits and bytes. -/
theorem reservedHeaderBitsAreIgnored : Obligations.ReservedHeaderBitsAreIgnored := by
  refine ⟨fun v a b s ha hb _ hflags hs hpar => ?_, fun r => ⟨?_, slice_replyBytes_reserved r⟩⟩
  · have la : 24 ≤ a.length := by have := length_of_packetFault_none ha; omega
    have lb : 24 ≤ b.length := by have := length_of_packetFault_none hb; omega
    exact congrFun (runPacket_eq_of_decode_eq ha hb (headerOf_eq_of_reserved v la lb hs hflags)
      (opcodeOf_eq_of_reserved v la lb hs) hpar) s
  · rw [byteAt_replyBytes_flags]
    cases r.posted <;> cases r.epochCheck <;> decide

end Sys2Proof.Proofs
end

section
/-!
The CRC-32C of packets (R36): the model's check value, computed byte by byte, is the register that takes the message bit by
bit, the least significant bit of each byte first.
-/
namespace Sys2Proof.Proofs
open Sys2Proof Sys2Proof.Machine Sys2Proof.Claims

/-- Shifting the register with the waiting bits of `x` mixed in takes the lowest of them and leaves the others waiting. -/
theorem crcReflBit_xor (c x : Nat) : crcReflBit 0x82F63B78 (c ^^^ x) = crcBit c (x.testBit 0) ^^^ x / 2 := by
  have hlow : (c ^^^ x) % 2 = 1 ↔ (c.testBit 0 != x.testBit 0) = true := by
    rw [show (c.testBit 0 != x.testBit 0) = (c ^^^ x).testBit 0 from (Nat.testBit_xor ..).symm, Nat.testBit_zero,
      decide_eq_true_eq]
  have hshift : (c ^^^ x) / 2 = c / 2 ^^^ x / 2 := Nat.xor_div_two
  simp only [crcReflBit, crcBit, hlow, hshift]
  split
  · rw [Nat.xor_assoc, Nat.xor_comm (x / 2), Nat.xor_assoc]
  · rfl

/-- After `n` shifts the lowest `n` bits of `x` have passed and the rest waits. -/
theorem repeat_crcReflBit_xor (c x n : Nat) :
    Nat.repeat (crcReflBit 0x82F63B78) n (c ^^^ x) =
      ((List.range n).map (fun i => x.testBit i)).foldl crcBit c ^^^ x / 2 ^ n := by
  induction n with
  | zero => simp [Nat.repeat]
  | succ n ih =>
    have hbit : (x / 2 ^ n).testBit 0 = x.testBit n := by rw [Nat.testBit_div_two_pow, Nat.zero_add]
    rw [Nat.repeat, ih, crcReflBit_xor, hbit, Nat.div_div_eq_div_mul, ← Nat.pow_succ, List.range_succ, List.map_append,
      List.foldl_append]
    rfl

theorem crcReflByte_eq_foldl_crcBit :
    crcReflByte 0x82F63B78 = fun c b => ((List.range 8).map (fun i => b.toNat.testBit i)).foldl crcBit c := by
  funext c b
  rw [crcReflByte, repeat_crcReflBit_xor, Nat.div_eq_of_lt b.isLt, Nat.xor_zero]

theorem crc32c_eq_foldl_crcBit (bs : List Byte) :
    crc32c bs = (messageBits bs).foldl crcBit 0xFFFFFFFF ^^^ 0xFFFFFFFF := by
  rw [crc32c, crcRefl, messageBits, List.foldl_flatMap, crcReflByte_eq_foldl_crcBit]

/-- Settles O60: the bit-serial form of the CRC, and the trailer that `withTrailer` lays down after packets and replies. -/
theorem trailersHoldTheCrcOfTheBytesBefore : Obligations.TrailersHoldTheCrcOfTheBytesBefore :=
  ⟨by decide, crc32c_eq_foldl_crcBit, by decide +kernel, fun _ _ _ => trailer_withTrailer _,
    fun _ => trailer_withTrailer _⟩

end Sys2Proof.Proofs
end

section
/-!
Packets decode to their commands (Table 02-6): each operand that a command lays down in its parameters reads back as it was, so
the opcode's meaning of those bytes is the command's.
-/
namespace Sys2Proof.Proofs
open Sys2Proof Sys2Proof.Machine

@[simp] theorem beAt_toBE_append_of_lt {n v : Nat} (b : List Byte) (h : v < 256 ^ n) : beAt (toBE n v ++ b) 0 n = v := by
  rw [beAt_toBE_append, Nat.mod_eq_of_lt h]

@[simp] theorem beAt_toBE_of_lt {n v : Nat} (h : v < 256 ^ n) : beAt (toBE n v) 0 n = v := by
  rw [beAt_toBE, Nat.mod_eq_of_lt h]

@[simp] theorem beAt_skip_toBE {m o : Nat} (v : Nat) (b : List Byte) (n : Nat) (h : m ≤ o) :
    beAt (toBE m v ++ b) o n = beAt b (o - m) n := by
  rw [beAt_append_right _ _ _ _ (by simpa using h), toBE_length]

@[simp] theorem byteAt_toBE_append_of_lt {v : Nat} (b : List Byte) (h : v < 256) : byteAt (toBE 1 v ++ b) 0 = v := by
  rw [byteAt_append_left _ _ _ (by simp), byteAt_toBE1, Nat.mod_eq_of_lt h]

@[simp] theorem byteAt_toBE_of_lt {v : Nat} (h : v < 256) : byteAt (toBE 1 v) 0 = v := by
  rw [byteAt_toBE1, Nat.mod_eq_of_lt h]

@[simp] theorem byteAt_skip_toBE {m o : Nat} (v : Nat) (b : List Byte) (h : m ≤ o) :
    byteAt (toBE m v ++ b) o = byteAt b (o - m) := by
  rw [byteAt_append_right _ _ _ (by simpa using h), toBE_length]

/-- The parameters of an opcode fit a packet, pass check 8 and decode to a meaning that is the command's. -/
def Decodes (c : Instr) (h : CmdHdr) (op : Nat) (p : List Byte) : Prop :=
  p.length ≤ 65508 ∧ paramLenOk op p = true ∧ ∃ f, commandOf op h p = some f ∧ ∀ s, exec c s = act (whenServing f) s



/-- A field of the `i`th of several records of one width that lie one after another. -/
theorem beAt_flatMap {α : Type} (f : α → List Byte) {w : Nat} (hf : ∀ x, (f x).length = w) {j n : Nat} (hj : j + n ≤ w)
    (xs : List α) {i o : Nat} (hi : i < xs.length) (ho : o = w * i + j) : beAt (xs.flatMap f) o n = beAt (f xs[i]) j n := by
  subst ho
  induction xs generalizing i with
  | nil => simp at hi
  | cons x xs ih =>
    rw [List.flatMap_cons]
    cases i with
    | zero => rw [Nat.mul_zero, Nat.zero_add, beAt_append_left _ _ _ _ (by rw [hf]; exact hj), List.getElem_cons_zero]
    | succ i =>
      have hstep : w * (i + 1) + j - w = w * i + j := by rw [Nat.mul_succ]; omega
      rw [beAt_append_right _ _ _ _ (by rw [hf, Nat.mul_succ]; omega), hf, hstep,
        ih (Nat.lt_of_succ_lt_succ hi), List.getElem_cons_succ]

theorem length_flatMap_of_const {α : Type} (f : α → List Byte) {w : Nat} (hf : ∀ x, (f x).length = w) (xs : List α) :
    (xs.flatMap f).length = w * xs.length := by
  rw [List.length_flatMap, show (fun x => (f x).length) = fun _ => w from funext hf, List.map_const', List.sum_replicate,
    smul_eq_mul, Nat.mul_comm]

/-- Units laid down in two bytes each read back as they were. -/
theorem map_beAt_units {units : List Nat} (hu : ∀ u ∈ units, u < 256 ^ 2) :
    (List.range units.length).map (fun k => beAt (units.flatMap (toBE 2)) (2 * k) 2) = units := by
  refine List.ext_getElem (by simp) fun i hi hi' => ?_
  rw [List.getElem_map, List.getElem_range,
    beAt_flatMap (toBE 2) (toBE_length 2) (j := 0) (by omega) units hi' (o := 2 * i) rfl,
    beAt_toBE_of_lt (hu _ (List.getElem_mem hi'))]

theorem beAt_wordCount {n : Nat} (hn : n < 256 ^ 2) (offset : Nat) (b : List Byte) :
    beAt (toBE 4 offset ++ toBE 2 n ++ zeros 2 ++ b) 4 2 = n := by
  simp only [List.append_assoc]
  rw [beAt_skip_toBE _ _ _ (by omega), beAt_toBE_append_of_lt _ hn]

/-- The pairs of value and mask of a `PARAM_WRITE` read back as they were. -/
theorem writePairs_spelled {words : List (Nat × Nat)} (hw : ∀ w ∈ words, w.1 < 256 ^ 8 ∧ w.2 < 256 ^ 8)
    (hn : words.length < 256 ^ 2) (offset : Nat) :
    writePairs (toBE 4 offset ++ toBE 2 words.length ++ zeros 2 ++
      words.flatMap (fun w => toBE 8 w.1 ++ toBE 8 w.2)) = words := by
  have hfront : (toBE 4 offset ++ toBE 2 words.length ++ zeros 2).length = 8 := by simp
  rw [writePairs, beAt_wordCount hn]
  refine List.ext_getElem (by simp) fun i hi hi' => ?_
  obtain ⟨hv, hm⟩ := hw _ (List.getElem_mem hi')
  rw [List.getElem_map, List.getElem_range, beAt_append_right _ _ _ _ (by omega), hfront,
    beAt_append_right _ _ _ _ (by omega), hfront, Nat.add_sub_cancel_left,
    beAt_flatMap _ (w := 16) (by simp) (j := 0) (by omega) words hi' (o := 16 * i) rfl,
    beAt_flatMap _ (w := 16) (by simp) (j := 8) (by omega) words hi' (o := 16 + 16 * i - 8) (by omega),
    beAt_toBE_append_of_lt _ hv, beAt_skip_toBE _ _ _ (by omega), beAt_toBE_of_lt hm]

theorem map_toNat_ofNat {channels : List Nat} (hc : ∀ c ∈ channels, c < 256) :
    (channels.map (fun c => BitVec.ofNat 8 c)).map (fun x => x.toNat) = channels := by
  rw [List.map_map]
  exact (List.map_congr_left fun c h => Nat.mod_eq_of_lt (hc c h)).trans (List.map_id' channels)

@[simp] theorem drop_skip_toBE {m k : Nat} (v : Nat) (b : List Byte) (h : m ≤ k) :
    (toBE m v ++ b).drop k = b.drop (k - m) := by
  rw [List.drop_append, List.drop_of_length_le (by simpa using h), List.nil_append, toBE_length]

@[simp] theorem slice_skip_toBE {m o : Nat} (v : Nat) (b : List Byte) (n : Nat) (h : m ≤ o) :
    slice (toBE m v ++ b) o n = slice b (o - m) n := by
  rw [slice_append_right _ _ _ _ (by simpa using h), toBE_length]

theorem decodes_of_spell {c : Instr} {h : CmdHdr} {op : Nat} {p : List Byte} (e : c.spell = some (h, op, p))
    (w : c.wf = true) : Decodes c h op p := by
  cases c <;> cases e <;>
    simp only [Instr.wf, Bool.and_eq_true, decide_eq_true_eq, beq_iff_eq, List.all_eq_true, Nat.reducePow] at w
  case echo => exact ⟨by omega, by simp [paramLenOk, w], _, rfl, fun _ => rfl⟩
  case eventAdd => exact ⟨by omega, by simp [paramLenOk, w], _, rfl, fun _ => rfl⟩
  case paramWrite offset words =>
    obtain ⟨⟨⟨-, ho⟩, hn⟩, hw⟩ := w
    have hlen := length_flatMap_of_const (fun w : Nat × Nat => toBE 8 w.1 ++ toBE 8 w.2) (w := 16) (by simp) words
    rw [← List.flatMap_def]
    refine ⟨by simp [hlen]; omega, ?_, _, ?_, fun _ => rfl⟩
    · simp only [paramLenOk, beAt_wordCount (n := words.length) (by omega)]
      simp [hlen]; omega
    · simp only [commandOf, runLow, if_true, Nat.reduceLT, writePairs_spelled hw (by omega) offset]
      simp [ho]
  case refPriority units =>
    obtain ⟨⟨-, hn⟩, hu⟩ := w
    have hlen := length_flatMap_of_const (toBE 2) (w := 2) (by simp) units
    refine ⟨by simp [hlen]; omega, by simp [paramLenOk, hlen, hn], _, ?_, fun _ => rfl⟩
    simp [commandOf, runLow, hn, map_beAt_units hu]
  case guardedSet channels =>
    obtain ⟨⟨-, hn⟩, hc⟩ := w
    refine ⟨by simp; omega, by simp [paramLenOk, hn], _, ?_, fun _ => rfl⟩
    simp only [commandOf, runField]
    simp [map_toNat_ofNat hc]
  case wakePatternSet mac pattern mask crc =>
    obtain ⟨⟨⟨⟨-, hmac⟩, hpat⟩, hmask⟩, hcrc⟩ := w
    have hs : slice mask 0 16 = mask := hmask ▸ slice_zero_self mask
    rw [fitBytes_of_le 16 mask (by omega), List.take_of_length_le (by omega)]
    refine ⟨by simp; omega, by simp [paramLenOk, hmask], _, ?_, fun _ => rfl⟩
    simp [commandOf, runHigh, hmac, hpat, hcrc, beAt_append_right, slice_append_left, hmask, hs]
  all_goals
    refine ⟨?_, ?_, _, ?_, fun _ => rfl⟩
    · simp <;> omega
    · simp [paramLenOk] <;> omega
    · simp [commandOf, runLow, runMid, runField, runHigh, w]

theorem header_wf_of_spell {c : Instr} {h : CmdHdr} {op : Nat} {p : List Byte} (e : c.spell = some (h, op, p))
    (w : c.wf = true) : h.wf = true := by
  cases c <;> cases e <;> simp only [Instr.wf, Bool.and_eq_true] at w <;> simp only [w]

theorem opcode_lt_of_spell {c : Instr} {h : CmdHdr} {op : Nat} {p : List Byte} (e : c.spell = some (h, op, p)) :
    op < 65536 := by
  cases c <;> cases e <;> decide

/-- Settles O51: the bytes of a spelled command are a packet of its header, opcode and parameters, and the parameters decode to
its operands, command by command. -/
theorem packetsDecodeToTheirCommands : Obligations.PacketsDecodeToTheirCommands := by
  intro c h op p s e w
  obtain ⟨hlen, hok, f, hf, hexec⟩ := decodes_of_spell e w
  have hw := header_wf_of_spell e w
  refine ⟨packet_fault h op p hlen, hok, packet_header h op p hw, ?_⟩
  rw [run_packet h op p hw (opcode_lt_of_spell e) hlen hok f hf, hexec]

end Sys2Proof.Proofs
end

section
/-!
The step (log entries 1 and 2): it runs the front command or one clock, every command completes and leaves the queue, and so no
run stops.
-/
namespace Sys2Proof.Proofs
open Sys2Proof Sys2Proof.Machine

/-- Every meaning is `act` over a function of the state, which answers a next state and puts the queue back. -/
theorem exec_completes (c : Instr) (s : State) : ∃ t, exec c s = .next t ∧ t.pending = s.pending := by
  cases c <;> exact ⟨_, rfl, rfl⟩

/-- Settles O45. -/
theorem commandsCompleteAndLeaveTheQueue : Obligations.CommandsCompleteAndLeaveTheQueue :=
  exec_completes

theorem step_of_pending_nil {s : State} (h : s.pending = []) : step s = .next (tick s) := by
  simp only [step, h]

theorem step_of_pending_cons {s : State} {c : Instr} {rest : List Instr} (h : s.pending = c :: rest) :
    step s = exec c { s with pending := rest } := by
  simp only [step, h]

/-- Settles O43. -/
theorem stepRunsTheFrontCommand : Obligations.StepRunsTheFrontCommand :=
  fun _ _ _ => step_of_pending_cons

theorem tick_of_released {s : State} (h : s.sys.power = 3) :
    tick s = { s with clk := s.clk.tick (s.rdS TIM_RATE.f), out := [] } := if_pos h

theorem tick_of_not_released {s : State} (h : s.sys.power ≠ 3) : tick s = { s with out := [] } := if_neg h

/-- One clock adds 1 ns and the rate to the time in 2^-32 ns, modulo 2^48 s. -/
theorem Clock_tick_time (c : Clock) {rate : Int} (h : -42949 ≤ rate) :
    ((c.tick rate).now : Int) * 2 ^ 32 + (c.tick rate).frac =
      ((c.now : Int) * 2 ^ 32 + c.frac + 2 ^ 32 + rate) % (2 ^ 48 * 1000000000 * 2 ^ 32) := by
  simp only [Clock.tick]
  omega

/-- Settles O44. -/
theorem idleStepIsOneClock : Obligations.IdleStepIsOneClock := by
  intro s hnil
  have hstep := step_of_pending_nil hnil
  refine ⟨fun h => by rw [hstep, tick_of_released h], fun h => by rw [hstep, tick_of_not_released h], fun hrate => ?_⟩
  refine ⟨Clock_tick_time s.clk hrate, Nat.mod_lt _ (by decide), rfl, ?_⟩
  simp only [Clock.tick]
  omega

@[simp] theorem tick_pending (s : State) : (tick s).pending = s.pending := by
  unfold tick; split <;> rfl

/-- A step answers a next state whose queue is the rest of the queue. -/
theorem step_completes (s : State) : ∃ t, step s = .next t ∧ t.pending = s.pending.tail := by
  cases h : s.pending with
  | nil => exact ⟨tick s, step_of_pending_nil h, by rw [tick_pending, h]; rfl⟩
  | cons c rest =>
    obtain ⟨t, ht, hp⟩ := exec_completes c { s with pending := rest }
    exact ⟨t, (step_of_pending_cons h).trans ht, hp⟩

theorem runsFor_all (k : Nat) : ∀ s : State, s.runsFor k := by
  induction k with
  | zero => exact fun _ => trivial
  | succ k ih =>
    intro s
    obtain ⟨t, ht, -⟩ := step_completes s
    exact ⟨t, ht, ih t⟩

/-- Settles O47: a step leaves the tail of the queue. -/
theorem waitingCommandsStayWellFormed : Obligations.WaitingCommandsStayWellFormed := by
  refine ⟨fun s t hwf ht => ?_, fun s k => runsFor_all k s⟩
  obtain ⟨t', ht', hp⟩ := step_completes s
  obtain rfl : t = t' := Host.Outcome.next.inj (ht.symm.trans ht')
  refine ⟨?_, by rw [hp, List.length_tail]; omega⟩
  rw [State.queueWf, List.all_eq_true] at hwf ⊢
  exact fun c hc => hwf c (List.mem_of_mem_tail (hp ▸ hc))

end Sys2Proof.Proofs
end

section
/-!
The register file: what a count reads, and that a canonical file is its readings.
-/
namespace Sys2Proof.Proofs
open Sys2Proof Sys2Proof.Machine

theorem rd_incBy (s : State) (f : Fld) (n : Nat) : (s.incBy f n).rd f = Nat.min (s.rd f + n) (2 ^ f.width - 1) := by
  have h : 0 < 2 ^ f.width := Nat.two_pow_pos _
  rw [State.incBy, State.rd_wr_same]
  exact Nat.mod_eq_of_lt (Nat.lt_of_le_of_lt (Nat.min_le_right _ _) (by omega))

theorem regGet_eq_zero_of_lt {k : Nat} : ∀ {n : Nat} {l : List (Nat × Nat)}, regWfFrom n l = true → k < n → regGet k l = 0
  | _, [], _, _ => rfl
  | n, (a, v) :: l, h, hk => by
    simp only [regWfFrom, Bool.and_eq_true, decide_eq_true_eq] at h
    obtain ⟨⟨hna, -⟩, hl⟩ := h
    rw [regGet, if_neg (by omega)]
    exact regGet_eq_zero_of_lt hl (by omega)

/-- The first key of a canonical file reads its difference, which is not 0. -/
theorem regGet_head_ne_zero {n a v : Nat} {l : List (Nat × Nat)} (h : regWfFrom n ((a, v) :: l) = true) :
    regGet a ((a, v) :: l) = v ∧ v ≠ 0 := by
  simp only [regWfFrom, Bool.and_eq_true, bne_iff_ne] at h
  exact ⟨by rw [regGet, if_pos rfl], h.1.2⟩

/-- Two canonical files whose keys lie above `n` and which read alike are equal. -/
theorem regs_ext : ∀ {n m : Nat} {a b : List (Nat × Nat)}, regWfFrom n a = true → regWfFrom m b = true →
    (∀ k, regGet k a = regGet k b) → a = b
  | _, _, [], [], _, _, _ => rfl
  | _, _, [], (k, v) :: b, _, hb, h => by
    obtain ⟨hv, hne⟩ := regGet_head_ne_zero hb
    exact absurd (hv.symm.trans (h k).symm) hne
  | _, _, (k, v) :: a, [], ha, _, h => by
    obtain ⟨hv, hne⟩ := regGet_head_ne_zero ha
    exact absurd (hv.symm.trans (h k)) hne
  | _, _, (j, u) :: a, (k, v) :: b, ha, hb, h => by
    obtain ⟨hu, hu0⟩ := regGet_head_ne_zero ha
    obtain ⟨hv, hv0⟩ := regGet_head_ne_zero hb
    simp only [regWfFrom, Bool.and_eq_true] at ha hb
    have hjk : j = k := by
      rcases Nat.lt_trichotomy j k with hlt | heq | hlt
      · have hz : regGet j ((k, v) :: b) = 0 := by
          rw [regGet, if_neg (by omega), regGet_eq_zero_of_lt hb.2 (by omega)]
        exact absurd (hu.symm.trans ((h j).trans hz)) hu0
      · exact heq
      · have hz : regGet k ((j, u) :: a) = 0 := by
          rw [regGet, if_neg (by omega), regGet_eq_zero_of_lt ha.2 (by omega)]
        exact absurd (hv.symm.trans ((h k).symm.trans hz)) hv0
    subst hjk
    obtain rfl : u = v := hu.symm.trans ((h j).trans hv)
    refine congrArg ((j, u) :: ·) (regs_ext ha.2 hb.2 fun x => ?_)
    by_cases hx : x ≤ j
    · rw [regGet_eq_zero_of_lt ha.2 (by omega), regGet_eq_zero_of_lt hb.2 (by omega)]
    · have hx' := h x
      rwa [regGet, if_neg (by omega), regGet, if_neg (by omega)] at hx'

/-- Settles O48. -/
theorem registersReadBackAndKeepTheirForm : Obligations.RegistersReadBackAndKeepTheirForm :=
  ⟨fun s f _ v => ⟨State.rd_wr_same s f v, State.rd_wr_other s v, State.wr_regWf s f v⟩, rd_incBy,
    fun _ _ ha hb h => regs_ext ha hb h⟩

end Sys2Proof.Proofs
end

section
/-!
Duplicate discard (R82): the window of one key, its form, and what it remembers of a number.
-/
namespace Sys2Proof.Proofs
open Sys2Proof Sys2Proof.Machine

/-- Adding a power of two to a number whose bit there is clear sets that bit and leaves every other bit. -/
theorem testBit_add_two_pow {v n : Nat} (h : v.testBit n = false) (j : Nat) :
    (v + 2 ^ n).testBit j = (decide (j = n) || v.testBit j) := by
  have hlow : v % 2 ^ (n + 1) < 2 ^ n := by
    have := Nat.mod_pow_succ (x := v) (b := 2) (k := n)
    rw [Nat.testBit_eq_decide_div_mod_eq, decide_eq_false_iff_not] at h
    have hz : v / 2 ^ n % 2 = 0 := by omega
    rw [this, hz, Nat.mul_zero, Nat.add_zero]
    exact Nat.mod_lt _ (Nat.two_pow_pos n)
  have hpow : 2 ^ (n + 1) = 2 ^ n + 2 ^ n := by rw [Nat.pow_succ]; omega
  have hv := Nat.div_add_mod v (2 ^ (n + 1))
  rcases Nat.lt_trichotomy j n with hj | hj | hj
  · rw [Nat.add_comm, Nat.testBit_two_pow_add_gt hj, decide_eq_false (by omega), Bool.false_or]
  · rw [hj, Nat.add_comm, Nat.testBit_two_pow_add_eq, h, decide_eq_true rfl]; rfl
  · have hsum : v + 2 ^ n = 2 ^ (n + 1) * (v / 2 ^ (n + 1)) + (v % 2 ^ (n + 1) + 2 ^ n) := by omega
    rw [hsum, Nat.testBit_two_pow_mul_add _ (by omega), if_neg (by omega), decide_eq_false (by omega), Bool.false_or]
    conv_rhs => rw [← hv, Nat.testBit_two_pow_mul_add _ (by omega), if_neg (by omega)]

theorem setBit_true_of_clear {v n : Nat} (h : v.testBit n = false) : setBit v n true = v + 2 ^ n := by
  have hz : bits v n 1 = 0 := by
    rw [Nat.testBit_eq_decide_div_mod_eq, decide_eq_false_iff_not] at h
    rw [bits]; omega
  simp [setBit, setBits, hz, b2n]

/-- How far a number is ahead of the window's highest, modulo 2^32. -/
def ahead (d : Dup) (a : Nat) : Nat := (a + 2 ^ 32 - d.high) % 2 ^ 32

/-- How far a number is behind the window's highest, modulo 2^32. -/
def behind (d : Dup) (a : Nat) : Nat := (d.high + 2 ^ 32 - a) % 2 ^ 32

/-- The window remembers that a number was delivered. -/
def Remembers (d : Dup) (a : Nat) : Prop := behind d a ≤ 1023 ∧ d.seen.testBit (behind d a) = true

/-- The form of a window: a sequence number, and one bit for each of the last 1,024. -/
def InForm (d : Dup) : Prop := d.high < 2 ^ 32 ∧ d.seen < 2 ^ 1024

/-- The window after a number that lies ahead of it. -/
def advanced (d : Dup) (a : Nat) : Dup :=
  { d with high := a, seen := if ahead d a < 1024 then (d.seen * 2 ^ ahead d a + 1) % 2 ^ 1024 else 1 }

/-- The window after a number that fills a gap in it. -/
def filled (d : Dup) (a : Nat) : Dup := { d with seen := d.seen + 2 ^ behind d a }

/-- The ways of judging a number: it lies ahead, it was delivered, it fills a gap, or it is too old. -/
theorem judge_cases (d : Dup) (a : Nat) :
    (1 ≤ ahead d a ∧ ahead d a < 2 ^ 31 ∧ d.judge a = (.deliver, advanced d a)) ∨
    (¬(1 ≤ ahead d a ∧ ahead d a < 2 ^ 31) ∧ Remembers d a ∧ d.judge a = (.duplicate, d)) ∨
    (¬(1 ≤ ahead d a ∧ ahead d a < 2 ^ 31) ∧ behind d a ≤ 1023 ∧ d.seen.testBit (behind d a) = false ∧
      d.judge a = (.deliver, filled d a)) ∨
    (¬(1 ≤ ahead d a ∧ ahead d a < 2 ^ 31) ∧ 1023 < behind d a ∧ d.judge a = (.stale, d)) := by
  unfold Dup.judge
  simp only [Bool.and_eq_true, decide_eq_true_eq]
  split
  case isTrue h => exact .inl ⟨h.1, h.2, rfl⟩
  case isFalse h =>
    split
    case isFalse hb => exact .inr (.inr (.inr ⟨h, Nat.not_le.mp hb, rfl⟩))
    case isTrue hb =>
      split
      case isTrue hbit => exact .inr (.inl ⟨h, ⟨hb, hbit⟩, rfl⟩)
      case isFalse hbit =>
        have hclear := Bool.not_eq_true _ ▸ hbit
        exact .inr (.inr (.inl ⟨h, hb, hclear, by rw [setBit_true_of_clear hclear]; rfl⟩))

theorem not_ahead_of_remembers {d : Dup} {a : Nat} (h : Remembers d a) (hd : d.high < 2 ^ 32) (ha : a < 2 ^ 32) :
    ¬(1 ≤ ahead d a ∧ ahead d a < 2 ^ 31) := by
  have hb := h.1
  rw [behind] at hb
  rw [ahead]; omega

theorem judge_of_remembers {d : Dup} {a : Nat} (h : Remembers d a) (hd : d.high < 2 ^ 32) (ha : a < 2 ^ 32) :
    d.judge a = (.duplicate, d) := by
  have hna := not_ahead_of_remembers h hd ha
  rcases judge_cases d a with ⟨h1, h2, -⟩ | ⟨-, -, e⟩ | ⟨-, -, hclear, -⟩ | ⟨-, hfar, -⟩
  · exact absurd ⟨h1, h2⟩ hna
  · exact e
  · exact absurd h.2 (by rw [hclear]; decide)
  · exact absurd h.1 (by omega)

/-- A number that lies more than 1,023 behind, but not ahead, is not delivered. -/
theorem judge_of_far_behind {d : Dup} {a : Nat} (h : 1023 < behind d a) (h' : ¬(1 ≤ ahead d a ∧ ahead d a < 2 ^ 31)) :
    (d.judge a).1 ≠ .deliver := by
  rcases judge_cases d a with ⟨h1, h2, -⟩ | ⟨-, ⟨hnear, -⟩, -⟩ | ⟨-, hnear, -, -⟩ | ⟨-, -, e⟩
  · exact absurd ⟨h1, h2⟩ h'
  · omega
  · omega
  · rw [e]; exact nofun

/-- The bits of a window of `n` numbers shifted by a number that lies ahead. -/
theorem testBit_shift_succ (x n i : Nat) {k : Nat} (hk : 1 ≤ k) :
    ((x * 2 ^ k + 1) % 2 ^ n).testBit i = (decide (i < n) && if i < k then decide (i = 0) else x.testBit (i - k)) := by
  have hone : Nat.testBit 1 i = decide (i = 0) := by
    rw [Bool.eq_iff_iff, decide_eq_true_iff]; exact Nat.testBit_one_eq_true_iff_self_eq_zero
  rw [Nat.testBit_mod_two_pow, Nat.mul_comm, Nat.testBit_two_pow_mul_add _ (Nat.one_lt_two_pow (by omega)), hone]

theorem add_two_pow_lt {x k n : Nat} (hx : x < 2 ^ n) (hk : k < n) (hclear : x.testBit k = false) : x + 2 ^ k < 2 ^ n := by
  refine Nat.lt_pow_two_of_testBit _ fun i hi => ?_
  rw [testBit_add_two_pow hclear, decide_eq_false (by omega), Bool.false_or]
  exact Nat.testBit_lt_two_pow (Nat.lt_of_lt_of_le hx (Nat.pow_le_pow_right Nat.two_pos hi))

theorem ite_mod_lt (p : Prop) [Decidable p] (x : Nat) {n : Nat} (hn : n ≠ 0) :
    (if p then x % 2 ^ n else 1) < 2 ^ n := by
  split
  · exact Nat.mod_lt _ (Nat.two_pow_pos n)
  · exact Nat.one_lt_two_pow hn

@[simp] theorem high_advanced (d : Dup) (a : Nat) : (advanced d a).high = a := by cases d; rfl

@[simp] theorem seen_advanced (d : Dup) (a : Nat) : (advanced d a).seen =
    if ahead d a < 1024 then (d.seen * 2 ^ ahead d a + 1) % 2 ^ 1024 else 1 := by cases d; rfl

@[simp] theorem high_filled (d : Dup) (a : Nat) : (filled d a).high = d.high := by cases d; rfl

@[simp] theorem seen_filled (d : Dup) (a : Nat) : (filled d a).seen = d.seen + 2 ^ behind d a := by cases d; rfl

theorem behind_filled (d : Dup) (a b : Nat) : behind (filled d b) a = behind d a := by
  rw [behind, behind, high_filled]

theorem inForm_advanced (d : Dup) {a : Nat} (ha : a < 2 ^ 32) : InForm (advanced d a) := by
  rw [InForm, high_advanced, seen_advanced]
  exact ⟨ha, ite_mod_lt _ _ (Nat.succ_ne_zero 1023)⟩

theorem inForm_filled {d : Dup} {a : Nat} (hd : InForm d) (hnear : behind d a ≤ 1023)
    (hclear : d.seen.testBit (behind d a) = false) : InForm (filled d a) := by
  rw [InForm, high_filled, seen_filled]
  exact ⟨hd.1, add_two_pow_lt hd.2 (Nat.lt_succ_of_le hnear) hclear⟩

theorem remembers_advanced_self (d : Dup) {a : Nat} (hk : 1 ≤ ahead d a) : Remembers (advanced d a) a := by
  have hb : behind (advanced d a) a = 0 := by rw [behind, high_advanced]; omega
  refine And.intro (by rw [hb]; exact Nat.zero_le _) ?_
  rw [hb, seen_advanced]
  split
  · rw [testBit_shift_succ _ _ _ hk, if_pos (show 0 < ahead d a from hk)]; rfl
  · rfl

theorem remembers_filled_self {d : Dup} {a : Nat} (hnear : behind d a ≤ 1023)
    (hclear : d.seen.testBit (behind d a) = false) : Remembers (filled d a) a := by
  rw [Remembers, behind_filled]
  refine And.intro hnear ?_
  rw [seen_filled, testBit_add_two_pow hclear, decide_eq_true rfl, Bool.true_or]

theorem remembers_filled {d : Dup} {a b : Nat} (h : Remembers d a) (hclear : d.seen.testBit (behind d b) = false) :
    Remembers (filled d b) a := by
  obtain ⟨hnear, hbit⟩ := h
  rw [Remembers, behind_filled]
  refine And.intro hnear ?_
  rw [seen_filled, testBit_add_two_pow hclear, hbit, Bool.or_true]

/-- A window that delivers a number stays in form and remembers it. -/
theorem remembers_of_judge_deliver {d d' : Dup} {a : Nat} (hd : InForm d) (ha : a < 2 ^ 32)
    (h : d.judge a = (.deliver, d')) : InForm d' ∧ Remembers d' a := by
  rcases judge_cases d a with ⟨h1, -, e⟩ | ⟨-, -, e⟩ | ⟨-, hnear, hclear, e⟩ | ⟨-, -, e⟩ <;>
    rw [e, Prod.mk.injEq] at h <;> obtain ⟨hv, rfl⟩ := h
  · exact ⟨inForm_advanced d ha, remembers_advanced_self d h1⟩
  · cases hv
  · exact ⟨inForm_filled hd hnear hclear, remembers_filled_self hnear hclear⟩
  · cases hv

/-- A remembered number is not delivered after a further one, unless that moved the window on by more than 2^31 − 1,024. -/
theorem judge_advanced_of_remembers {d : Dup} {a b : Nat} (h : Remembers d a) (hd : d.high < 2 ^ 32) (ha : a < 2 ^ 32)
    (hb : b < 2 ^ 32) (h1 : 1 ≤ ahead d b) (hfar : ahead d b ≤ 2 ^ 31 - 1024) : ((advanced d b).judge a).1 ≠ .deliver := by
  obtain ⟨hnear, hbit⟩ := h
  have hback : behind (advanced d b) a = behind d a + ahead d b := by
    simp only [behind, ahead, high_advanced] at *; omega
  by_cases hin : behind d a + ahead d b ≤ 1023
  · have hrem : Remembers (advanced d b) a := by
      refine ⟨by omega, ?_⟩
      rw [hback, seen_advanced, if_pos (by omega), testBit_shift_succ _ _ _ h1, decide_eq_true (by omega), Bool.true_and,
        if_neg (by omega), Nat.add_sub_cancel]
      exact hbit
    rw [judge_of_remembers hrem (by rw [high_advanced]; exact hb) ha]; exact nofun
  · refine judge_of_far_behind (by omega) ?_
    simp only [behind, ahead, high_advanced] at *; omega

/-- Settles O56. -/
theorem noSequenceNumberIsDeliveredTwice : Obligations.NoSequenceNumberIsDeliveredTwice := by
  intro d d' e a b w ha hb hhigh hseen hja hjb
  obtain ⟨hform, hrem⟩ := remembers_of_judge_deliver ⟨hhigh, hseen⟩ ha hja
  have hdup := judge_of_remembers hrem hform.1 ha
  refine ⟨hdup, hform.1, hform.2, fun hfar => ?_, fun hw => ?_⟩ <;>
    rcases judge_cases d' b with ⟨h1, h2, e'⟩ | ⟨-, -, e'⟩ | ⟨-, -, hclear, e'⟩ | ⟨-, -, e'⟩ <;>
    rw [hjb, Prod.mk.injEq] at e' <;> obtain ⟨rfl, rfl⟩ := e'
  · exact judge_advanced_of_remembers hrem hform.1 ha hb h1 (by rw [ahead] at *; omega)
  · rw [hdup]; exact nofun
  · rw [judge_of_remembers (remembers_filled hrem hclear) (by rw [high_filled]; exact hform.1) ha]; exact nofun
  · rw [hdup]; exact nofun
  · exact absurd rfl hw
  · rfl
  · exact absurd rfl hw
  · rfl

end Sys2Proof.Proofs
end

section
/-!
Compact timestamps (R174).
-/
namespace Sys2Proof.Proofs
open Sys2Proof Sys2Proof.Machine

/-- A difference modulo 2^34 as the nearest signed one, half range counting as past. -/
theorem signed_difference (x y : Nat) (hx : x < 2 ^ 34) (hy : y < 2 ^ 34) :
    (if (x + 2 ^ 34 - y) % 2 ^ 34 < 2 ^ 33 then (((x + 2 ^ 34 - y) % 2 ^ 34 : Nat) : Int)
      else (((x + 2 ^ 34 - y) % 2 ^ 34 : Nat) : Int) - 2 ^ 34) =
      if ((x : Int) - y) % 2 ^ 34 ≥ 2 ^ 33 then ((x : Int) - y) % 2 ^ 34 - 2 ^ 34 else ((x : Int) - y) % 2 ^ 34 := by
  have h : (((x + 2 ^ 34 - y) % 2 ^ 34 : Nat) : Int) = ((x : Int) - y) % 2 ^ 34 := by omega
  rw [← h]
  split <;> split <;> omega

theorem compactDiff_spelled {sa na sb nb : Nat} (hsa : sa < 2 ^ 34) (hsb : sb < 2 ^ 34) (hna : na < 1000000000)
    (hnb : nb < 1000000000) :
    compactDiff (sa * 2 ^ 30 + na) (sb * 2 ^ 30 + nb) =
      (if ((sa : Int) - sb) % 2 ^ 34 ≥ 2 ^ 33 then ((sa : Int) - sb) % 2 ^ 34 - 2 ^ 34 else ((sa : Int) - sb) % 2 ^ 34) *
        1000000000 + ((na : Int) - nb) := by
  have hs {s n : Nat} (h : s < 2 ^ 34) (hn : n < 1000000000) : (s * 2 ^ 30 + n) / 2 ^ 30 % 2 ^ 34 = s := by omega
  have hn {s n : Nat} (hn : n < 1000000000) : (s * 2 ^ 30 + n) % 2 ^ 30 = n := by omega
  simp only [compactDiff, hs hsa hna, hs hsb hnb, hn hna, hn hnb, signed_difference sa sb hsa hsb]

/-- Settles O58: a difference of less than half range is its own signed remainder. -/
theorem compactTimesCompareByTheirDifference : Obligations.CompactTimesCompareByTheirDifference := by
  refine ⟨fun sa na sb nb hsa hsb hna hnb => compactDiff_spelled hsa hsb hna hnb, fun t u htu hut => ?_⟩
  have hmod (x : Nat) : x / 1000000000 % 2 ^ 34 < 2 ^ 34 := Nat.mod_lt _ (by decide)
  have hns (x : Nat) : x % 1000000000 < 1000000000 := Nat.mod_lt _ (by decide)
  rw [compact, compact, compactDiff_spelled (hmod t) (hmod u) (hns t) (hns u)]
  split <;> omega

end Sys2Proof.Proofs
end

section
/-!
A node held in reset (R462): each guard of a meaning passes its command by while the core is not released.
-/
namespace Sys2Proof.Proofs
open Sys2Proof Sys2Proof.Machine

section
variable {s : State} (h : s.sys.power ≠ 3) (f : State → State)
include h

theorem whenServing_of_held : whenServing f s.fresh = s.fresh := by simp [whenServing, h]

theorem whenUp_of_held : whenUp f s.fresh = s.fresh := by simp [whenUp, h]

theorem whenReleased_of_held : whenReleased f s.fresh = s.fresh := by simp [whenReleased, h]

theorem whenRunning_of_held : whenRunning f s.fresh = s.fresh := by simp [whenRunning, h]

theorem whenEngines_of_held : whenEngines f s.fresh = s.fresh := whenRunning_of_held h f

end

/-- Settles O55: every command but those of `actsHeld` acts through one of the guards. -/
theorem heldInResetNothingMoves : Obligations.HeldInResetNothingMoves := by
  intro c s h hc
  cases c <;> cases hc <;>
    exact gives_act rfl (by simp only [whenServing_of_held h, whenUp_of_held h, whenReleased_of_held h, whenRunning_of_held h,
      whenEngines_of_held h])

end Sys2Proof.Proofs
end

section
/-!
The reset of the core and the field dies (Table 16-1, R462, R465): what it keeps of the parameter space, and the journal.
-/
namespace Sys2Proof.Proofs
open Sys2Proof Sys2Proof.Machine

/-- Fields copied from one register file to another read there as in the first; every other key reads as before. -/
theorem regGet_foldl_copy (regs : List (Nat × Nat)) (k : Nat) : ∀ (fs : List Fld) (l : List (Nat × Nat)),
    regGet k (fs.foldl (fun l f => regPut f.key (regGet f.key regs) l) l) =
      if k ∈ fs.map Fld.key then regGet k regs else regGet k l
  | [], l => rfl
  | f :: fs, l => by
    rw [List.foldl_cons, regGet_foldl_copy regs k fs, List.map_cons]
    by_cases hmem : k ∈ fs.map Fld.key
    · rw [if_pos hmem, if_pos (List.mem_cons_of_mem _ hmem)]
    · rw [if_neg hmem]
      by_cases hk : k = f.key
      · rw [if_pos (hk ▸ List.mem_cons_self), hk, regGet_regPut_same]
      · rw [if_neg (List.not_mem_cons_of_ne_of_not_mem hk hmem), regGet_regPut_other hk]

@[simp] theorem commitFlight_regs (s : State) : (commitFlight s).regs = s.regs := by
  unfold commitFlight; split <;> rfl

theorem commitFlight_of_none {s : State} (h : s.sto.inFlight = none) : commitFlight s = s := by
  simp only [commitFlight, h]

theorem coreReset_regs (power cause : Nat) (s : State) :
    (coreReset power cause s).regs = keptFields.foldl (fun l f => regPut f.key (regGet f.key s.regs) l) [] := by
  rw [← commitFlight_regs s]; rfl

theorem coreReset_rd_kept (power cause : Nat) (s : State) {f : Fld} (h : f ∈ keptFields) :
    (coreReset power cause s).rd f = s.rd f := by
  rw [State.rd, coreReset_regs, regGet_foldl_copy, if_pos (List.mem_map_of_mem h)]; rfl

theorem coreReset_rd_of_not_kept (power cause : Nat) (s : State) {f : Fld} (h : f.key ∉ keptFields.map Fld.key) :
    (coreReset power cause s).rd f = f.reset % 2 ^ f.width := by
  rw [State.rd, coreReset_regs, regGet_foldl_copy, if_neg h, regGet, Nat.zero_xor]

theorem coreReset_journal (power cause : Nat) {s : State} (h : s.sto.inFlight = none) :
    (coreReset power cause s).sto.journal = s.sto.journal := by
  have e := congrArg (fun t => t.sto.journal) (commitFlight_of_none h)
  exact e

theorem railFault_of_rails {s : State} (h : 2 ≤ s.sys.power) :
    railFault s = coreReset 2 4 (s.emit (.pin .railFail 1)) := if_neg (by omega)

theorem resetPulse_of_full {s : State} {ns : Nat} (h : 2 ≤ s.sys.power) (hns : 10000 ≤ ns) :
    resetPulse ns s = coreReset 2 1 s := by
  have h1 : ¬(s.sys.power = 0 ∨ ns < 1000) := by omega
  rw [resetPulse, if_neg (by simpa using h1), if_pos hns]

/-- Settles O49. -/
theorem coreResetKeepsOnlyTheNamedFields : Obligations.CoreResetKeepsOnlyTheNamedFields := by
  intro die ns s hpower hns
  have hrail : railFault s.fresh = coreReset 2 4 (s.fresh.emit (.pin .railFail 1)) := railFault_of_rails hpower
  have hpulse : resetPulse ns s.fresh = coreReset 2 1 s.fresh := resetPulse_of_full hpower hns
  refine ⟨_, _, gives_act rfl hrail, gives_act rfl hpulse, fun f hf => ⟨?_, ?_⟩, fun f hf => ⟨?_, ?_⟩, rfl, rfl, rfl, rfl, rfl,
    rfl, fun hfl => ⟨?_, ?_⟩⟩
  · exact coreReset_rd_of_not_kept 2 4 _ hf
  · exact coreReset_rd_of_not_kept 2 1 _ hf
  · exact coreReset_rd_kept 2 4 _ hf
  · exact coreReset_rd_kept 2 1 _ hf
  · exact coreReset_journal 2 4 (s := s.fresh.emit (.pin .railFail 1)) hfl
  · exact coreReset_journal 2 1 (s := s.fresh) hfl

end Sys2Proof.Proofs
end

section
/-!
Semaphores (R376): what acquiring and releasing answer, and that between the two the owner is the only one.
-/
namespace Sys2Proof.Proofs
open Sys2Proof Sys2Proof.Machine

/-! The fields of a semaphore lie apart from each other, from the count of held ones, and from everything below block RAB. -/

theorem owner_key (i : Nat) : (RAB_SEMi_OWNER_UID.f i).key = 0x340100 * 64 + 1024 * i := by
  simp [RAB_SEMi_OWNER_UID, Row.f, Fld.key]; omega

theorem port_key (i : Nat) : (RAB_SEMi_PORT.f i).key = 0x340108 * 64 + 1024 * i := by
  simp [RAB_SEMi_PORT, Row.f, Fld.key]; omega

theorem held_key (i : Nat) : (RAB_SEMi_HELD.f i).key = 0x340108 * 64 + 1024 * i + 8 := by
  simp [RAB_SEMi_HELD, Row.f, Fld.key]; omega

theorem semHeld_key : RAB_SEM_HELD.f.key = 0x340010 * 64 + 16 := by decide

/-- The state in which a command's issuer holds a semaphore. -/
def semTaken (h : CmdHdr) (i hold : Nat) (s : State) : State :=
  let t := ((s.wr (RAB_SEMi_OWNER_UID.f i) (s.semOwner h).1).wr (RAB_SEMi_PORT.f i) (s.semOwner h).2).wr (RAB_SEMi_HELD.f i) 1
  State.syncSems { t with rab := { t.rab with expiries := putKey Prod.fst (i, t.clk.up + hold * 1000000) t.rab.expiries } }

/-- The issuer of a command is the owner that a semaphore's words name. -/
def OwnsSem (h : CmdHdr) (i : Nat) (s : State) : Prop :=
  s.rd (RAB_SEMi_OWNER_UID.f i) = (s.semOwner h).1 ∧ s.rd (RAB_SEMi_PORT.f i) = (s.semOwner h).2

section
variable {h : CmdHdr} {i hold : Nat} {s : State}

theorem answers_semAcquire_ok (H : Serves 0x0A01 h s) (hi : i ≤ 63) (h1 : 1 ≤ hold) (h2 : hold ≤ 60000)
    (hfree : s.on (RAB_SEMi_HELD.f i) = false ∨ OwnsSem h i s) :
    Answers (.semAcquire h i hold) 0x0A01 h s stOk [] (semTaken h i hold s.fresh) := by
  refine answers_of H rfl ?_
  have hbusy : ¬(s.on (RAB_SEMi_HELD.f i) = true ∧
      ¬(s.rd (RAB_SEMi_OWNER_UID.f i) = (s.semOwner h).1 ∧ s.rd (RAB_SEMi_PORT.f i) = (s.semOwner h).2)) := by
    rintro ⟨hheld, hother⟩
    exact hfree.elim (fun hf => absurd hheld (by rw [hf]; decide)) hother
  simp only [State.fresh_on, State.fresh_rd, State.fresh_semOwner]
  rw [if_neg (by omega), if_neg (by simp; omega), if_neg (by simpa using hbusy)]
  rfl

theorem answers_semAcquire_busy (H : Serves 0x0A01 h s) (hi : i ≤ 63) (h1 : 1 ≤ hold) (h2 : hold ≤ 60000)
    (hheld : s.on (RAB_SEMi_HELD.f i) = true) (hother : ¬OwnsSem h i s) :
    Answers (.semAcquire h i hold) 0x0A01 h s stBusy [] s.fresh := by
  refine answers_of H rfl ?_
  simp only [State.fresh_on, State.fresh_rd, State.fresh_semOwner]
  rw [if_neg (by omega), if_neg (by simp; omega), if_pos (by simpa [hheld] using not_and_or.mp hother)]
  rfl

theorem answers_semRelease_ok (H : Serves 0x0A02 h s) (hi : i ≤ 63) (hheld : s.on (RAB_SEMi_HELD.f i) = true)
    (hown : OwnsSem h i s) : Answers (.semRelease h i) 0x0A02 h s stOk [] (freeSem i s.fresh) := by
  refine answers_of H rfl ?_
  simp only [State.fresh_on, State.fresh_rd, State.fresh_semOwner]
  rw [if_neg (by omega), if_pos (by simp [hheld, hown.1, hown.2])]
  rfl

theorem answers_semRelease_conflict (H : Serves 0x0A02 h s) (hi : i ≤ 63)
    (hnot : s.on (RAB_SEMi_HELD.f i) = false ∨ ¬OwnsSem h i s) :
    Answers (.semRelease h i) 0x0A02 h s stConflict (toBE 2 0) s.fresh := by
  have hnone : ¬((s.on (RAB_SEMi_HELD.f i) = true ∧ s.rd (RAB_SEMi_OWNER_UID.f i) = (s.semOwner h).1) ∧
      s.rd (RAB_SEMi_PORT.f i) = (s.semOwner h).2) := by
    rintro ⟨⟨hheld, ho⟩, hp⟩
    exact hnot.elim (fun hf => absurd hheld (by rw [hf]; decide)) (fun hn => hn ⟨ho, hp⟩)
  refine answers_of H rfl ?_
  simp only [State.fresh_on, State.fresh_rd, State.fresh_semOwner]
  rw [if_neg (by omega), if_neg (by simpa using hnone)]
  rfl

end

/-! What the two leave in the registers. -/

theorem semTaken_rd_below (h : CmdHdr) (i hold : Nat) (s : State) {f : Fld} (hf : f.key < 0x340000 * 64) :
    (semTaken h i hold s).rd f = s.rd f := by
  have hw (t : State) {g : Fld} (v : Nat) (hg : 0x340000 * 64 ≤ g.key) : (t.wr g v).rd f = t.rd f :=
    State.rd_wr_other t v (by omega)
  rw [semTaken, State.syncSems, hw _ _ (by rw [semHeld_key]; omega)]
  refine (hw _ 1 (by rw [held_key]; omega)).trans ?_
  rw [hw _ _ (by rw [port_key]; omega), hw _ _ (by rw [owner_key]; omega)]

theorem semTaken_held (h : CmdHdr) (i hold : Nat) (s : State) : (semTaken h i hold s).rd (RAB_SEMi_HELD.f i) = 1 := by
  rw [semTaken, State.syncSems, State.rd_wr_other _ _ (by rw [held_key, semHeld_key]; omega)]
  exact State.rd_wr_same _ _ 1

theorem semTaken_owner (h : CmdHdr) (i hold : Nat) (s : State) (hlt : (s.semOwner h).1 < 2 ^ 64) :
    (semTaken h i hold s).rd (RAB_SEMi_OWNER_UID.f i) = (s.semOwner h).1 := by
  rw [semTaken, State.syncSems, State.rd_wr_other _ _ (by rw [owner_key, semHeld_key]; omega)]
  refine (State.rd_wr_other _ 1 (by rw [owner_key, held_key]; omega)).trans ?_
  rw [State.rd_wr_other _ _ (by rw [owner_key, port_key]; omega), State.rd_wr_same]
  exact Nat.mod_eq_of_lt hlt

theorem semTaken_port (h : CmdHdr) (i hold : Nat) (s : State) (hlt : (s.semOwner h).2 < 2 ^ 8) :
    (semTaken h i hold s).rd (RAB_SEMi_PORT.f i) = (s.semOwner h).2 := by
  rw [semTaken, State.syncSems, State.rd_wr_other _ _ (by rw [port_key, semHeld_key]; omega)]
  refine (State.rd_wr_other _ 1 (by rw [port_key, held_key]; omega)).trans ?_
  rw [State.rd_wr_same]
  exact Nat.mod_eq_of_lt hlt

theorem freeSem_held (i : Nat) (s : State) : (freeSem i s).rd (RAB_SEMi_HELD.f i) = 0 := by
  rw [freeSem, State.syncSems, State.rd_wr_other _ _ (by rw [held_key, semHeld_key]; omega)]
  exact State.rd_wr_same _ _ 0

/-- Two states between which a command's way through the checks does not tell: the same cycle and train units, the same stage
and power, and the same words below block RAB. -/
structure SameBelowRab (s t : State) : Prop where
  sys : t.sys = s.sys
  tcy : t.tcy = s.tcy
  hst : t.hst = s.hst
  rd : ∀ f : Fld, f.key < 0x340000 * 64 → t.rd f = s.rd f

theorem SameBelowRab.epochOk {s t : State} (H : SameBelowRab s t) (e : Nat) : t.epochOk e = s.epochOk e := by
  simp only [State.epochOk, H.tcy, H.rd HST_EPOCH.f (by decide), H.rd TCY_CYCLE_NUM.f (by decide),
    H.rd HST_PREV_EPOCH.f (by decide)]

theorem SameBelowRab.isLocal {s t : State} (H : SameBelowRab s t) (h : CmdHdr) : t.isLocal h = s.isLocal h := by
  simp only [State.isLocal, State.ownNumber, State.prevNode, H.epochOk, H.hst, H.rd HST_EPOCH.f (by decide),
    H.rd HST_NODE_NUM.f (by decide), H.rd HST_UID.f (by decide)]

theorem SameBelowRab.serves {s t : State} (H : SameBelowRab s t) {op : Nat} {h : CmdHdr} (hs : Serves op h s) :
    Serves op h t where
  power := by rw [H.sys]; exact hs.power
  stage := by rw [H.sys]; exact hs.stage
  cls := hs.cls
  target := hs.target
  epoch := fun he => (H.epochOk _).trans (hs.epoch he)
  here := (H.isLocal h).trans hs.here

theorem SameBelowRab.semOwner {s t : State} (H : SameBelowRab s t) (h : CmdHdr) : t.semOwner h = s.semOwner h := by
  simp only [State.semOwner, H.rd HST_UID.f (by decide)]

/-- Settles O57. -/
theorem semaphoresHaveOneOwner : Obligations.SemaphoresHaveOneOwner := by
  intro h g i a b s hAcq gAcq gRel hRel hi ha1 ha2 hb1 hb2 hUid gUid hPort gPort hne hfree
  have hacq := answers_semAcquire_ok hAcq hi ha1 ha2 (.inl hfree)
  refine ⟨_, hacq, ?_⟩
  generalize ht : ({ deliverReply h.via (mkReply h 0x0A01 stOk []) (semTaken h i a s.fresh) with
    pending := s.pending } : State) = t
  have hrd (f : Fld) : t.rd f = (semTaken h i a s.fresh).rd f := by
    rw [← ht]; exact deliverReply_rd _ _ _ f
  have hsame : SameBelowRab s t :=
    { sys := by rw [← ht]; exact (deliverReply_sys _ _ _)
      tcy := by rw [← ht]; exact (deliverReply_tcy _ _ _)
      hst := by rw [← ht]; exact (deliverReply_hst _ _ _)
      rd := fun f hf => (hrd f).trans (semTaken_rd_below h i a s.fresh hf) }
  have hheld : t.on (RAB_SEMi_HELD.f i) = true := by rw [State.on, hrd, semTaken_held]; rfl
  have howner : t.rd (RAB_SEMi_OWNER_UID.f i) = (s.semOwner h).1 := (hrd _).trans (semTaken_owner h i a s.fresh hUid)
  have hport : t.rd (RAB_SEMi_PORT.f i) = (s.semOwner h).2 := (hrd _).trans (semTaken_port h i a s.fresh hPort)
  have hmine : OwnsSem h i t := by rw [OwnsSem, hsame.semOwner]; exact ⟨howner, hport⟩
  have hother : ¬OwnsSem g i t := by
    rw [OwnsSem, hsame.semOwner, howner, hport]
    exact fun ⟨h1, h2⟩ => hne (Prod.ext h1 h2)
  refine ⟨hheld, howner, hport, answers_semAcquire_busy (hsame.serves gAcq) hi hb1 hb2 hheld hother,
    answers_semRelease_conflict (hsame.serves gRel) hi (.inr hother), _,
    answers_semRelease_ok (hsame.serves hRel) hi hheld hmine, ?_⟩
  have hfreed : ∀ f : Fld, ({ deliverReply h.via (mkReply h 0x0A02 stOk []) (freeSem i t.fresh) with
      pending := t.pending } : State).rd f = (freeSem i t.fresh).rd f := fun f => deliverReply_rd _ _ _ f
  rw [State.on, hfreed, freeSem_held]; rfl

end Sys2Proof.Proofs
end

section
/-!
The reset of an endpoint (R54): what it closes stays closed through the release of the endpoint's semaphores and its events.
-/
namespace Sys2Proof.Proofs
open Sys2Proof Sys2Proof.Machine

/-- The rows of an endpoint's rings that its reset clears. -/
def clearedRows : List Row :=
  [CMD_Hx_RING_EN, CMD_Hx_EVT_EN, CMD_Hx_RING_HEAD, CMD_Hx_RING_TAIL, CMD_Hx_EVT_WRITE, CMD_Hx_EVT_READ]

/-- The rows of an endpoint's rings that its reset keeps. -/
def keptRows : List Row :=
  [CMD_Hx_RING_BASE, CMD_Hx_RING_LOG2, CMD_Hx_EVT_BASE, CMD_Hx_EVT_LOG2, CMD_Hx_EVT_URGENT, CMD_Hx_EVT_GROUPS]

/-- The rows of an endpoint's command and event rings. -/
def ringRows : List Row := clearedRows ++ keptRows

/-- The ring words of an endpoint read the same. -/
def RingsStay (hb : Bool) (s t : State) : Prop := ∀ r ∈ ringRows, t.rd (r.f (hx hb)) = s.rd (r.f (hx hb))

theorem RingsStay.trans {hb : Bool} {s t u : State} (h : RingsStay hb s t) (h' : RingsStay hb t u) : RingsStay hb s u :=
  fun r hr => (h' r hr).trans (h r hr)

theorem ringsStay_of_regs_eq {hb : Bool} {s t : State} (h : t.regs = s.regs) : RingsStay hb s t :=
  fun _ _ => State.rd_congr h _

/-- The event ring of an endpoint is closed. -/
def EvtClosed (hb : Bool) (s : State) : Prop := s.rd (CMD_Hx_EVT_EN.f (hx hb)) = 0

theorem RingsStay.closed {hb : Bool} {s t : State} (h : RingsStay hb s t) (hs : EvtClosed hb s) : EvtClosed hb t :=
  (h CMD_Hx_EVT_EN (by decide)).trans hs

theorem RingsStay.refl (hb : Bool) (s : State) : RingsStay hb s s := fun _ _ => rfl

theorem RingsStay.congr {hb : Bool} {s t u : State} (h : RingsStay hb s t) (hu : u.regs = t.regs) : RingsStay hb s u :=
  h.trans (ringsStay_of_regs_eq hu)

/-- A field above the words of both endpoints is written. -/
theorem RingsStay.wr {hb : Bool} {s t : State} (h : RingsStay hb s t) {f : Fld} (hf : 0x10080 * 64 ≤ f.key) (v : Nat) :
    RingsStay hb s (t.wr f v) := by
  have hlow : ∀ hb, ∀ r ∈ ringRows, (r.f (hx hb)).key < 0x10080 * 64 := by decide
  exact h.trans fun r hr => State.rd_wr_other t v (by have := hlow hb r hr; omega)

theorem RingsStay.inc {hb : Bool} {s t : State} (h : RingsStay hb s t) {f : Fld} (hf : 0x10080 * 64 ≤ f.key) :
    RingsStay hb s (t.inc f) := h.wr hf _

theorem RingsStay.lost {hb : Bool} {s t : State} (h : RingsStay hb s t) (n : Nat) :
    RingsStay hb s (t.incBy (CMD_Hx_LOST.f (hx hb)) n) := by
  have hne : ∀ hb, ∀ r ∈ ringRows, (r.f (hx hb)).key ≠ (CMD_Hx_LOST.f (hx hb)).key := by decide
  exact h.trans fun r hr => State.rd_wr_other t _ (hne hb r hr)

/-! An event does not reach a closed ring, and on the other ring it leaves this endpoint's words alone. -/

theorem ringDeliver_rd_of_ne (b : Bool) (e : EvtRec) (s : State) {f : Fld} (hw : f.key ≠ (CMD_Hx_EVT_WRITE.f (hx b)).key)
    (hl : f.key ≠ (CMD_Hx_LOST.f (hx b)).key) (h₁ : f.key ≠ (LAD_Dd_WAKES.f (116 + hx b)).key)
    (h₂ : f.key ≠ (LAD_Dd_RUNG.f (116 + hx b)).key) (h₃ : f.key ≠ (LAD_Dd_OPER.f (116 + hx b)).key) :
    (ringDeliver b e s).rd f = s.rd f := by
  unfold ringDeliver
  dsimp only
  split
  · rw [State.setEp_rd]; exact State.rd_wr_other s _ hl
  · rw [State.emit_rd, State.emit_rd, wakePath_rd _ _ h₁ h₂ h₃, State.setEp_rd, State.rd_wr_other _ _ hw]

theorem ringDeliver_other_evtWrite (hb : Bool) (e : EvtRec) (s : State) :
    (ringDeliver (!hb) e s).rd (CMD_Hx_EVT_WRITE.f (hx hb)) = s.rd (CMD_Hx_EVT_WRITE.f (hx hb)) := by
  cases hb <;> exact ringDeliver_rd_of_ne _ e s (by decide) (by decide) (by decide) (by decide) (by decide)

theorem evtWrite_not_elsewhere (hb : Bool) : ∀ f ∈ [CMD_SS_LOST.f, LAD_Dd_WAKES.f 119, LAD_Dd_RUNG.f 119, LAD_Dd_OPER.f 119,
    MAC_n_OPER.f 80], (CMD_Hx_EVT_WRITE.f (hx hb)).key ≠ f.key := by
  cases hb <;> decide

theorem ssDeliver_evtWrite (hb : Bool) (e : EvtRec) (s : State) :
    (ssDeliver e s).rd (CMD_Hx_EVT_WRITE.f (hx hb)) = s.rd (CMD_Hx_EVT_WRITE.f (hx hb)) := by
  unfold ssDeliver
  split
  · exact State.rd_wr_other s _ (evtWrite_not_elsewhere hb _ (by simp))
  · rfl

theorem mtDeliver_evtWrite (hb : Bool) (e : EvtRec) (s : State) :
    (mtDeliver e s).rd (CMD_Hx_EVT_WRITE.f (hx hb)) = s.rd (CMD_Hx_EVT_WRITE.f (hx hb)) := by
  have hne := evtWrite_not_elsewhere hb
  unfold mtDeliver
  split
  · split
    · rw [State.emit_rd, riseOper_rd _ _ _ (hne _ (by simp)),
        wakePath_rd 119 _ (hne _ (by simp)) (hne _ (by simp)) (hne _ (by simp))]
    · rfl
  · rfl

theorem ringOpen_of_closed {hb : Bool} {s : State} (h : EvtClosed hb s) : s.ringOpen hb = false := by
  rw [State.ringOpen, State.on, h]; rfl

/-! The delivery of an event, path by path (R53). -/

/-- The record of an event. -/
def eventRec (s : State) (code unit : Nat) (data : List Byte) (cl : Bool) : EvtRec :=
  { code := code, unit := unit, seq := 0, cleared := cl, lostBefore := false, phase := false, port := 0, time := s.ts,
    status := 0, epoch := s.rd HST_EPOCH.f, data := fitBytes 12 data }

/-- The part of a delivery that goes to one ring. -/
def toRing (b : Bool) (g : Nat) (e : EvtRec) (s : State) : State :=
  if s.ringOpen b && bit (s.rd (CMD_Hx_EVT_GROUPS.f (hx b))) g then ringDeliver b e s else s

/-- The part that goes to `SS`. -/
def toSs (g : Nat) (e : EvtRec) (s : State) : State := if bit (s.rd CMD_SS_GROUPS.f) g then ssDeliver e s else s

/-- The part that goes to the destination that `EVENT_SUBSCRIBE` named. -/
def toMt (g : Nat) (e : EvtRec) (s : State) : State :=
  match s.cmd.mtDest with
  | some (_, _, mask) => if bit mask g then mtDeliver e s else s
  | none => s

theorem raise_eq (s : State) (c u : Nat) (d : List Byte) (cl : Bool) :
    s.raise c u d cl =
      let e := eventRec s c u d cl
      toMt (c / 256) e (toSs (c / 256) e (toRing true (c / 256) e (toRing false (c / 256) e s))) := rfl

theorem toRing_evtWrite (b hb : Bool) (g : Nat) (e : EvtRec) (s : State) (h : EvtClosed hb s) :
    (toRing b g e s).rd (CMD_Hx_EVT_WRITE.f (hx hb)) = s.rd (CMD_Hx_EVT_WRITE.f (hx hb)) := by
  unfold toRing
  split
  case isFalse => rfl
  case isTrue hopen =>
    have hne : b = !hb := by
      rcases Bool.eq_or_eq_not b hb with rfl | rfl
      · rw [ringOpen_of_closed h] at hopen; cases hopen
      · rfl
    rw [hne, ringDeliver_other_evtWrite]

theorem toRing_closed (b hb : Bool) (g : Nat) (e : EvtRec) (s : State) (h : EvtClosed hb s) :
    EvtClosed hb (toRing b g e s) := by
  unfold toRing
  split
  · exact (ringDeliver_rd b e s (by cases hb <;> decide)).trans h
  · exact h

theorem toSs_evtWrite (hb : Bool) (g : Nat) (e : EvtRec) (s : State) :
    (toSs g e s).rd (CMD_Hx_EVT_WRITE.f (hx hb)) = s.rd (CMD_Hx_EVT_WRITE.f (hx hb)) := by
  unfold toSs
  split
  · exact ssDeliver_evtWrite hb e s
  · rfl

theorem toMt_evtWrite (hb : Bool) (g : Nat) (e : EvtRec) (s : State) :
    (toMt g e s).rd (CMD_Hx_EVT_WRITE.f (hx hb)) = s.rd (CMD_Hx_EVT_WRITE.f (hx hb)) := by
  unfold toMt
  split
  · split
    · exact mtDeliver_evtWrite hb e s
    · rfl
  · rfl

theorem ringsStay_raise {hb : Bool} {s : State} (h : EvtClosed hb s) (c u : Nat) (d : List Byte) (cl : Bool) :
    RingsStay hb s (s.raise c u d cl) := by
  have hother : ∀ hb, ∀ r ∈ ringRows, r = CMD_Hx_EVT_WRITE ∨ (r.f (hx hb)).key ∉ eventKeys := by decide
  intro r hr
  rcases hother hb r hr with rfl | hkey
  · rw [raise_eq, toMt_evtWrite, toSs_evtWrite, toRing_evtWrite true hb _ _ _ (toRing_closed false hb _ _ s h),
      toRing_evtWrite false hb _ _ s h]
  · exact raise_rd s c u d cl hkey

/-! The release of semaphores and the reset of a port. -/

theorem ringsStay_keepOut (hb : Bool) (o : BrOut) (s : State) : RingsStay hb s (keepOut o s) := by
  unfold keepOut
  dsimp only
  split
  · exact (RingsStay.refl hb s).inc (by decide)
  · exact ringsStay_of_regs_eq rfl

theorem ringsStay_freeSem (hb : Bool) (i : Nat) (s : State) : RingsStay hb s (freeSem i s) := by
  have hwords := (((RingsStay.refl hb s).wr (f := RAB_SEMi_OWNER_UID.f i) (by rw [owner_key]; omega) 0).wr
    (f := RAB_SEMi_PORT.f i) (by rw [port_key]; omega) 0).wr (f := RAB_SEMi_HELD.f i) (by rw [held_key]; omega) 0
  exact RingsStay.wr (hwords.congr rfl) (by decide) _

theorem ringsStay_expireSem {hb : Bool} {s : State} (h : EvtClosed hb s) (cause i : Nat) :
    RingsStay hb s (expireSem cause i s) := by
  have hfree := ringsStay_freeSem hb i s
  have hraise (d : List Byte) := hfree.trans (ringsStay_raise (hfree.closed h) 0x0A01 0 d false)
  unfold expireSem
  dsimp only
  split
  · exact (hraise _).inc (by decide)
  · split
    · exact (hraise _).inc (by decide)
    · exact ((hraise _).inc (by decide)).trans (ringsStay_keepOut hb _ _)

theorem ringsStay_foldl {α : Type} {hb : Bool} {f : State → α → State}
    (hf : ∀ s a, EvtClosed hb s → RingsStay hb s (f s a)) :
    ∀ (l : List α) (s : State), EvtClosed hb s → RingsStay hb s (l.foldl f s)
  | [], s, _ => RingsStay.refl hb s
  | a :: l, s, h => (hf s a h).trans (ringsStay_foldl hf l _ ((hf s a h).closed h))

theorem ringsStay_syncBridge (hb : Bool) (s : State) : RingsStay hb s s.syncBridge :=
  (((((RingsStay.refl hb s).wr (by decide) _).wr (by decide) _).wr (by decide) _).wr (by decide) _).wr (by decide) _

theorem ringsStay_releaseSems {hb : Bool} {s : State} (h : EvtClosed hb s) (cause : Nat) (c : Nat → Nat → Bool) :
    RingsStay hb s (releaseSems cause c s) :=
  ringsStay_foldl (fun _ i ht => ringsStay_expireSem ht cause i) _ s h

theorem ringsStay_portReset {hb : Bool} {s : State} (h : EvtClosed hb s) (p : CmdPort) :
    RingsStay hb s (portReset p s) := by
  unfold portReset
  refine RingsStay.trans ?_ (ringsStay_syncBridge hb _)
  exact RingsStay.congr (ringsStay_releaseSems h 1 _) rfl

theorem State.setRings_regs (s : State) (hb : Bool) (r : FrameRings) : (s.setRings hb r).regs = s.regs := by
  cases hb <;> rfl

theorem ringsStay_resetRings (hb : Bool) (s : State) : RingsStay hb s (resetRings hb s) := by
  have hkey : ∀ hb, ∀ r ∈ [SCH_Hx_TX_EN, SCH_Hx_RX_EN, SCH_Hx_TX_HEAD, SCH_Hx_RX_HEAD],
      0x10080 * 64 ≤ (r.f (hx hb)).key := by decide
  have hwords := ((((RingsStay.refl hb s).wr (hkey hb SCH_Hx_TX_EN (by decide)) 0).wr
    (hkey hb SCH_Hx_RX_EN (by decide)) 0).wr (hkey hb SCH_Hx_TX_HEAD (by decide)) 0).wr
    (hkey hb SCH_Hx_RX_HEAD (by decide)) 0
  exact hwords.congr (State.setRings_regs _ hb _)

theorem rd_foldl_wr_other {f : Fld} {fs : List Fld} (h : f.key ∉ fs.map Fld.key) (s : State) :
    (fs.foldl (fun t g => t.wr g 0) s).rd f = s.rd f := by
  induction fs generalizing s with
  | nil => rfl
  | cons g fs ih =>
    rw [List.map_cons, List.mem_cons, not_or] at h
    rw [List.foldl_cons, ih h.2, State.rd_wr_other s 0 h.1]

theorem rd_foldl_wr_zero {f : Fld} {fs : List Fld} (hn : (fs.map Fld.key).Nodup) (h : f ∈ fs) (s : State) :
    (fs.foldl (fun t g => t.wr g 0) s).rd f = 0 := by
  induction fs generalizing s with
  | nil => cases h
  | cons g fs ih =>
    rw [List.map_cons, List.nodup_cons] at hn
    rw [List.foldl_cons]
    rcases List.mem_cons.mp h with hfg | h
    · rw [hfg, rd_foldl_wr_other hn.1, State.rd_wr_same, Nat.zero_mod]
    · exact ih hn.2 h _

/-- An endpoint's rings with the six words cleared. -/
def clearRings (hb : Bool) (s : State) : State :=
  clearedRows.foldl (fun (t : State) (r : Row) => t.wr (r.f (hx hb)) 0) s

theorem clearRings_eq (hb : Bool) (s : State) :
    clearRings hb s = (clearedRows.map (·.f (hx hb))).foldl (fun t g => t.wr g 0) s := by
  rw [clearRings, List.foldl_map]

theorem clearRings_rd_cleared (hb : Bool) (s : State) {r : Row} (hr : r ∈ clearedRows) :
    (clearRings hb s).rd (r.f (hx hb)) = 0 := by
  rw [clearRings_eq]
  exact rd_foldl_wr_zero (by cases hb <;> decide) (List.mem_map_of_mem hr) s

theorem clearRings_rd_kept (hb : Bool) (s : State) {r : Row} (hr : r ∈ keptRows) :
    (clearRings hb s).rd (r.f (hx hb)) = s.rd (r.f (hx hb)) := by
  have hapart : ∀ hb, ∀ r ∈ keptRows, (r.f (hx hb)).key ∉ (clearedRows.map (·.f (hx hb))).map Fld.key := by decide
  rw [clearRings_eq]
  exact rd_foldl_wr_other (hapart hb r hr) s

/-- What a reset of an endpoint does between clearing the words and counting what it cuts off moves no register. -/
theorem ringReset_eq (hb : Bool) (s : State) : ∃ (t : State) (n : Nat) (p : CmdPort), t.regs = (clearRings hb s).regs ∧
    ringReset hb s = resetRings hb (portReset p (t.incBy (CMD_Hx_LOST.f (hx hb)) n)) := by
  cases hb <;> refine ⟨_, _, _, ?_, rfl⟩ <;> rfl

theorem ringsStay_ringReset (hb : Bool) (s : State) : RingsStay hb (clearRings hb s) (ringReset hb s) := by
  have hclosed : EvtClosed hb (clearRings hb s) := clearRings_rd_cleared hb s (by decide)
  obtain ⟨t, n, p, ht, e⟩ := ringReset_eq hb s
  have hlost : RingsStay hb (clearRings hb s) (t.incBy (CMD_Hx_LOST.f (hx hb)) n) :=
    RingsStay.lost (ringsStay_of_regs_eq ht) n
  rw [e]
  exact (hlost.trans (ringsStay_portReset (hlost.closed hclosed) p)).trans (ringsStay_resetRings hb _)

/-- Settles O59. -/
theorem endpointResetStopsItsRings : Obligations.EndpointResetStopsItsRings := by
  intro hb s hpower
  have hstay := ringsStay_ringReset hb s.fresh
  have hzero {r : Row} (hr : r ∈ clearedRows) : (ringReset hb s.fresh).rd (r.f (hx hb)) = 0 :=
    (hstay r (List.mem_append_left _ hr)).trans (clearRings_rd_cleared hb _ hr)
  refine ⟨_, gives_released hpower rfl rfl, hzero (r := CMD_Hx_RING_EN) (by decide), hzero (r := CMD_Hx_EVT_EN) (by decide),
    hzero (r := CMD_Hx_RING_HEAD) (by decide), hzero (r := CMD_Hx_RING_TAIL) (by decide),
    hzero (r := CMD_Hx_EVT_WRITE) (by decide), hzero (r := CMD_Hx_EVT_READ) (by decide), fun r hr => ?_⟩
  exact (hstay r (List.mem_append_right _ hr)).trans (clearRings_rd_kept hb s.fresh hr)

end Sys2Proof.Proofs
end

section
/-!
The checks of a packet in their order (R38, Table 02-7): the first that fails gives the status and nothing is executed.
-/
namespace Sys2Proof.Proofs
open Sys2Proof Sys2Proof.Machine

/-! Checks 1 to 4, which need the bytes alone. -/

theorem packetFault_length {b : List Byte} (h : b.length < 28 ∨ 65536 < b.length) : packetFault b = some stBadLength :=
  if_pos (by simpa using h)

section
variable {b : List Byte} (hmin : 28 ≤ b.length) (hmax : b.length ≤ 65536)
include hmin hmax

theorem packetFault_version (h : beAt b 0 2 ≠ 0xCE4E ∨ byteAt b 2 ≠ 1) : packetFault b = some stBadVersion := by
  rw [packetFault, if_neg (by simp; omega), if_pos (by simpa using h)]

variable (hmagic : beAt b 0 2 = 0xCE4E) (hversion : byteAt b 2 = 1)
include hmagic hversion

theorem packetFault_paramLen (h : 24 + beAt b 12 2 + 4 ≠ b.length) : packetFault b = some stBadLength := by
  rw [packetFault, if_neg (by simp; omega), if_neg (by simp [hmagic, hversion]), if_pos (by simp; omega)]

theorem packetFault_crc (hlen : 24 + beAt b 12 2 + 4 = b.length)
    (h : fromBE (lastN 4 b) ≠ crc32c (b.take (b.length - 4))) : packetFault b = some stBadCrc := by
  rw [packetFault, if_neg (by simp; omega), if_neg (by simp [hmagic, hversion]), if_neg (by simp; omega),
    if_pos (by simpa using h)]

end

/-! Checks 5 to 8. -/

/-- The opcodes of Table 02-6. -/
def opcodes : List Nat :=
  [0x0101, 0x0102, 0x0103, 0x0104, 0x0105, 0x0201, 0x0202, 0x0203, 0x0204, 0x0205, 0x0206, 0x0207, 0x0208, 0x0209, 0x0301,
   0x0302, 0x0303, 0x0304, 0x0305, 0x0306, 0x0307, 0x0308, 0x0401, 0x0402, 0x0403, 0x0404, 0x0501, 0x0502, 0x0503, 0x0504,
   0x0505, 0x0506, 0x0601, 0x0602, 0x0603, 0x0604, 0x0605, 0x0606, 0x0701, 0x0702, 0x0703, 0x0704, 0x0705, 0x0706, 0x0801,
   0x0802, 0x0803, 0x0804, 0x0805, 0x0901, 0x0902, 0x0903, 0x0A01, 0x0A02, 0x0A03, 0x0B01, 0x0B02, 0x0B03, 0x0B04, 0x0B05,
   0x0C01, 0x0C02, 0x0C03, 0x0C04]

theorem opClasses_isSome : ∀ op ∈ opcodes, (opClasses op).isSome = true := by decide

/-- Check 8 passes for opcodes of Table 02-6 alone. -/
theorem mem_opcodes_of_paramLenOk {op : Nat} {p : List Byte} (h : paramLenOk op p = true) : op ∈ opcodes := by
  by_contra hop
  simp only [opcodes, List.mem_cons, List.not_mem_nil, or_false, not_or] at hop
  simp [paramLenOk, hop] at h

theorem paramLenOk_of_unknown {op : Nat} (h : opClasses op = none) (p : List Byte) : paramLenOk op p = false := by
  by_contra hok
  have := opClasses_isSome op (mem_opcodes_of_paramLenOk (Bool.not_eq_false _ ▸ hok))
  rw [h] at this; cases this

section
variable {p : Packet} {s : State} (hfault : packetFault p.bytes = none)
include hfault

/-- A packet whose parameters check 8 refuses runs checks 5 to 7 and is then answered `BAD_LENGTH`. -/
theorem runPacket_of_bad_params (hbad : paramLenOk (opcodeOf p) (slice p.bytes 24 (p.bytes.length - 28)) = false) :
    runPacket p s = commandCore (opcodeOf p) (headerOf p) (slice p.bytes 24 (p.bytes.length - 28))
      (fun t => ⟨t, stBadLength, []⟩) s := by
  simp only [runPacket, hfault, hbad, Bool.false_eq_true, if_false]

theorem runPacket_unknown (h : opClasses (opcodeOf p) = none) :
    runPacket p s = deliverReply p.via (mkReply (headerOf p) (opcodeOf p) stBadOpcode []) s := by
  rw [runPacket_of_bad_params hfault (paramLenOk_of_unknown h _)]
  simp only [commandCore, h]
  rfl

end

section
variable {op : Nat} {h : CmdHdr} {cl : List PrivClass} {params : List Byte} {body : State → Ans} {s : State}
  (hcl : opClasses op = some cl)
include hcl

theorem commandCore_denied (hdeny : cl.contains (classOf h.via.port) = false) :
    commandCore op h params body s = deliverReply h.via (mkReply h op stPrivDenied []) s := by
  simp only [commandCore, hcl, hdeny, Bool.not_false, if_true]

variable (hmay : cl.contains (classOf h.via.port) = true)
include hmay

theorem commandCore_target (ht : 128 < h.target) :
    commandCore op h params body s = deliverReply h.via (mkReply h op stRange []) s := by
  simp only [commandCore, hcl, hmay, Bool.not_true, Bool.false_eq_true, if_false, gt_iff_lt, ht, if_true]

theorem commandCore_stale (ht : h.target ≤ 128) (hcheck : h.target ≠ 0 ∨ h.epochCheck = true)
    (hstale : s.epochOk h.epoch = false) : commandCore op h params body s =
      deliverReply h.via (mkReply h op stStaleEpoch (toBE 2 (s.rd HST_EPOCH.f))) s := by
  have hc : (h.target != 0 || h.epochCheck) = true := by simpa using hcheck
  simp only [commandCore, hcl, hmay, Bool.not_true, Bool.false_eq_true, if_false, gt_iff_lt, Nat.not_lt.mpr ht, hc, hstale,
    Bool.not_false, Bool.and_self, if_true]

theorem commandCore_here (ht : h.target = 0) (hcheck : h.epochCheck = false) : commandCore op h params body s =
    deliverReply h.via (mkReply h op (body s).status (body s).data) (body s).state := by
  have hlocal : s.isLocal h = true := by simp [State.isLocal, ht]
  simp only [commandCore, hcl, hmay, ht, hcheck, hlocal, Bool.not_true, Bool.false_eq_true, if_false, bne_self_eq_false,
    Bool.or_self, Bool.false_and, gt_iff_lt, Nat.not_lt_zero]

end

/-! A command that its path's class may not issue (R33). -/

theorem cmdNodeReset_denied {h : CmdHdr} {s : State} (kind : Nat) (hdeny : (opClasses 0x0209).any
    (fun c => c.contains (classOf h.via.port)) = false) :
    cmdNodeReset h kind s = command 0x0209 h (toBE 1 kind) (fun s => if kind > 1 then ansRange s 0 else ansOk s) s := by
  simp only [cmdNodeReset, hdeny, Bool.false_and, Bool.false_eq_true, if_false]

theorem command_denied {op : Nat} {h : CmdHdr} {cl : List PrivClass} {params : List Byte} {body : State → Ans} {s : State}
    (hcl : opClasses op = some cl) (hdeny : cl.contains (classOf h.via.port) = false) :
    command op h params body s = deliverReply h.via (mkReply h op stPrivDenied []) s :=
  commandCore_denied hcl hdeny

/-- What comes as a packet is a `command` of its opcode; `NODE_RESET` goes on after its own. -/
theorem exec_of_spell {c : Instr} {h : CmdHdr} {op : Nat} {p : List Byte} (e : c.spell = some (h, op, p)) :
    (op = 0x0209 ∧ ∃ kind, c = .nodeReset h kind) ∨
      ∃ q body, ∀ s, exec c s = act (whenServing (command op h q body)) s := by
  cases c <;> cases e
  case nodeReset kind => exact .inl ⟨rfl, kind, rfl⟩
  all_goals exact .inr ⟨_, _, fun _ => rfl⟩

theorem exec_of_denied {c : Instr} {h : CmdHdr} {op : Nat} {p : List Byte} {cl : List PrivClass} {s : State}
    (e : c.spell = some (h, op, p)) (hcl : opClasses op = some cl) (hdeny : cl.contains (classOf h.via.port) = false)
    (hpower : s.sys.power = 3) (hstage : s.sys.stage = 3) :
    Gives c s (deliverReply h.via (mkReply h op stPrivDenied []) s.fresh) := by
  rcases exec_of_spell e with ⟨rfl, kind, rfl⟩ | ⟨q, body, hexec⟩
  · have hown : (opClasses 0x0209).any (fun c => c.contains (classOf h.via.port)) = false := by rw [hcl]; exact hdeny
    exact gives_serving hpower (.inl hstage) rfl ((cmdNodeReset_denied kind hown).trans (command_denied hcl hdeny))
  · exact gives_serving hpower (.inl hstage) (hexec s) (command_denied hcl hdeny)

/-- Settles O54. -/
theorem packetChecksAnswerTheFirstFailure : Obligations.PacketChecksAnswerTheFirstFailure := by
  refine ⟨fun b => ⟨packetFault_length, packetFault_version, packetFault_paramLen, packetFault_crc⟩,
    fun p st s hf => runPacket_of_fault hf s, fun p s hf => ⟨fun hop => runPacket_unknown hf hop, ?_, ?_, ?_, ?_⟩,
    fun c h op params cl s hpower hstage e hcl hdeny => exec_of_denied e hcl hdeny hpower hstage⟩
  · intro cl hcl hdeny hbad
    exact (runPacket_of_bad_params hf hbad).trans (commandCore_denied hcl hdeny)
  · intro cl hcl hmay ht hbad
    exact (runPacket_of_bad_params hf hbad).trans (commandCore_target hcl hmay ht)
  · intro cl hcl hmay ht hcheck hstale hbad
    exact (runPacket_of_bad_params hf hbad).trans (commandCore_stale hcl hmay ht hcheck hstale)
  · intro cl hcl hmay ht hcheck hbad
    exact (runPacket_of_bad_params hf hbad).trans (commandCore_here hcl hmay ht hcheck)

end Sys2Proof.Proofs
end

section
/-!
The command processor (R44): after it has run a packet it writes the packet's trailer into every open request of the bridge whose
order number is not below the next one, so a state that holds such a request shows that a packet taken from ring HA does not
always do exactly what its command does.
-/
namespace Sys2Proof.Proofs
open Sys2Proof Sys2Proof.Machine

/-- A packet of a ring path is in no cache and leaves no reply in one. -/
theorem takeCommand_of_ha {p : Packet} (h : p.via.port = .ha) (s : State) :
    takeCommand p s = keepTrailer p s (runPacket p s) := by
  have hsource : touchSource p.via s = s := by rw [touchSource, h]; rfl
  have hcache : s.cachedReply p = none := by simp [State.cachedReply, State.cacheOf, h]
  have hreply : newReply p.via s (runPacket p s) = none := by simp [newReply, h]
  simp only [takeCommand, hsource, hcache, hreply]

theorem deliverReply_open (v : Via) (r : Reply) (s : State) : (deliverReply v r s).rab.open_ = s.rab.open_ := by
  rw [deliverReply_frame]

/-- The header of an `ID_READ` from ring HA. -/
def probeHdr : CmdHdr :=
  { via := { port := .ha, slot := 0, room := 0, addr := 0, node := 0, epoch := 0, rport := 0, tag := 0, xid := 0 },
    posted := false, epochCheck := false, seq := 0, target := 0, epoch := 0, originNode := 0, originPort := 0 }

/-- The packet of that `ID_READ`. -/
def probePacket : Packet := { via := probeHdr.via, bytes := packetBytes probeHdr 0x0101 [] }

/-- An open request whose order number is the next one, with a trailer that no packet has. -/
def strayRequest : BrReq :=
  { via := probeHdr.via, posted := false, hdr := probeHdr, opcode := 0x0101, tag := 0, xid := 0, destUid := 0, bytes := [],
    trailer := 2 ^ 32, reserve := 0, sent := false, ord := 0 }

/-- A node in stage 3 with that packet waiting and that request open. -/
def strayState : State :=
  { State.reset with
    sys := { State.reset.sys with power := 3, started := true, stage := 3 },
    cmd := { State.reset.cmd with waitHA := [probePacket] },
    rab := { State.reset.rab with open_ := [strayRequest] } }

/-- The state in which the packet is run. -/
def strayTaken : State := { strayState with cmd := strayState.cmd.popWait 0 }

theorem strayTaken_serves : Serves 0x0101 probeHdr strayTaken where
  power := rfl
  stage := .inl rfl
  cls := ⟨_, rfl, rfl⟩
  target := Nat.zero_le _
  epoch := fun h => h.elim (fun h => absurd rfl h) nofun
  here := rfl

theorem trailerOf_lt (v : Via) (h : CmdHdr) (op : Nat) (params : List Byte) :
    trailerOf ⟨v, packetBytes h op params⟩ < 2 ^ 32 := by
  rw [trailerOf, packetBytes, fromBE_lastN_withTrailer]
  exact crc32c_lt _

theorem exec_idRead_open {h : CmdHdr} {s : State} (H : Serves 0x0101 h s) :
    ∃ t, exec (.idRead h) s = .next t ∧ t.rab.open_ = s.rab.open_ := by
  have hans : Answers (.idRead h) 0x0101 h s stOk _ s.fresh := answers_of H rfl rfl
  exact ⟨_, hans, deliverReply_open h.via _ s.fresh⟩

theorem runPacket_probe_open (s : State) (h : Serves 0x0101 probeHdr s) :
    (runPacket probePacket s).rab.open_ = s.rab.open_ := by
  have hrun : runPacket probePacket = cmdIdRead probeHdr :=
    run_packet probeHdr 0x0101 [] (by decide) (by decide) (by decide) (by decide) _ rfl
  rw [hrun, cmdIdRead, command_served h, deliverReply_open]
  rfl

theorem exec_commandTake_open :
    ∃ t, exec .commandTake strayState = .next t ∧
      t.rab.open_ = [{ strayRequest with trailer := trailerOf probePacket }] := by
  have htake : commandTake strayState.fresh = takeCommand probePacket strayTaken.fresh := rfl
  refine ⟨_, gives_serving rfl (.inl rfl) rfl htake, ?_⟩
  have hserves : Serves 0x0101 probeHdr strayTaken.fresh := strayTaken_serves
  rw [takeCommand_of_ha rfl]
  simp only [keepTrailer, runPacket_probe_open _ hserves]
  rfl

/-- Refutes O50: the request that stands open under the next order number gets the trailer of the `ID_READ` taken from ring HA,
which the command itself leaves alone. -/
theorem not_commandTakeServesThePathsInTurn : ¬ Obligations.CommandTakeServesThePathsInTurn := by
  rintro ⟨-, hspelled, -, -⟩
  have heq := hspelled (.idRead probeHdr) probeHdr 0x0101 [] [] strayState rfl (.inl rfl) rfl rfl rfl rfl rfl rfl
  obtain ⟨t, ht, htake⟩ := exec_commandTake_open
  obtain ⟨u, hu, hread⟩ := exec_idRead_open strayTaken_serves
  obtain rfl : t = u := Host.Outcome.next.inj (ht.symm.trans (heq.trans hu))
  have hstray := List.head_eq_of_cons_eq (htake.symm.trans hread)
  obtain ⟨-, -, -, -, -, -, -, -, htrailer, -⟩ := BrReq.mk.inj hstray
  exact absurd htrailer (Nat.ne_of_lt (trailerOf_lt _ _ _ _))

end Sys2Proof.Proofs
end

section
/-!
The identity and state reads, the image commands, parameter access, and the commands that apply and reset.
-/
namespace Sys2Proof.Proofs
open Sys2Proof Sys2Proof.Machine Sys2Proof.Claims

/-- A long command with room on its path is listed, and its effect acts on the state that lists it. -/
theorem acceptLong_listed {h : CmdHdr} {s : State} (op a b : Nat) (effect : State → State) (hroom : Room h s) :
    acceptLong h op a b effect s = ⟨effect (listed h op a b s), stPending, []⟩ := by
  rw [acceptLong_room op a b effect hroom]
  simp only [listed, beq_iff_eq]

/-- Settles O1. -/
theorem identityAndStateReadsAnswer : Obligations.IdentityAndStateReadsAnswer := by
  refine ⟨fun h s H => answers_of H rfl rfl, fun h s H => answers_of H rfl ?_, fun h unit s H hunit => answers_of H rfl ?_,
    fun h unit s H hunit => answers_of H rfl ?_, fun h s H => answers_of H rfl rfl, fun h data s H => answers_of H rfl rfl⟩
  · simp [ansOk]
  · simp [hunit, ansOk]
  · simp [hunit, ansRange]

/-- Settles O2. -/
theorem imageCommandsStageAndSelect : Obligations.ImageCommandsStageAndSelect := by
  refine ⟨?_, ?_, ?_, ?_, ?_, ?_, ?_, ?_⟩
  · intro h slot length s H hslot hmin hmax hruns hcommitting
    refine answers_of H rfl ?_
    rw [if_neg (Nat.not_lt.mpr hslot), if_neg (by simpa using ⟨hmin, hmax⟩), if_neg (by simp [hruns, hcommitting])]
    rfl
  · intro h slot length s H hslot hlength
    refine answers_of H rfl ?_
    rw [if_neg (Nat.not_lt.mpr hslot), if_pos (by simpa using hlength)]
    rfl
  · intro h offset data g s H hstaging hfits
    refine answers_of H rfl ?_
    simp [ansOk, hstaging, Nat.not_lt.mpr hfits]
  · intro h offset data s H hbeyond
    refine answers_of H rfl ?_
    simp only [State.fresh_sto]
    split
    · rfl
    · next g hstaging => rw [if_pos (hbeyond g hstaging)]; rfl
  · intro h slot s H hroom hslot hruns hcommitting hmram
    refine answers_of H rfl ?_
    rw [acceptLong_listed _ _ _ _ (s := s.fresh) hroom]
    simp [hruns, hcommitting, hmram, Nat.not_lt.mpr hslot]
  · intro h slot s H hslot hbusy
    refine answers_of H rfl ?_
    rw [if_neg (Nat.not_lt.mpr hslot), if_pos (by simpa [or_assoc] using hbusy)]
    rfl
  · intro h slot fallback s H hslot hfallback hcommitting hvalid hmram
    refine answers_of H rfl ?_
    simp [ansOk, hcommitting, hvalid, hmram, Nat.not_lt.mpr hslot, Nat.not_lt.mpr hfallback]
  · intro h slot s H hslot
    refine answers_of H rfl ?_
    simp [ansOk, Nat.not_lt.mpr hslot]

/-- Settles O3. -/
theorem imageCommitEndsByItsChecks : Obligations.ImageCommitEndsByItsChecks := by
  intro l g s hpower hstage hlong hstaging
  refine ⟨fun hgood hmram => ?_, fun hgood hmram => ?_, fun compared hgood hmram => ?_, fun signed compared hfail => ?_⟩
  all_goals
    refine gives_serving hpower hstage rfl ?_
    simp only [commitDone, State.fresh_cmd, State.fresh_sto, State.fresh_stagedGood, State.fresh_pair, hlong, hstaging]
  · simp [hgood, hmram]
  · simp [hgood, hmram]
  · simp [hgood, hmram]
  · rw [if_pos (by simpa using hfail)]

@[simp] theorem fresh_windowValue (s : State) : s.fresh.windowValue = s.windowValue := by cases s; rfl

@[simp] theorem fresh_rangeBad (s : State) : s.fresh.rangeBad = s.rangeBad := by
  funext off v m
  simp only [State.rangeBad, State.fresh_hostSignal, State.fresh_hostRefusal, fresh_windowValue, State.fresh_fieldBad,
    State.fresh_wordBad]

@[simp] theorem fresh_writeFault (s : State) : s.fresh.writeFault = s.writeFault := by
  funext cl off n ws
  simp only [State.writeFault, fresh_rangeBad, State.fresh_stateBad, State.fresh_sys]

/-- A plain register write whose operands fit their width. -/
theorem registerWrite_of_lt {offset value mask : Nat} {s : State} (hvalue : value < 2 ^ 64) (hmask : mask < 2 ^ 64) :
    registerWrite offset value mask s =
      if offset % 8 != 0 || spaceEnd ≤ offset || mask = 0 || s.rangeBad offset value mask ||
          (s.stateBad offset value mask).isSome then s
      else settleDomains (writeNoted .host (offset, value, mask) s) := by
  simp only [registerWrite, Nat.mod_eq_of_lt hvalue, Nat.mod_eq_of_lt hmask]

/-- Settles O4. -/
theorem parameterAccessIsAllOrNothing : Obligations.ParameterAccessIsAllOrNothing := by
  refine ⟨?_, ?_, ?_, ?_, ?_, ?_⟩
  · intro h offset count s H hspan
    refine answers_of H rfl ?_
    simp [hspan, ansOk]
  · intro h offset count s H hspan
    refine answers_of H rfl ?_
    simp [hspan, ansRange]
  · intro h offset words st d s H hfault
    refine answers_of H rfl ?_
    simp only [fresh_writeFault, hfault]
  · intro h offset words s H hpass
    refine answers_of H rfl ?_
    simp only [fresh_writeFault, hpass]
    rfl
  · intro offset value mask s hup haligned hinside hvalue hmask hsome hrange hstate
    refine gives_up hup rfl ?_
    rw [registerWrite_of_lt hvalue hmask, if_neg (by simp [haligned, hsome, hrange, hstate, Nat.not_le.mpr hinside])]
  · intro offset value mask s hup hvalue hmask hfail
    refine gives_up hup rfl ?_
    rw [registerWrite_of_lt hvalue hmask,
      if_pos (by simpa [or_assoc, Option.isSome_iff_ne_none] using hfail)]

theorem serves_fresh {op : Nat} {h : CmdHdr} {s : State} (H : Serves op h s) : Serves op h s.fresh :=
  ⟨H.power, H.stage, H.cls, H.target, H.epoch, H.here⟩

/-- `NODE_RESET` of a kind that exists runs after its own answer. -/
theorem cmdNodeReset_served {h : CmdHdr} {s : State} {kind : Nat} (H : Serves 0x0209 h s) (hkind : kind ≤ 1) :
    cmdNodeReset h kind s = resetKind kind (deliverReply h.via (mkReply h 0x0209 stOk []) s) := by
  have hown : (opClasses 0x0209).any (fun c => c.contains (classOf h.via.port)) = true := by
    obtain ⟨cl, hcl, hmay⟩ := H.cls
    rw [hcl]; exact hmay
  have hepoch : ((h.target != 0 || h.epochCheck) && !s.epochOk h.epoch) = false := by
    by_cases hcheck : h.target ≠ 0 ∨ h.epochCheck = true
    · simp [H.epoch hcheck]
    · simpa using fun hc => absurd hc (by simpa using hcheck)
  simp only [cmdNodeReset, hown, hepoch, H.here, command_served H, H.target, hkind, gt_iff_lt, Nat.not_lt.mpr hkind,
    decide_true, Bool.not_false, Bool.and_self, if_true, if_false]
  rfl

/-- Settles O5. -/
theorem applyAndResetAreArmedAfterTheAnswer : Obligations.ApplyAndResetAreArmedAfterTheAnswer := by
  refine ⟨?_, ?_, ?_, ?_⟩
  · intro h mask cycle s H hroom hmask hbit hahead harmed hprofile
    have hother : bit mask 31 = false := Nat.testBit_lt_two_pow (hmask.trans (by decide))
    have hmod : mask % 2 ^ 31 = mask := Nat.mod_eq_of_lt (hmask.trans (by decide))
    refine answers_of H rfl ?_
    simp only [acceptLong_listed _ _ _ _ (s := s.fresh) hroom, hother, hmod]
    rw [if_neg (by simpa [hbit] using hmask), if_neg (by simp [hahead, harmed, hprofile])]
    rfl
  · intro h s H hstage
    have hserved := cmdNodeReset_served (serves_fresh H) (kind := 0)
    refine gives_serving H.power (.inl hstage) rfl ((hserved (by decide)).trans ?_)
    simp [resetKind, hstage]
  · intro h s H
    have hserved := cmdNodeReset_served (serves_fresh H) (kind := 1)
    exact gives_serving H.power (H.stage.imp_right And.left) rfl (hserved (by decide))
  · intro h kind s H hkind
    have hserved : command 0x0209 h (toBE 1 kind) (fun s => if kind > 1 then ansRange s 0 else ansOk s) s.fresh =
        deliverReply h.via (mkReply h 0x0209 stRange (toBE 4 0)) s.fresh := by
      rw [command_served (serves_fresh H), if_pos hkind]
      rfl
    refine gives_serving H.power (H.stage.imp_right And.left) rfl ?_
    simp only [cmdNodeReset, hserved, Nat.not_le.mpr hkind, decide_false, Bool.and_false, Bool.false_eq_true, if_false]

end Sys2Proof.Proofs
end

section
/-!
Field channels (Chapter 13): what a bank measurement, a sample, a conversion and a wire break do.
-/
namespace Sys2Proof.Proofs
open Sys2Proof Sys2Proof.Machine

/-! Reading a field after a write, a count or a flag at another place. -/

theorem rd_wrB_other (s : State) {f g : Fld} (b : Bool) (h : g.key ≠ f.key) : (s.wrB f b).rd g = s.rd g :=
  State.rd_wr_other s _ h

theorem rd_inc_other (s : State) {f g : Fld} (h : g.key ≠ f.key) : (s.inc f).rd g = s.rd g :=
  State.rd_wr_other s _ h

theorem rd_wrB_same (s : State) (f : Fld) (b : Bool) (h : f.width = 1) : (s.wrB f b).rd f = b2n b := by
  have hw : 1 < 2 ^ f.width := by rw [h]; decide
  have hb : b2n b ≤ 1 := by cases b <;> decide
  rw [State.wrB, State.rd_wr_same, Nat.mod_eq_of_lt (hb.trans_lt hw)]

/-- A field of one bit reads the flag that it stands for. -/
theorem rd_eq_b2n_on (s : State) {f : Fld} (h : f.width = 1) : s.rd f = b2n (s.on f) := by
  have hlt : s.rd f < 2 := by simpa [h] using State.rd_lt s f
  rcases Nat.lt_succ_iff_lt_or_eq.mp hlt with h0 | h1
  · simp [State.on, b2n, Nat.lt_one_iff.mp h0]
  · simp [State.on, b2n, h1]

/-- The words of a channel that a sample moves lie apart from each other and from its mode. -/
theorem sample_keys (c : Nat) : (FC_IN_STATE.f c).key ≠ (FC_FILT_CNT.f c).key ∧ (FC_WBREAK.f c).key ≠ (FC_FILT_CNT.f c).key ∧
    (FC_WBREAK.f c).key ≠ (FC_IN_STATE.f c).key ∧ (FC_IN_STATE.f c).key ≠ (FC_TRANSITIONS.f c).key ∧
    (FC_WBREAK.f c).key ≠ (FC_TRANSITIONS.f c).key ∧ (FC_MODE.f c).key ≠ (FC_FILT_CNT.f c).key ∧
    (FC_MODE.f c).key ≠ (FC_IN_STATE.f c).key ∧ (FC_MODE.f c).key ≠ (FC_TRANSITIONS.f c).key := by
  simp [FC_IN_STATE, FC_FILT_CNT, FC_WBREAK, FC_TRANSITIONS, FC_MODE, Row.f, Fld.key]
  omega

section
variable {c level : Nat} {current : Int} {s : State} (hmode : s.fmode c = 1) (hsteady : (s.chan c).changing = false)
  (hawake : s.bankAsleep c = false) (hdie : s.dieUp (dieOf c) = true) (hclass : sampleClass 1 level current = 1)
include hmode hsteady hawake hdie hclass

/-- A sample of a digital input that counts up without reaching the filter's length. -/
theorem inputSample_counting (hn : s.rd (FC_FILT_CNT.f c) + 1 < s.rd (FC_FILT_N.f c)) : inputSample c level current s =
    (s.wr (FC_FILT_CNT.f c) (s.rd (FC_FILT_CNT.f c) + 1)).wrB (FC_IN_STATE.f c) (s.on (FC_IN_STATE.f c)) := by
  have h0 : Nat.min (s.rd (FC_FILT_CNT.f c)) (s.rd (FC_FILT_N.f c)) = s.rd (FC_FILT_CNT.f c) := Nat.min_eq_left (by omega)
  have h1 : Nat.min (s.rd (FC_FILT_CNT.f c) + 1) (s.rd (FC_FILT_N.f c)) = s.rd (FC_FILT_CNT.f c) + 1 :=
    Nat.min_eq_left (by omega)
  simp [inputSample, hmode, hsteady, hawake, hdie, hclass, h0, h1, Nat.ne_of_lt hn]

/-- A sample of a digital input, off until now, that reaches the filter's length. -/
theorem inputSample_reaching (hoff : s.on (FC_IN_STATE.f c) = false)
    (hn : s.rd (FC_FILT_CNT.f c) + 1 = s.rd (FC_FILT_N.f c)) : inputSample c level current s =
    ((s.wr (FC_FILT_CNT.f c) (s.rd (FC_FILT_N.f c))).wrB (FC_IN_STATE.f c) true).inc (FC_TRANSITIONS.f c) := by
  have h0 : Nat.min (s.rd (FC_FILT_CNT.f c)) (s.rd (FC_FILT_N.f c)) = s.rd (FC_FILT_CNT.f c) := Nat.min_eq_left (by omega)
  have h1 : Nat.min (s.rd (FC_FILT_CNT.f c) + 1) (s.rd (FC_FILT_N.f c)) = s.rd (FC_FILT_N.f c) := Nat.min_eq_right (by omega)
  have hpos : s.rd (FC_FILT_N.f c) ≠ 0 := by omega
  simp [inputSample, hmode, hsteady, hawake, hdie, hclass, h0, h1, hoff, hpos]

end

/-- Where neither the input's state nor its wire break changes, no image is presented. -/
theorem withImage_quiet {c : Nat} {f : State → State} {s : State} (hstate : (f s).rd (FC_IN_STATE.f c) = s.rd (FC_IN_STATE.f c))
    (hbreak : (f s).rd (FC_WBREAK.f c) = s.rd (FC_WBREAK.f c)) : withImage c f s = f s := by
  simp [withImage, hstate, hbreak]

/-- Where the state of a running input changes, the image is presented. -/
theorem withImage_changed {c : Nat} {f : State → State} {s : State} (hrun : s.sys.started = true)
    (hstate : (f s).rd (FC_IN_STATE.f c) ≠ s.rd (FC_IN_STATE.f c)) (hmode : (f s).fmode c ≤ 2) :
    withImage c f s = presentDigital (f s) := by
  simp [withImage, hrun, hstate.symm, hmode]

/-- The mode of a channel whose die's link is up is that of its registers. -/
theorem dieCfg_mode {s : State} {c : Nat} (hdie : s.dieUp (dieOf c) = true) : (s.dieCfg c).mode = s.fmode c := by
  simp [State.dieCfg, hdie, State.coreCfg]

theorem dieCfg_keep {s : State} {c : Nat} (hdie : s.dieUp (dieOf c) = true) : (s.dieCfg c).keep = s.on (FC_SAFE_LATCH.f c) := by
  simp [State.dieCfg, hdie, State.coreCfg]

@[simp] theorem fresh_dieCfg (s : State) : s.fresh.dieCfg = s.dieCfg := by cases s; rfl

/-- Settles O6. -/
theorem fieldInputsFilterAndMeasure : Obligations.FieldInputsFilterAndMeasure := by
  refine ⟨?_, ?_, ?_, ?_, ?_, ?_, ?_⟩
  · intro b mv s hrun hb hdie hsame
    refine gives_running hrun rfl ((if_pos hb).trans ?_)
    simp only [measureBank, State.fresh_fld, State.fresh_dieUp, hdie, hsame, Bool.not_true, Bool.false_eq_true, if_false,
      if_true]
  · intro b mv s hrun hb hdie hok hlow
    refine gives_running hrun rfl ((if_pos hb).trans ?_)
    simp [-List.getD_eq_getElem?_getD, measureBank, hdie, hok, hlow]
  · intro c level current s hrun hc hmode hsteady hawake hdie hclass hn
    obtain ⟨hin, hbreak, hbreakIn, -⟩ := sample_keys c
    have hsample := inputSample_counting (s := s.fresh) hmode hsteady hawake hdie hclass hn
    refine gives_running hrun rfl ((if_pos hc).trans ?_)
    rw [withImage_quiet, hsample]
    · rfl
    · rw [hsample, rd_wrB_same _ _ _ rfl, State.fresh_on, State.fresh_rd, rd_eq_b2n_on s rfl]
    · rw [hsample, rd_wrB_other _ _ hbreakIn, State.rd_wr_other _ _ hbreak]
  · intro c level current s hrun hc hmode hsteady hawake hdie hclass hoff hn
    obtain ⟨hin, -, -, htrans, -, hmodeCnt, hmodeIn, hmodeTrans⟩ := sample_keys c
    have hsample := inputSample_reaching (s := s.fresh) hmode hsteady hawake hdie hclass hoff hn
    refine gives_running hrun rfl ((if_pos hc).trans ?_)
    rw [withImage_changed (s := s.fresh) hrun.2, hsample]
    · rfl
    · rw [hsample, rd_inc_other _ htrans, rd_wrB_same _ _ _ rfl, State.fresh_rd, rd_eq_b2n_on s rfl, hoff]
      decide
    · rw [hsample, State.fmode, rd_inc_other _ hmodeTrans, rd_wrB_other _ _ hmodeIn, State.rd_wr_other _ _ hmodeCnt]
      exact hmode.le.trans (by decide)
  · intro c code s hrun hc hmode hsteady hdie
    refine gives_running hrun rfl ((if_pos hc).trans ?_)
    simp [loopConversion, hmode, hsteady, hdie]
  · intro c code s hrun hc hmode hsteady hdie hawake
    refine gives_running hrun rfl ((if_pos hc).trans ?_)
    simp [loopConversion, hmode, hsteady, hdie, hawake]
  · intro c s hrun hc hdie hmode hwhole hmeas
    refine gives_running hrun rfl ((if_pos hc).trans ?_)
    simp [loopBreak, hmode, hdie, hwhole, hmeas]

/-- Settles O7. -/
theorem fieldOutputsLatchAndExpire : Obligations.FieldOutputsLatchAndExpire := by
  refine ⟨?_, ?_, ?_, ?_, ?_, ?_, ?_, ?_, ?_, ?_, ?_⟩
  · intro c s hrun hc hmode hlevel hbank hlatch hdie
    refine gives_running hrun rfl ((if_pos hc).trans ?_)
    simp [overcurrent, dieCfg_mode hdie, hmode, hlevel, hbank, hlatch, hdie]
  · intro c s hrun hc hmode hlatch hdie
    refine gives_running hrun rfl ((if_pos hc).trans ?_)
    simp [overtemperature, dieCfg_mode hdie, hmode, hlatch, hdie]
  · intro c s hrun hc hmode hlatch hdie
    refine gives_running hrun rfl ((if_pos hc).trans ?_)
    simp [overtemperature, hmode, hlatch, hdie]
  · intro c s hrun hc hdie hopen
    refine gives_running hrun rfl ((if_pos hc).trans ?_)
    simp [openLoad, hdie, hopen]
  · intro c s hrun hc hdie hopen hen hmode hlevel hpaired hbank
    refine gives_running hrun rfl ((if_pos hc).trans ?_)
    simp [openLoad, hdie, hopen, hen, hmode, hlevel, hpaired, hbank]
  · intro c energy mw s hrun hc hdie henergy hmw
    refine gives_running hrun rfl ((if_pos hc).trans ?_)
    simp [demagnetised, hdie, Nat.not_lt.mpr henergy, Nat.not_lt.mpr hmw]
  · intro c energy mw s hrun hc hdie henergy hmw
    refine gives_running hrun rfl ((if_pos hc).trans ?_)
    simp [demagnetised, hdie, henergy, Nat.not_lt.mpr hmw]
  · intro c s hrun hc hdie hmode hwas hlow hbank hfault
    refine gives_running hrun rfl ((if_pos hc).trans ?_)
    simp [compliance, hdie, hmode, hwas, hlow, hbank, hfault]
  · intro c s hrun hc hdie hmode hwas hnear hlatch
    refine gives_running hrun rfl ((if_pos hc).trans ?_)
    simp [compliance, hdie, hmode, hwas, hnear, hlatch]
  · intro c s hrun hc hout hrunning hdie
    refine gives_running hrun rfl ((if_pos hc).trans ?_)
    simp [expireWatchdog, dieCfg_mode hdie, dieCfg_keep hdie, hout, hrunning, hdie]
  · intro c s hrun hc hheld hdie
    refine gives_running hrun rfl ((if_pos hc).trans ?_)
    simp [expireHold, hheld, hdie]

end Sys2Proof.Proofs
end

section
/-!
The redundant pair, the feeds, release and wake, and the power ladder (Chapters 14 to 16).
-/
namespace Sys2Proof.Proofs
open Sys2Proof Sys2Proof.Machine

/-- Settles O8. -/
theorem pairPathsAndHealth : Obligations.PairPathsAndHealth := by
  refine ⟨?_, fun s hrun => ⟨gives_running hrun rfl rfl, gives_running hrun rfl rfl⟩, ?_, ?_, ?_, ?_, ?_, ?_, ?_, ?_,
    fun uid s hrun => ⟨gives_running hrun rfl rfl, gives_running hrun rfl rfl⟩⟩
  · intro s hrun hpair hpassive hdeclared
    refine gives_running hrun rfl ?_
    simp [mirrorStale, hpair, hpassive, hdeclared]
  · intro level s hrun hpair
    exact gives_running hrun rfl (if_pos hpair)
  · intro level s hrun hpair
    exact gives_running hrun rfl (if_neg (by simpa using hpair))
  · intro s hrun hpair
    refine gives_running hrun rfl ?_
    simp only [guidonSend, State.fresh_isPair, hpair, State.fresh_pair, Bool.not_true, Bool.false_eq_true, if_false]
  · intro hdr mirror s hrun hpair hlen
    refine gives_running hrun rfl ?_
    simp [halyardFrame, hpair, hlen]
  · intro hdr mirror s hrun hpair hlen hcrc hflag hbad
    refine gives_running hrun rfl ?_
    simp [halyardFrame, hpair, hlen, hcrc, hflag, hbad]
  · intro hdr mirror bitmap codes s hrun hpair hlen hcrc hflag hgood hknown
    refine gives_running hrun rfl ?_
    simp [halyardFrame, hpair, hlen, hcrc, hflag, hgood, hknown]
  · intro mac hdr s hrun hpair hfacing hpath
    refine gives_running hrun rfl (if_neg ?_)
    simp only [State.fresh_isPair, State.fresh_facingEnds, State.fresh_on, hpair, hfacing, hpath]
    decide
  · intro s hrun hpair
    refine ⟨gives_running hrun rfl ?_, gives_running hrun rfl ?_⟩ <;> simp [guidonMiss, hpair]

/-- Settles O9. -/
theorem feedsSwitchRideAndFail : Obligations.FeedsSwitchRideAndFail := by
  refine ⟨?_, ?_, ?_, ?_, ?_, ?_, ?_, ?_⟩
  · intro mv s hvalid harb hother
    refine gives_act rfl ((if_pos (by decide)).trans ?_)
    simp only [State.feed, if_true, Nat.reduceEqDiff, if_false] at hvalid hother
    simp [feedChange, feedGone, State.feed, State.setFeed, countPwr, otherFeed, hvalid, harb, hother]
  · intro mv s hvalid harb hother
    refine gives_act rfl ((if_pos (by decide)).trans ?_)
    simp only [State.feed, if_true, Nat.reduceEqDiff, if_false] at hvalid hother
    simp [feedChange, feedGone, State.feed, State.setFeed, countPwr, otherFeed, hvalid, harb, hother]
  · intro f s hf hpending hoff hshut
    refine gives_act rfl ((if_pos ⟨hf, hpending⟩).trans (if_pos ?_))
    rcases hf with rfl | rfl <;> simp [State.setFeed, hoff, hshut]
  · intro s harb
    exact gives_act rfl (if_pos harb)
  · intro die s hpower
    exact gives_act rfl (if_neg (Nat.not_lt.mpr hpower))
  · intro ns s hpower hlong
    refine gives_act rfl ?_
    have hns : ¬ns < 1000 := by omega
    simp [resetPulse, hpower, hlong, hns]
  · intro ns s hpower hmin hmax
    refine gives_act rfl ?_
    simp only [resetPulse, State.fresh_sys, hpower, Nat.not_lt.mpr hmin, Nat.not_le.mpr hmax, decide_false, Bool.or_self,
      Bool.false_eq_true, if_false]
  · intro ns s hshort
    refine gives_act rfl (if_pos ?_)
    simp [hshort]

/-- Settles O10. -/
theorem releaseBootAndWakeStartTheNode : Obligations.ReleaseBootAndWakeStartTheNode := by
  refine ⟨?_, ?_, ?_, ?_, ?_, ?_⟩
  · intro b s hpower hboot
    refine gives_act rfl ?_
    simp only [release_, State.fresh_sys, hpower, hboot, bne_self_eq_false, Bool.false_eq_true, if_false, decide_true,
      Bool.or_true, if_true]
  · intro slot k fallback s hpower hstarted hchecking hgood
    refine gives_released hpower rfl ?_
    simp only [checkDone, State.fresh_sto, State.fresh_sys, State.fresh_slotBytes, hchecking, hstarted, hgood,
      bne_self_eq_false, Bool.false_eq_true, if_false]
  · intro slot k r s hpower hstarted hchecking hbad
    refine gives_released hpower rfl ?_
    simp only [checkDone, State.fresh_sto, State.fresh_sys, State.fresh_slotBytes, hchecking, hstarted, hbad,
      bne_self_eq_false, Bool.false_eq_true, if_false, if_true]
  · intro slot k r s hpower hstarted hchecking hbad
    refine gives_released hpower rfl ?_
    simp only [checkDone, State.fresh_sto, State.fresh_sys, State.fresh_slotBytes, hchecking, hstarted, hbad,
      bne_self_eq_false, Bool.false_eq_true, if_false]
  · intro source pes seconds s hpower hsource hmask hnone
    refine gives_act rfl ?_
    have h5 : ¬source > 5 := by omega
    simp [wakeUp, hpower, h5, hmask, hnone, hsource.ne]
  · intro s hshut hcool hA hB
    refine gives_act rfl ?_
    simp only [thermalRestart, State.fresh_lad, hshut, hcool, Bool.and_self, if_true]
    simp [hA, hB]

@[simp] theorem setTj_sys (tj : List Int) (s : State) : (setTj tj s).sys = s.sys := rfl

/-- Settles O11. -/
theorem ladderAndThermalStepByStep : Obligations.LadderAndThermalStepByStep := by
  refine ⟨?_, ?_, ?_, ?_, ?_, ?_, ?_, ?_, ?_, ?_, ?_, ?_, ?_⟩
  · intro d s hrun hd hdeep hclear
    refine gives_running hrun rfl ?_
    simp [descend, Nat.not_lt.mpr hd, Nat.not_lt.mpr hdeep, hclear]
  · intro d s hrun hd hdeep hclear
    refine gives_running hrun rfl ?_
    simp [descend, hclear]
  · intro d s hrun hd hrung hclear
    refine gives_running hrun rfl ?_
    simp [ascend, Nat.not_lt.mpr hd, hrung, hclear]
  · intro d s hrun hd hrung
    exact gives_running hrun rfl ((if_neg (Nat.not_lt.mpr hd)).trans (if_neg hrung))
  · intro tj s hpower hmax hmin hstate
    refine gives_act rfl ?_
    have hnot : ¬1350 ≤ (setTj tj s.fresh).tjMax := by omega
    simp [thermalSample, hpower, hnot, hmin, hstate]
  · intro tj s hpower hmax hstate
    refine gives_act rfl ?_
    have hnot : ¬1350 ≤ (setTj tj s.fresh).tjMax := by omega
    simp [thermalSample, hpower, hnot, hmax, hstate]
  · intro tj s hpower hmin
    refine gives_act rfl (if_pos ?_)
    simpa using ⟨hmin, hpower⟩
  · intro s hrun hstate hhot hstep
    refine gives_running hrun rfl ?_
    simp [throttleStep, hstate, hhot, hstep]
  · intro s hrun hstate hcool hshed hstep
    refine gives_running hrun rfl ?_
    have hnot : ¬1200 ≤ s.tjMax := by omega
    simp [throttleStep, hstate, hcool, hshed, hstep, hnot]
  · intro s hrun hstate hhot hstep hshed
    refine gives_running hrun rfl ?_
    simp [shedStep, hstate, hhot, hstep, hshed]
  · intro s hrun hstate hcool hshed
    refine gives_running hrun rfl ?_
    have hnot : ¬1200 ≤ s.tjMax := by omega
    simp [shedStep, hstate, hcool, hshed, hnot]
  · intro s hrun hen hcool hstep
    refine gives_running hrun rfl ?_
    simp [ecoStep, hen, hcool, hstep]
  · intro s hrun hstate hstep
    refine gives_running hrun rfl ?_
    simp [ecoStep, hstate, hstep]

end Sys2Proof.Proofs
end

section
/-!
Commands of time, position, events, the train and signals.
-/
namespace Sys2Proof.Proofs
open Sys2Proof Sys2Proof.Machine Sys2Proof.Claims

/-! `TIME_STEP` keeps, beside the three words of the step, the reference that was active when the step was armed (`armStep`). -/

theorem answers_timeStep {h : CmdHdr} {cycle step : Nat} {s : State} (H : Serves 0x0302 h s) (hroom : Room h s)
    (hahead : 4 ≤ s.ahead cycle) (hstep : toSigned 64 step ≠ 0) (hnow : 0 ≤ (s.clk.now : Int) + toSigned 64 step)
    (hlead : s.isLead = true) (harmed : s.on TIM_STEP_ARMED.f = false) :
    Answers (.timeStep h cycle step) 0x0302 h s stPending []
      (armStep cycle (toSigned 64 step) (listed h 0x0302 cycle 0 s.fresh)) := by
  refine answers_of H rfl ?_
  simp only [acceptLong_listed _ _ _ _ (s := s.fresh) hroom, State.fresh_ahead, State.fresh_clk, State.fresh_isLead,
    State.fresh_on]
  rw [if_neg (by simp; omega), if_neg (by simpa using ⟨hstep, hnow⟩), if_neg (by simp [hlead, harmed]; omega)]

theorem armStep_stepRef (cycle : Nat) (step : Int) (s : State) :
    (armStep cycle step s).tim.stepRef = s.rd TIM_REF_ACTIVE.f := rfl

theorem listed_rd (h : CmdHdr) (op a b : Nat) (s : State) {f : Fld} (h0 : f.key ≠ (CMD_Hx_PENDING.f 0).key)
    (h1 : f.key ≠ (CMD_Hx_PENDING.f 1).key) : (listed h op a b s).rd f = s.rd f := by
  rw [listed, State.syncPending, State.rd_wr_other _ _ h1, State.rd_wr_other _ _ h0]
  rfl

/-- A Lead in stage 3 that remembers reference 0, while none is active. -/
def leadState : State :=
  State.wr { State.reset with
      sys := { State.reset.sys with power := 3, started := true, stage := 3 },
      tim := { State.reset.tim with stepRef := 0 } } TCY_STATE.f 6

theorem leadState_serves : Serves 0x0302 probeHdr leadState where
  power := rfl
  stage := .inl rfl
  cls := ⟨_, rfl, rfl⟩
  target := Nat.zero_le _
  epoch := fun h => h.elim (fun h => absurd rfl h) nofun
  here := rfl

theorem leadState_noReference : leadState.rd TIM_REF_ACTIVE.f = 15 := by decide

/-- Refutes O12: arming a step also notes the active reference, so the Lead that remembers reference 0 while none is active
does not keep what it remembers. -/
theorem not_timeCommandsReadArmAndLimit : ¬ Obligations.TimeCommandsReadArmAndLimit := by
  rintro ⟨-, harm, -⟩
  have hahead : 4 ≤ leadState.ahead 4 := by decide
  have hroom : Room probeHdr leadState := show leadState.longCount .ha < 16 by decide
  have hclaim := harm probeHdr 4 1 leadState leadState_serves hroom hahead (by decide) (by decide) (by decide) (by decide)
  have hmodel := answers_timeStep leadState_serves hroom hahead (step := 1) (by decide) (by decide) (by decide) (by decide)
  have hsame := congrArg (fun t => t.tim.stepRef) (Host.Outcome.next.inj (hmodel.symm.trans hclaim))
  simp only [deliverReply_tim, armStep_stepRef] at hsame
  rw [listed_rd _ _ _ _ _ (by decide) (by decide), State.fresh_rd, leadState_noReference] at hsame
  exact absurd hsame (by decide)

/-- Settles O13. -/
theorem positionAndWindowCommandsAnswer : Obligations.PositionAndWindowCommandsAnswer := by
  refine ⟨?_, ?_, ?_, fun h s H => answers_of H rfl ?_, ?_, ?_⟩
  · intro h s H
    refine answers_of H rfl ?_
    simp [ansOk, State.positionNow]
  · intro h position time d s H hns hpast hrecent hodo hdelta hlimit
    refine answers_of H rfl ?_
    have hwithin : ¬(s.pos.valid = true ∧ s.rd POS_BALISE_MAX_UM.f * 2 ^ 32 < d.natAbs) := fun ⟨hv, hd⟩ =>
      Nat.not_lt.mpr (hlimit hv) hd
    simp only [State.fresh_ts, State.fresh_on, hodo, State.fresh_baliseDelta, hdelta, State.fresh_pos, State.fresh_rd]
    rw [if_neg (by simp; omega), if_neg (by decide), if_neg (by simpa using hwithin)]
    rfl
  · intro h position time d s H hns hpast hrecent hodo hdelta hvalid hlimit
    refine answers_of H rfl ?_
    simp only [State.fresh_ts, State.fresh_on, hodo, State.fresh_baliseDelta, hdelta, State.fresh_pos, State.fresh_rd]
    rw [if_neg (by simp; omega), if_neg (by decide), if_pos (by simpa using ⟨hvalid, hlimit⟩)]
    rfl
  · simp [ansOk]
  · intro h mask start duration n s H hmask hstart hmin hmax hpast hfree
    refine answers_of H rfl ?_
    simp only [State.fresh_windowPast, hpast, State.fresh_freeWindow, hfree]
    rw [if_neg (by omega), if_neg (by omega), if_neg (by simp; omega), if_neg (by decide)]
    rfl
  · intro h mask start duration s H hmask hstart hmin hmax hpast hfree
    refine answers_of H rfl ?_
    simp only [State.fresh_windowPast, hpast, State.fresh_freeWindow, hfree]
    rw [if_neg (by omega), if_neg (by omega), if_neg (by simp; omega), if_neg (by decide)]
    rfl

/-- Settles O14. -/
theorem eventCommandsEditTheTable : Obligations.EventCommandsEditTheTable := by
  refine ⟨?_, ?_, ?_, ?_, ?_, ?_, ?_, ?_⟩
  · intro h entry i s H hgood haction hfree
    refine answers_of H rfl ?_
    simp [hgood, haction, hfree, ansOk]
  · intro h entry o s H hbad
    refine answers_of H rfl ?_
    simp [hbad, ansRange]
  · intro h entry s H hgood haction hfull
    refine answers_of H rfl ?_
    simp [hgood, haction, hfull, ansBusy]
  · intro h index s H hindex
    exact answers_of H rfl (if_neg (Nat.not_lt.mpr hindex))
  · intro h index e s H hindex hentry
    refine answers_of H rfl ((if_neg (Nat.not_lt.mpr hindex)).trans ?_)
    simp [hentry, ansOk]
  · intro h index s H hindex hfree
    refine answers_of H rfl ((if_neg (Nat.not_lt.mpr hindex)).trans ?_)
    simp [hfree, ansOk]
  · intro h index s H hindex
    exact answers_of H rfl (if_pos hindex)
  · intro h index s H hindex
    exact answers_of H rfl (if_pos hindex)

/-- Settles O15. -/
theorem trainCommandsAnnounceAndRead : Obligations.TrainCommandsAnnounceAndRead := by
  refine ⟨?_, ?_, ?_, ?_, ?_, ?_, ?_, ?_, ?_, ?_⟩
  · intro h reason s H hroom
    exact answers_of H rfl (acceptLong_listed _ _ _ _ (s := s.fresh) hroom)
  · intro h s H
    refine answers_of H rfl ?_
    simp [ansOk]
  · intro h p s H hmin hmax hproposal
    refine answers_of H rfl ?_
    simp [ansOk, hmin, hmax, hproposal]
  · intro h which s H hwhich
    exact answers_of H rfl (if_pos hwhich)
  · intro h s H
    refine answers_of H rfl ?_
    simp [ansOk]
  · intro h cycle s H hroom hahead hlead harmed hen
    refine answers_of H rfl ?_
    simp only [acceptLong_listed _ _ _ _ (s := s.fresh) hroom, State.fresh_ahead, State.fresh_isLead, State.fresh_on, hlead,
      harmed, hen]
    rw [if_neg (by simp; omega), if_neg (by simp; omega)]
    rfl
  · intro h cycle s H hmin hmax
    exact answers_of H rfl (if_pos (by simpa using ⟨hmin, hmax⟩))
  · intro h cycle s H hahead hlead
    refine answers_of H rfl ?_
    simp only [State.fresh_ahead, State.fresh_isLead, hlead]
    rw [if_neg (by simp; omega), if_pos (by simp)]
    rfl
  · intro h pe mask s H hpe hmask
    refine answers_of H rfl ?_
    rw [if_neg (Nat.not_lt.mpr hpe), if_neg (Nat.not_lt.mpr hmask)]
    rfl
  · intro h cycle s H hroom hahead hlead hswitch happly hhoist hready hfaulty
    refine answers_of H rfl ?_
    simp only [acceptLong_listed _ _ _ _ (s := s.fresh) hroom, State.fresh_ahead, State.fresh_isLead, State.fresh_rd,
      State.fresh_tcy, State.fresh_sto, State.fresh_slotShadow, hlead, hswitch, happly, hhoist, hready, hfaulty]
    rw [if_neg (by simp [hahead])]
    rfl

/-- Settles O16. -/
theorem signalCommandsReadWriteAndSwitch : Obligations.SignalCommandsReadWriteAndSwitch := by
  refine ⟨?_, ?_, ?_, ?_, ?_, ?_, ?_, ?_, ?_, ?_, ?_, ?_⟩
  · intro h index count s H hmin hmax hend
    refine answers_of H rfl ?_
    rw [if_neg (by omega), if_neg (by simp; omega), if_neg (by omega)]
    simp [ansOk]
  · intro h index count s H hindex hcount
    refine answers_of H rfl ?_
    rw [if_neg (Nat.not_le.mpr hindex), if_pos (by simpa using hcount)]
    rfl
  · intro h index value s H hgood
    refine answers_of H rfl ?_
    simp [hgood, ansOk]
  · intro h index value pos s H hbad
    refine answers_of H rfl ?_
    simp [hbad, ansRange]
  · intro h index value pos s H hbad
    refine answers_of H rfl ?_
    simp only [State.fresh_hostRefusal, hbad]
    exact if_neg (by decide)
  · intro c index value s hup hclass hgood
    refine gives_up hup rfl ?_
    have hmay : windowClass c = true := by
      cases c with
      | maint => exact absurd rfl hclass
      | safety | host | train => rfl
    simp [windowWrite, hmay, hgood]
  · intro c index value s hup hrefused
    refine gives_up hup rfl (if_neg ?_)
    rcases hrefused with rfl | hbad
    · exact Bool.false_ne_true
    · simp [hbad]
  · intro h index profile s H hindex hprofile
    refine answers_of H rfl ?_
    rw [if_neg (Nat.not_le.mpr hindex), if_neg (Nat.not_lt.mpr hprofile)]
    simp [ansOk]
  · intro h index profile entry d s H hindex hprofile hlen hcover hgood hsrc halt hfan
    refine answers_of H rfl ?_
    have hmasked : ¬(profile ≠ 0 ∧ bit (smeOf (s.record index)).altMask profile = false) := fun ⟨h0, hclear⟩ =>
      halt.elim h0 (fun hset => by rw [hclear] at hset; cases hset)
    simp only [smeWrite, State.fresh_binding, State.fresh_recordIndex, State.fresh_smeFault, State.fresh_record, hcover, hgood,
      hfan, hsrc]
    rw [if_neg (by simp [hlen]), if_neg (Nat.not_le.mpr hindex), if_neg (Nat.not_lt.mpr hprofile), if_neg (by simp),
      if_neg (by simp), if_neg (by simp), if_neg (by simpa using hmasked)]
    rfl
  · intro h index profile o entry d s H hindex hprofile hlen hcover hbad
    refine answers_of H rfl ?_
    simp only [smeWrite, State.fresh_binding, State.fresh_smeFault, hcover, hbad]
    rw [if_neg (by simp [hlen]), if_neg (Nat.not_le.mpr hindex), if_neg (Nat.not_lt.mpr hprofile), if_neg (by simp)]
    rfl
  · intro h profile cycle s H hroom hprofile harmed hable hahead
    refine answers_of H rfl ?_
    rw [acceptLong_listed _ _ _ _ (s := s.fresh) hroom]
    simp [Nat.not_lt.mpr hprofile, harmed, hable, hahead]
  · intro h s H
    refine answers_of H rfl ?_
    simp [ansOk]

end Sys2Proof.Proofs
end

section
/-!
Commands of field channels, power, the pair, the recorder and ports.
-/
namespace Sys2Proof.Proofs
open Sys2Proof Sys2Proof.Machine Sys2Proof.Claims

/-- Settles O17. -/
theorem fieldCommandsConfigureAndDrive : Obligations.FieldCommandsConfigureAndDrive := by
  refine ⟨?_, ?_, ?_, ?_, ?_, ?_, ?_, ?_, ?_, ?_, fun h channel s H => answers_of H rfl rfl⟩
  · intro h channel config s H hchannel hlen hgood hzero
    refine answers_of H rfl ?_
    simp [hlen, hgood, hzero, Nat.mod_eq_of_lt hchannel, ansOk]
  · intro h channel config s H hlen hbad
    refine answers_of H rfl ((if_neg (by simp [hlen])).trans ((if_pos ?_).trans rfl))
    simpa using hbad
  · intro h first count s H hmin hmax
    refine answers_of H rfl ?_
    rw [if_neg (by simp; omega), if_neg (by omega)]
    simp [ansOk]
  · intro h mask levels s H hmask hlevels hown
    have hnone : (bitsOf 256 (fromBE mask)).find? (fun c => !s.hostOwned 3 c) = none := by
      simpa using hown
    refine answers_of H rfl ?_
    simp only [State.fresh_hostOwned, hmask, hlevels, hnone, bne_self_eq_false, Bool.or_self, Bool.false_eq_true, if_false,
      ansOk]
  · intro h mask levels c s H hmask hlevels hfirst
    refine answers_of H rfl ?_
    simp only [State.fresh_hostOwned, hmask, hlevels, hfirst, bne_self_eq_false, Bool.or_self, Bool.false_eq_true, if_false,
      ansConflict]
  · intro h channel code s H hcode hown
    refine answers_of H rfl ?_
    simp [Nat.not_lt.mpr hcode, hown, ansOk]
  · intro h channel code s H hcode
    exact answers_of H rfl (if_pos hcode)
  · intro h channel code s H hcode hother
    refine answers_of H rfl ?_
    simp [Nat.not_lt.mpr hcode, hother, ansConflict]
  · intro h channel safe watchdog s H hlevel hreserved hmin hmax
    have hzero : watchdog ≠ 0 := by omega
    refine answers_of H rfl ?_
    simp [hlevel, hreserved, hzero, Nat.not_lt.mpr hmax, ansOk, writeSafe]
  · intro h channel safe watchdog s H hlevel hreserved hbad
    refine answers_of H rfl ?_
    simp [hlevel, hreserved, hbad, ansRange]

/-- Settles O18. -/
theorem powerCommandsReadAndSetFloors : Obligations.PowerCommandsReadAndSetFloors := by
  refine ⟨fun h s H => answers_of H rfl ?_, ?_, ?_, ?_, ?_, ?_, ?_, ?_, fun h s H => answers_of H rfl ?_, ?_, ?_⟩
  · simp [ansOk]
  · intro h domain rung s H hdomain hrung
    exact answers_of H rfl ((if_neg (Nat.not_lt.mpr hdomain)).trans (if_neg (Nat.not_lt.mpr hrung)))
  · intro h domain rung s H hdomain
    exact answers_of H rfl (if_pos hdomain)
  · intro h domain rung s H hdomain hrung
    exact answers_of H rfl ((if_neg (Nat.not_lt.mpr hdomain)).trans (if_pos hrung))
  · intro h feed s H hfeed
    exact answers_of H rfl (if_neg (Nat.not_lt.mpr hfeed))
  · intro h feed s H hfeed
    exact answers_of H rfl (if_pos hfeed)
  · intro feed s hup hfeed
    exact gives_up hup rfl (if_pos (by simpa using hfeed))
  · intro c feed s hup hrefused
    refine gives_up hup rfl (if_neg ?_)
    rcases hrefused with hclass | hfeed
    · simp [hclass]
    · simp [Nat.not_le.mpr hfeed]
  · simp [ansOk]
  · intro h floor s H hfloor
    exact answers_of H rfl (if_neg (Nat.not_lt.mpr hfloor))
  · intro h floor s H hfloor
    exact answers_of H rfl (if_pos hfloor)

/-- Settles O19. -/
theorem pairCommandsGuardAndFailOver : Obligations.PairCommandsGuardAndFailOver := by
  refine ⟨fun h s H => answers_of H rfl ?_, ?_, ?_, ?_, ?_, ?_, fun s hrun hlow => gives_running hrun rfl (if_pos hlow)⟩
  · simp [ansOk]
  · intro h channels s H hlen hdistinct hpaired
    refine answers_of H rfl ((if_neg (Nat.not_lt.mpr hlen)).trans ?_)
    simp only [State.fresh_on, State.fresh_fmode, hdistinct, hpaired, ansOk]
  · intro h channels s H hlen
    exact answers_of H rfl (if_pos hlen)
  · intro h channels c s H hlen hdistinct hfirst
    refine answers_of H rfl ((if_neg (Nat.not_lt.mpr hlen)).trans ?_)
    simp only [State.fresh_on, State.fresh_fmode, hdistinct, hfirst, ansConflict]
  · intro h s H hroom hpair hactive hready
    refine answers_of H rfl ?_
    rw [acceptLong_listed _ _ _ _ (s := s.fresh) hroom]
    simp [hpair, hactive, hready]
  · intro h s H hcannot
    exact answers_of H rfl (if_pos (by simpa [or_assoc] using hcannot))

/-! `RECORDER_READ` refuses a start time whose nanoseconds are 10^9 or more. -/

theorem answers_recorderRead_badTime {h : CmdHdr} {start : Nat} (signal records : Nat) {s : State} (H : Serves 0x0B03 h s)
    (hstart : 999999999 < start % 2 ^ 30) :
    Answers (.recorderRead h start signal records) 0x0B03 h s stRange (toBE 4 0) s.fresh :=
  answers_of H rfl (if_pos hstart)

/-- On a ring, a command that expects its reply shows the status. -/
theorem answers_status_unique {c : Instr} {op : Nat} {h : CmdHdr} {s : State} {st st' : Nat} {d d' : List Byte}
    (hport : h.via.port = .ha) (hposted : h.posted = false) (A : Answers c op h s st d s.fresh)
    (B : Answers c op h s st' d' s.fresh) : st = st' := by
  have hsame := congrArg State.out (Host.Outcome.next.inj (A.symm.trans B))
  simp only [deliverReply, hport, ringReply, mkReply, hposted, Bool.false_and, Bool.false_eq_true, if_false, State.emit_out,
    State.fresh_out, List.nil_append, List.cons_append, List.cons.injEq, Output.reply.injEq, Reply.mk.injEq, and_true,
    true_and] at hsame
  exact hsame.1.1.1

/-- A node in stage 3. -/
def plainState : State :=
  { State.reset with sys := { State.reset.sys with power := 3, started := true, stage := 3 } }

theorem plainState_serves : Serves 0x0B03 probeHdr plainState where
  power := rfl
  stage := .inl rfl
  cls := ⟨_, rfl, rfl⟩
  target := Nat.zero_le _
  epoch := fun h => h.elim (fun h => absurd rfl h) nofun
  here := rfl

/-- Refutes O20: `RECORDER_READ` of a start time with 2^30 − 1 ns is answered `RANGE`. -/
theorem not_semaphoreAndDiagnosticCommandsAnswer : ¬ Obligations.SemaphoreAndDiagnosticCommandsAnswer := by
  rintro ⟨-, -, -, -, -, -, -, hread, -⟩
  have hclaim := hread probeHdr (2 ^ 30 - 1) 0 1 plainState plainState_serves (.inl (by decide)) (by decide) (by decide)
  have hmodel := answers_recorderRead_badTime (start := 2 ^ 30 - 1) 0 1 plainState_serves (by decide)
  exact absurd (answers_status_unique rfl rfl hmodel hclaim) (by decide)

/-- Behind the 80 MACs only the maintenance port has one. -/
theorem macOfPort_none {port : Nat} (hmin : 80 ≤ port) (hmt : port ≠ 119) : macOfPort port = none := by
  rw [macOfPort, if_neg (Nat.not_lt.mpr hmin), if_neg hmt]

/-- Settles O21. -/
theorem portCommandsEnableReadAndTest : Obligations.PortCommandsEnableReadAndTest := by
  refine ⟨?_, ?_, ?_, ?_, ?_, ?_, ?_, ?_, ?_, ?_⟩
  · intro h port mac enable s H hmac henable hidle
    refine answers_of H rfl ?_
    simp [hmac, Nat.not_lt.mpr henable, hidle, ansOk]
  · intro h port enable s H hmin hmax henable hidle
    refine answers_of H rfl ?_
    simp [macOfPort_none hmin (by omega), hmin, hmax, Nat.not_lt.mpr henable, hidle, ansOk]
  · intro h port enable s H hmin hmt
    refine answers_of H rfl (if_pos ?_)
    simp [macOfPort_none (by omega) hmt]
    omega
  · intro h port mac s H hmac
    refine answers_of H rfl ?_
    simp [hmac, ansOk]
  · intro h port s H hmin hmax
    refine answers_of H rfl ?_
    simp [macOfPort_none hmin (by omega), hmin, hmax, ansOk]
  · intro h mac pattern mask crc s H hmin hmax hpattern hmask
    have hfit : fitBytes 16 mask = mask := by simp [fitBytes, hmask, zeros, List.take_of_length_le]
    refine answers_of H rfl ?_
    rw [if_neg (by simp; omega), if_neg (Nat.not_lt.mpr hpattern)]
    simp only [hfit, ansOk]
  · intro h mac pattern mask crc s H hmac
    exact answers_of H rfl (if_pos (by simpa using hmac))
  · intro h port mac mode s H hmac hphy hmode hidle hoff hset
    refine answers_of H rfl ?_
    simp [hmac, hphy, hmode, hidle, hoff, hset, ansOk]
  · intro h port mac s H hmac hphy hidle hoff
    refine answers_of H rfl ?_
    simp [hmac, hphy, testModeOk, hidle, hoff, ansOk]
  · intro h port mac mode s H hmac hphy hmode hidle hon
    refine answers_of H rfl ?_
    simp [hmac, hphy, hmode, hidle, hon, ansConflict]

end Sys2Proof.Proofs
end

section
/-!
The paths of commands: `SS` transactions, `MT` datagrams, the command rings, and coherent reads.
-/
namespace Sys2Proof.Proofs
open Sys2Proof Sys2Proof.Machine Sys2Proof.Claims

/-- Settles O22. -/
theorem ssTransactionsQueueAndClear : Obligations.SsTransactionsQueueAndClear := by
  refine ⟨?_, ?_, ?_, ?_, ?_, ?_, fun s hpower => gives_released hpower rfl rfl, ?_⟩
  · intro bytes s hpower hstage hroom
    have hserving : (s.sys.stage == 3 || s.sys.stage == 5) = true := by simpa using hstage
    refine gives_released hpower rfl ?_
    simp only [writePacket, State.fresh_cmd, State.fresh_openCount, State.fresh_sys, hserving, if_true]
    exact if_neg (Nat.not_le.mpr hroom)
  · intro bytes s hpower hfull
    exact gives_released hpower rfl (if_pos hfull)
  · intro r rest s hpower hreplies
    refine ⟨gives_released hpower rfl ?_, gives_released hpower rfl ?_⟩ <;>
      simp only [readReply, State.fresh_cmd, State.fresh_ssStatus, hreplies, Bool.false_eq_true, if_true, if_false]
    rfl
  · intro complete s hpower hnone
    refine gives_released hpower rfl ?_
    simp only [readReply, State.fresh_cmd, State.fresh_ssStatus, hnone]
  · intro e rest s hpower hevents
    refine ⟨gives_released hpower rfl ?_, gives_released hpower rfl ?_⟩ <;>
      simp only [readEvent, State.fresh_cmd, State.fresh_ssStatus, hevents, Bool.false_eq_true, if_true, if_false]
    rfl
  · intro complete s hpower hnone
    refine gives_released hpower rfl ?_
    simp only [readEvent, State.fresh_cmd, State.fresh_ssStatus, hnone]
  · intro first s hpower hfirst
    exact gives_released hpower rfl (if_neg (by simp; omega))

/-- Settles O23. -/
theorem mtFramesAreTakenAnsweredOrDiscarded : Obligations.MtFramesAreTakenAnsweredOrDiscarded := by
  refine ⟨?_, ?_, ?_, ?_, fun ip ident s hup => gives_serving hup.1 (.inl hup.2) rfl rfl⟩
  · intro d s hup hen hon hcells hkind hoffset hmore hport
    refine gives_serving hup.1 (.inl hup.2) rfl ?_
    simp [mtReceive, hen, hon, hcells, hkind, hoffset, hmore, takeDatagram, hport]
  · intro d s hup hen hon hcells hkind
    refine gives_serving hup.1 (.inl hup.2) rfl ?_
    simp [mtReceive, hen, hon, hcells, hkind]
  · intro d s hup hen hon hcells hkind haddr
    refine gives_serving hup.1 (.inl hup.2) rfl ?_
    simp [mtReceive, hen, hon, hcells, hkind, haddr]
  · intro d s hup hlow
    refine gives_serving hup.1 (.inl hup.2) rfl (if_pos ?_)
    simp [hlow]

/-- The block of an endpoint's ring words begins at a multiple of 64. -/
theorem ringBlock_mod (hb : Bool) : ringBlock hb % 64 = 0 := by cases hb <;> rfl

/-- A write of a whole word within the ring block of an endpoint in use. -/
theorem bar0Write_own {hb : Bool} {offset value : Nat} {s : State} (husable : s.usable = true) (hlink : (s.ep hb).link = true)
    (hmin : ringBlock hb ≤ offset) (hmax : offset < ringBlock hb + 0x30) (haligned : offset % 8 = 0) (hvalue : value < 2 ^ 64) :
    bar0Write hb offset 8 value s = ringWord hb offset value (2 ^ 64 - 1) s := by
  have hword : offset / 8 * 8 = offset := Nat.div_mul_cancel (Nat.dvd_of_mod_eq_zero haligned)
  simp only [bar0Write, hlink, husable, hmin, hmax, haligned, hword, Nat.mod_eq_of_lt hvalue, beq_self_eq_true, decide_true,
    Bool.and_self, Bool.true_or, Bool.not_true, Bool.or_self, Bool.false_eq_true, if_false, if_true]

theorem power_of_usable {s : State} (h : s.usable = true) : s.sys.power = 3 := by
  simp only [State.usable, Bool.and_eq_true, beq_iff_eq] at h
  exact h.1

/-- Settles O24. -/
theorem ringDoorbellsAndFetchesFollowTheIndices : Obligations.RingDoorbellsAndFetchesFollowTheIndices := by
  refine ⟨?_, ?_, ?_, ?_, ?_, ?_, ?_⟩
  · intro hb tail s husable hlink
    have hmod := ringBlock_mod hb
    refine gives_released (power_of_usable husable) rfl (bar0Write_own (s := s.fresh) husable hlink ?_ ?_ ?_ ?_) <;> omega
  · intro hb index s husable hlink
    have hmod := ringBlock_mod hb
    refine gives_released (power_of_usable husable) rfl (bar0Write_own (s := s.fresh) husable hlink ?_ ?_ ?_ ?_) <;> omega
  · intro hb offset value s husable hlink hmin hmax haligned hvalue
    exact gives_released (power_of_usable husable) rfl (bar0Write_own (s := s.fresh) husable hlink hmin hmax haligned hvalue)
  · intro hb offset size value s hpower hlink houtside
    refine gives_released hpower rfl ?_
    have hnotOwn : (decide (ringBlock hb ≤ offset) && decide (offset < ringBlock hb + 0x30)) = false := by
      simp; omega
    simp [bar0Write, hlink, hnotOwn]
  · intro hb entry packet s hup hlink hen htail hsome hroom1 hroom2 hlen1 hlen2 hfits
    refine gives_up hup rfl ?_
    simp [ringFetch, hlink, hen, Nat.not_le.mpr htail, hsome, Nat.not_lt.mpr hroom1, Nat.not_lt.mpr hroom2,
      Nat.not_lt.mpr hlen1, Nat.not_lt.mpr hlen2, Nat.not_lt.mpr hfits]
  · intro hb entry packet s hup hlink hen htail hsome hroom1 hroom2 hlen1 hlen2 hshort
    refine gives_up hup rfl ?_
    simp [ringFetch, hlink, hen, Nat.not_le.mpr htail, hsome, Nat.not_lt.mpr hroom1, Nat.not_lt.mpr hroom2,
      Nat.not_lt.mpr hlen1, Nat.not_lt.mpr hlen2, hshort, fetchFailed]
  · intro hb entry packet s hup hlink hen htail hsome hroom
    refine gives_up hup rfl ?_
    simp [ringFetch, hlink, hen, Nat.not_le.mpr htail, hsome, hroom]

/-! Where a read on `BAR2` points the diagnostic address nothing that the reads answer moves. -/

theorem aim_clk (path : ReadPath) (off : Nat) (s : State) : (aim path off s).clk = s.clk := by cases path <;> rfl

theorem aim_latches (path : ReadPath) (off : Nat) (s : State) : (aim path off s).cmd.latches = s.cmd.latches := by
  cases path <;> rfl

theorem aim_positionNow (path : ReadPath) (off : Nat) (s : State) : (aim path off s).positionNow = s.positionNow := by
  cases s; cases path <;> rfl

theorem ep_writeDiagAddr (hb : Bool) (off : Nat) (s : State) :
    (writeDiagAddr hb off s).ep hb = { s.ep hb with diagAddr := off % 2 ^ 64 / 8 * 8 } := by cases hb <;> rfl

/-- `BAR2` of an endpoint with its link up answers at 8 the word that the diagnostic address points at. -/
theorem bar2Read_data {hb : Bool} {s : State} (hlink : (s.ep hb).link = true) : s.bar2Read hb 8 =
    if (s.ep hb).diagAddr < spaceEnd then s.wordOn (if hb then 4 else 3) (s.ep hb).diagAddr else 0 := by
  simp [State.bar2Read, hlink]

/-- Settles O25. -/
theorem latchesHeartbeatAndEndpointReset : Obligations.LatchesHeartbeatAndEndpointReset := by
  refine ⟨?_, ?_, ?_, ?_, fun hb s hpower => gives_released hpower rfl rfl⟩
  · intro path s hpower hopen
    refine gives_released hpower rfl ((if_pos hopen).trans ?_)
    simp only [latchTime, State.setLatch, aim_clk, aim_latches, State.fresh_clk, State.fresh_cmd]
  · intro path s hpower hopen
    refine gives_released hpower rfl ((if_pos hopen).trans ?_)
    simp only [latchPos, State.setLatch, aim_positionNow, aim_latches, State.fresh_positionNow, State.fresh_cmd]
  · intro hb s hlink
    have hlink' (off : Nat) : ((writeDiagAddr hb off s).ep hb).link = true := by rw [ep_writeDiagAddr]; exact hlink
    refine ⟨by simp [State.bar2Read, hlink], by simp [State.bar2Read, hlink], fun off hoff => ?_, fun off hoff hmax => ?_⟩
    · have hmod : off % 2 ^ 64 = off := Nat.mod_eq_of_lt (hoff.trans (by decide))
      rw [bar2Read_data (hlink' off), ep_writeDiagAddr, hmod, if_pos ((Nat.div_mul_le_self off 8).trans_lt hoff)]
    · rw [bar2Read_data (hlink' off), ep_writeDiagAddr, Nat.mod_eq_of_lt hmax]
      refine if_neg ?_
      simp only [spaceEnd] at hoff ⊢
      omega
  · intro s hpower hstage hlate
    exact gives_serving hpower hstage rfl (if_neg (by simp [hlate]))

end Sys2Proof.Proofs
end

section
/-!
Register writes with a meaning of their own.
-/
namespace Sys2Proof.Proofs
open Sys2Proof Sys2Proof.Machine

/-- Settles O26. -/
theorem timeAndPositionRegisterWrites : Obligations.TimeAndPositionRegisterWrites := by
  refine ⟨?_, ?_, ?_, ?_, ?_, ?_, ?_, ?_⟩
  · intro ppb s hrun hmin hmax
    exact gives_running hrun rfl (if_pos (by simpa using ⟨hmin, hmax⟩))
  · intro ppb s hrun hbad
    refine gives_running hrun rfl (if_neg ?_)
    simp
    omega
  · intro freeze s hrun hfreeze
    exact gives_running hrun rfl (if_pos hfreeze)
  · intro axle diam ppr s hrun haxle hdiam1 hdiam2 hppr1 hppr2
    refine gives_running hrun rfl (if_pos ?_)
    simp only [haxle, hdiam1, hdiam2, hppr1, hppr2, decide_true, Bool.and_self]
  · intro axle diam ppr s hrun hbad
    refine gives_running hrun rfl (if_neg ?_)
    simp
    omega
  · intro sys s hrun hsys
    exact gives_running hrun rfl (if_pos hsys)
  · intro pe speed ext s hrun hpe hspeed
    exact gives_running hrun rfl (if_pos (by simp [hpe, hspeed]))
  · intro pe speed ext s hrun hspeed
    exact gives_running hrun rfl (if_neg (by simp [hspeed]))

/-- A write keeps of its value only what its width holds. -/
theorem wr_mod (s : State) (f : Fld) (v : Nat) : s.wr f (v % 2 ^ f.width) = s.wr f v := by
  simp only [State.wr, Nat.mod_mod]

/-- The vehicle ID that is written is the one that its record takes. -/
theorem writeVehId_eq (v : Nat) (s : State) : writeVehId v s = recordVehId (s.wr GLB_VEH_ID_SET.f v) := by
  rw [writeVehId, ← wr_mod s GLB_VEH_ID_SET.f v]
  rfl

/-- A command that acts in a serving node alone leaves it where its effect does. -/
theorem gives_serving_unchanged {c : Instr} {s : State} {f : State → State} (hc : exec c s = act (whenServing f) s)
    (hf : f s.fresh = s.fresh) : Gives c s s.fresh := by
  have hsame : whenServing f s.fresh = s.fresh := by
    unfold whenServing
    split
    · exact hf
    · rfl
  exact gives_act hc hsame

/-- Settles O27. -/
theorem unitRegisterWritesSettleTheirUnits : Obligations.UnitRegisterWritesSettleTheirUnits := by
  refine ⟨?_, ?_, ?_, ?_, ?_, ?_, ?_, ?_, ?_, ?_, ?_, fun en mask s hup => gives_up hup rfl rfl, ?_⟩
  · intro engine cfg s hup hengine
    exact gives_up hup rfl (if_pos hengine)
  · intro domain cfg s hup hdomain hcfg
    exact gives_up hup rfl (if_neg (by simpa using ⟨hdomain, hcfg⟩))
  · intro mac cfg s hup hmac hcfg
    exact gives_up hup rfl (if_pos (by simpa using ⟨hmac, hcfg⟩))
  · intro mac en id count timer burst burstTimer s hup hok
    exact gives_up hup rfl (if_pos hok)
  · intro mac en id count timer burst burstTimer s hup hbad
    exact gives_up hup rfl (if_neg (by simp [hbad]))
  · intro vehId s hpower hstage hmram
    refine gives_serving hpower (.inr hstage) rfl ((if_pos (by simp [hstage])).trans (congrArg (noteWritten 0x130) ?_))
    rw [writeVehId_eq, recordVehId, State.rd_wr_same]
    exact if_neg (by simp [hmram])
  · intro vehId s hpower hstage hmram
    refine gives_serving hpower (.inr hstage) rfl ((if_pos (by simp [hstage])).trans (congrArg (noteWritten 0x130) ?_))
    rw [writeVehId_eq]
    exact if_pos (by simp [hmram])
  · intro c vehId s hrefused
    exact gives_serving_unchanged rfl (if_neg (by simpa [Classical.or_iff_not_imp_left] using hrefused))
  · intro channel mode s hup hchannel hmode hnew
    refine gives_up hup rfl ((if_pos (by simpa using ⟨hchannel, hmode⟩)).trans (congrArg (settleMismatch _) ?_))
    exact (if_neg hnew).trans rfl
  · intro channel mode s hup hmode
    exact gives_up hup rfl (if_neg (by simp [Nat.not_le.mpr hmode]))
  · intro channel s hrun hchannel hchanging
    exact gives_running hrun rfl (if_pos (by simp [hchannel, hchanging]))
  · intro hb tx rx s hup htx hrx
    exact gives_up hup rfl (if_neg (by simpa using ⟨htx, hrx⟩))

end Sys2Proof.Proofs
end

section
/-!
Field links: while one is lost, its die keeps the configuration of every channel it uses. Memory errors, reference clocks and
mismatches.
-/
namespace Sys2Proof.Proofs
open Sys2Proof Sys2Proof.Machine

/-- A command leaves one state: two that it is said to leave differ in the queue alone. -/
theorem gives_unique {c : Instr} {s t u : State} (ht : Gives c s t) (hu : Gives c s u) :
    { t with pending := s.pending } = { u with pending := s.pending } :=
  Host.Outcome.next.inj (ht.symm.trans hu)

/-- A running node whose link of die 0 is up and whose channel 0, without a mode, keeps a latched fault. -/
def usedState : State :=
  State.wr { plainState with fld := { plainState.fld with chans := [(0, { chanNone with latch := 1 })] } } FLD_LINK0_UP.f 1

/-- Refutes O28: as the link of die 0 is lost the die keeps the configuration of channel 0, which it uses. -/
theorem not_fieldAndPowerLinksCountLossesAndReturn : ¬ Obligations.FieldAndPowerLinksCountLossesAndReturn := by
  rintro ⟨-, -, -, -, hlost, -⟩
  have hclaim := hlost 0 usedState ⟨rfl, rfl⟩ (by decide) (by decide)
  have hmodel : Gives (.fieldLinkLost 0) usedState (rehealth (loseFieldLink 0 usedState.fresh)) :=
    gives_running ⟨rfl, rfl⟩ rfl (if_pos (by decide))
  have hsame := congrArg (fun t => (t.chan 0).cfg.isSome) (gives_unique hmodel hclaim)
  exact absurd hsame (by decide)

theorem memoryError_value (i : Nat) {s : State} (h : s.Running) : memoryError (.value i) s =
    { s with sig := { s.sig with valueFaults := i :: s.sig.valueFaults.filter (· != i) } } := by
  simp only [memoryError, whenRunning_of h]

theorem memoryError_mapEntry (i : Nat) {s : State} (h : s.Running) : memoryError (.mapEntry i) s =
    { s with sig := { s.sig with mapFaults := i :: s.sig.mapFaults.filter (· != i) } } := by
  simp only [memoryError, whenRunning_of h]

theorem memoryError_event {i : Nat} {e : EvEntry} {s : State} (h : s.Running) (hentry : s.event i = some e) :
    memoryError (.event i) s = (dropBound i true (s.wr (SCH_EVi_STATE.f i) 5)).raise 0x0401 0 (toBE 2 i) := by
  simp only [memoryError, whenRunning_of h, faultEvent, hentry]

theorem uncorrectable_of_power (place : MemPlace) {s : State} (h : 2 ≤ s.sys.power) :
    uncorrectable place s = memoryError place (s.inc (GLB_MEMm_UNCORR.f (memoryOf place))) :=
  if_neg (Nat.not_lt.mpr h)

theorem power_of_running {s : State} (h : s.Running) : 2 ≤ s.sys.power := by rw [h.1]; decide

/-- Settles O29. -/
theorem errorsClocksAndMismatchesAreCountedAndRaised : Obligations.ErrorsClocksAndMismatchesAreCountedAndRaised := by
  refine ⟨?_, ?_, ?_, ?_, ?_, ?_, ?_, ?_, ?_, ?_, ?_, ?_, ?_⟩
  · intro memory s hpower hmax hparity hrun
    refine gives_act rfl ((if_neg ?_).trans (if_neg ?_))
    · simpa using ⟨⟨hpower, hmax⟩, hparity⟩
    · rcases hrun with hlow | hrung
      · simp [Nat.not_le.mpr hlow]
      · simp [hrung]
  · intro memory s hpower hmemory hrung
    refine gives_act rfl ((if_neg ?_).trans (if_pos ?_))
    · simp
      omega
    · have h7 : 7 ≤ memory := by omega
      simp [h7, hrung]
  · intro place s hpower
    exact gives_act rfl (uncorrectable_of_power place (s := s.fresh) hpower)
  · intro i s hrun
    exact gives_act rfl ((uncorrectable_of_power _ (s := s.fresh) (power_of_running hrun)).trans
      (memoryError_value i (s := s.fresh.inc _) hrun))
  · intro i s hrun
    exact gives_act rfl ((uncorrectable_of_power _ (s := s.fresh) (power_of_running hrun)).trans
      (memoryError_mapEntry i (s := s.fresh.inc _) hrun))
  · intro q s hpower
    exact gives_act rfl (uncorrectable_of_power _ (s := s.fresh) hpower)
  · intro i e s hrun hentry
    exact gives_act rfl ((uncorrectable_of_power _ (s := s.fresh) (power_of_running hrun)).trans
      (memoryError_event (s := s.fresh.inc _) hrun hentry))
  · intro place memory s hpower
    exact ⟨gives_act rfl (if_pos hpower), gives_act rfl (if_pos (by simp [hpower]))⟩
  · intro k s hpower hk
    exact ⟨fun hlost => gives_released hpower rfl (if_pos (by simp [hlost])),
      fun hthere => gives_released hpower rfl (if_pos (by simp [hthere]))⟩
  · intro unit s hrun hquiet
    exact gives_running hrun rfl (if_pos (by simpa using hquiet))
  · intro k s hpower hk hthere
    exact gives_released hpower rfl (if_neg (by simp [Nat.not_lt.mpr hk, hthere]))
  · intro k s hpower hk hlost
    exact gives_released hpower rfl (if_neg (by simp [Nat.not_lt.mpr hk, hlost]))
  · intro unit s hrun hbad hnew
    refine gives_running hrun rfl ((if_neg ?_).trans ?_)
    · simp only [State.fresh_consistent, State.fresh_sys, hbad, hnew]
      decide
    · cases s
      rfl

end Sys2Proof.Proofs
end

section
/-!
Lanes: training, losses and lane states; where a frame of a lane goes.
-/
namespace Sys2Proof.Proofs
open Sys2Proof Sys2Proof.Machine Sys2Proof.Claims

@[simp] theorem fresh_laneGap (s : State) : s.fresh.laneGap = s.laneGap := by cases s; rfl

/-- Settles O30. -/
theorem lanesTrainLoseAndRecover : Obligations.LanesTrainLoseAndRecover := by
  refine ⟨?_, ?_, ?_, ?_, ?_, ?_, ?_, ?_, ?_⟩
  · intro mac speed s hrun hon hspeed hnew
    refine gives_running hrun rfl (if_neg ?_)
    rcases hnew with huntrained | hqualified
    · simp [hon, Nat.not_lt.mpr hspeed, huntrained]
    · simp [hon, Nat.not_lt.mpr hspeed, hqualified]
  · intro mac s hrun hon htrained hwhole
    exact gives_running hrun rfl (if_neg (by simp [hon, htrained, hwhole]))
  · intro mac s hrun hon hloss hbrief hwindow
    refine gives_running hrun rfl ?_
    simp [endLoss, hon, hloss, hbrief, hwindow]
  · intro mac s hrun hon hloss hbrief hwindow
    refine gives_running hrun rfl ?_
    simp only [endLoss, State.fresh_laneOn, State.fresh_lane, hon, hloss, hbrief, hwindow, Bool.not_true, Bool.or_self,
      Bool.false_eq_true, if_false]
    rfl
  · intro mac s hrun hon hloss hqualified
    refine gives_running hrun rfl ?_
    simp [endLoss, hon, hloss, hqualified]
  · intro mac s hrun hon hloss hbrief
    exact gives_running hrun rfl (if_neg (by simp [hon, hloss, hbrief]))
  · intro mac s hrun hon hrecovering htrained hwhole hspeed
    exact gives_running hrun rfl (if_neg (by simp [hon, hrecovering, htrained, hwhole, hspeed]))
  · intro mac s hrun hon htrained hbusy
    exact gives_running hrun rfl ((if_neg (by simp [hon, htrained])).trans (if_pos (by simp [hbusy])))
  · intro mac s hrun hon htrained hgap
    exact gives_running hrun rfl ((if_neg (by simp [hon, htrained])).trans (if_neg (by simp [hgap])))

/-! A frame that arrives stays one when it is read as another kind, or with another first byte. -/

theorem arrives_fresh {rx : RxBb} {s : State} (A : Arrives rx s) : Arrives rx s.fresh :=
  ⟨A.running, A.on, A.trained, A.clean, A.version, A.addressed⟩

theorem arrives_asKind {rx : RxBb} {s : State} (A : Arrives rx s) (kind : Nat) : Arrives (rxAsKind rx kind) s :=
  ⟨A.running, A.on, A.trained, A.clean, A.version, A.addressed⟩

theorem arrives_asDelay {rx : RxBb} {s : State} (A : Arrives rx s) (typ : Nat) : Arrives (rxAsDelay rx typ) s :=
  ⟨A.running, A.on, A.trained, A.clean, A.version, A.addressed⟩

theorem arrives_asHoist {rx : RxBb} {s : State} (A : Arrives rx s) (typ : Nat) : Arrives (rxAsHoist rx typ) s :=
  ⟨A.running, A.on, A.trained, A.clean, A.version, A.addressed⟩

theorem arrives_asReport {rx : RxBb} {s : State} (A : Arrives rx s) : Arrives (rxAsReport rx) s :=
  ⟨A.running, A.on, A.trained, A.clean, A.version, A.addressed⟩

/-- A frame that arrives is looped, local or of the ring. -/
theorem receiveBb_arrived {rx : RxBb} {s : State} (A : Arrives rx s) (hkind : rx.frame.kind ≤ 8) : receiveBb rx s =
    if !(wake rx.mac s).through (rx.mac / 4) && !rx.frame.linkLocal && rx.frame.kind != 4 then
      stat rx.mac 28 1 ((wake rx.mac s).inc BKB_LOOPED_DISC.f)
    else if rx.frame.linkLocal || rx.frame.kind == 3 || rx.frame.kind == 4 || rx.frame.kind == 5 || rx.frame.kind == 7 ||
        rx.frame.kind == 8 then localReceive rx (wake rx.mac s)
    else ringReceive rx (wake rx.mac s) := by
  simp only [receiveBb, A.on, A.trained, A.clean, A.version, A.addressed, gt_iff_lt, Nat.not_lt.mpr hkind, decide_false,
    Bool.not_true, bne_self_eq_false, Bool.or_self, Bool.false_eq_true, if_false]

/-- A link-local frame that arrives ends where it arrives. -/
theorem receiveBb_linkLocal {rx : RxBb} {s : State} (A : Arrives rx s) (hkind : rx.frame.kind ≤ 8)
    (hlocal : rx.frame.linkLocal = true) : receiveBb rx s = localReceive rx (wake rx.mac s) := by
  simp [receiveBb_arrived A hkind, hlocal]

/-- So does a Hoist control frame. -/
theorem receiveBb_hoist {rx : RxBb} {s : State} (A : Arrives rx s) (hkind : rx.frame.kind = 4) :
    receiveBb rx s = localReceive rx (wake rx.mac s) := by
  simp [receiveBb_arrived A (by omega), hkind]

/-- Settles O31. -/
theorem localFramesReachTheirUnits : Obligations.LocalFramesReachTheirUnits := by
  refine ⟨?_, ?_, ?_, ?_⟩
  · intro rx s A hlocal
    have hkind (kind : Nat) (h : kind ≤ 8) := receiveBb_linkLocal (arrives_fresh (arrives_asKind A kind)) h hlocal
    exact ⟨gives_running A.running rfl (hkind 8 (by decide)), gives_running A.running rfl (hkind 5 (by decide)),
      gives_running A.running rfl (hkind 3 (by decide))⟩
  · intro rx s A hlocal hdelay
    have hkind := receiveBb_linkLocal (arrives_fresh (arrives_asKind A 0)) (by decide : 0 ≤ 8) hlocal
    refine gives_running A.running rfl (hkind.trans (if_neg ?_))
    simpa [rxAsKind, Option.isSome_iff_ne_none] using hdelay
  · intro rx s A hlocal
    have htype (typ : Nat) := receiveBb_linkLocal (arrives_fresh (arrives_asDelay A typ)) (by decide : 7 ≤ 8) hlocal
    exact ⟨gives_running A.running rfl (htype 1), gives_running A.running rfl (htype 2),
      gives_running A.running rfl (htype 3)⟩
  · intro rx s A hoist
    have htype (typ : Nat) := receiveBb_hoist (arrives_fresh (arrives_asHoist A typ)) rfl
    exact ⟨gives_running A.running rfl (htype 1), gives_running A.running rfl (htype 2),
      gives_running A.running rfl (htype 3), gives_running A.running rfl (htype 4), gives_running A.running rfl (htype 5),
      gives_running A.running rfl (htype 6), gives_running A.running rfl (htype 7), gives_running A.running rfl (htype 8),
      gives_running A.running rfl (htype 9), gives_running A.running rfl (htype 10)⟩

/-- A forwarded frame on a plane-end that is THROUGH goes to the ring's judgement. -/
theorem receiveBb_ring {rx : RxBb} {s : State} (A : Arrives rx s) (hforwarded : rx.frame.linkLocal = false)
    (hthrough : (wake rx.mac s).through (rx.mac / 4) = true)
    (hkind : rx.frame.kind = 0 ∨ rx.frame.kind = 1 ∨ rx.frame.kind = 2 ∨ rx.frame.kind = 6) :
    receiveBb rx s = ringReceive rx (wake rx.mac s) := by
  rw [receiveBb_arrived A (by omega)]
  rcases hkind with h | h | h | h <;> simp [hforwarded, hthrough, h]

/-- Settles O32. -/
theorem ringFramesAreJudged : Obligations.RingFramesAreJudged := by
  refine ⟨?_, ?_, ?_, ?_⟩
  · intro rx s A hforwarded hthrough
    exact ⟨gives_running A.running rfl
        (receiveBb_ring (arrives_fresh (arrives_asKind A 6)) hforwarded hthrough (.inr (.inr (.inr rfl)))),
      gives_running A.running rfl
        (receiveBb_ring (arrives_fresh (arrives_asReport A)) hforwarded hthrough (.inr (.inr (.inl rfl)))),
      fun hkind => gives_running A.running rfl (receiveBb_ring (arrives_fresh A) hforwarded hthrough hkind)⟩
  · intro rx s hrun hon htrained hclean hbad
    have hheader : (rx.frame.version != 1 || rx.frame.kind > 8 || !addressed rx.frame) = true := by
      simpa [or_assoc] using hbad
    refine gives_running hrun rfl ?_
    simp only [receiveBb, State.fresh_laneOn, State.fresh_lane, hon, htrained, hclean, hheader, Bool.not_true, Bool.or_self,
      Bool.false_eq_true, if_false, if_true]
  · intro rx s A hkind hcut hforwarded hhoist
    refine gives_running A.running rfl ((receiveBb_arrived (arrives_fresh A) hkind).trans (if_pos ?_))
    simp [hcut, hforwarded, hhoist]
  · intro rx s hrun hon htrained hsymbol
    refine gives_running hrun rfl ?_
    simp [receiveBb, hon, htrained, rxError, hsymbol]

end Sys2Proof.Proofs
end

section
/-!
Slots, phases, boundaries and disturbance windows (Chapter 04).
-/
namespace Sys2Proof.Proofs
open Sys2Proof Sys2Proof.Machine

/-- The frame that waits for a slot and plane-end is one of that slot and plane-end. -/
theorem slotWaiting_some {s : State} {n p : Nat} {w : SlotOut} (h : s.slotWaiting n p = some w) : w.slot = n ∧ w.pe = p := by
  simpa using List.find?_some h

/-- A frame that waits, within 200 ns of its slot's instant. -/
theorem slotEgress_due {s : State} {n p t : Nat} {w : SlotOut} (hwaiting : s.slotWaiting n p = some w)
    (hat : s.slotAt n p = some t) (hmin : t ≤ s.clk.now) (hmax : s.clk.now ≤ t + 200) : slotEgress n p s =
    if !s.slotsOn || (s.tcy.mismatch && n != 0) || s.slotLane p n == 255 then skipSlot w s
    else if !s.inGroup p (s.slotLane p n) then
      unref w.buf (stat (4 * p + s.slotLane p n) 60 1 ((dropWaiting w s).inc (BKB_PEp_LANEDROP.f p)))
    else
      unref w.buf (countTx (4 * p + s.slotLane p n) (wireLen (.bb (pennantOut w s))) 1
        ((dropWaiting w s).emit (.lane (4 * p + s.slotLane p n) (pennantOut w s)))) := by
  simp only [slotEgress, hwaiting, hat, Nat.not_lt.mpr hmin, gt_iff_lt, Nat.not_lt.mpr hmax, decide_false, Bool.or_self,
    Bool.false_eq_true, if_false]

/-- Settles O33. -/
theorem slotsAndPhasesKeepTheirTimes : Obligations.SlotsAndPhasesKeepTheirTimes := by
  refine ⟨?_, ?_, ?_, ?_, ?_, ?_, ?_, ?_, ?_⟩
  · intro n x fallback s hrun hslot horiginates
    refine gives_running hrun rfl ?_
    simp only [slotCutoff, State.fresh_slot, State.fresh_originates, hslot, horiginates, State.fresh_slotContent,
      State.fresh_cycle, State.fresh_windowReports, State.fresh_tcy]
    obtain ⟨st, data, time, late⟩ := s.slotContent x
    cases late <;> simp only [if_true, if_false, Bool.false_eq_true, State.inc_bkb, State.fresh_bkb]
  · intro n p t w s hrun hwaiting hat hmin hmax hon hmatch hlane hgroup hkind
    have hmay : ¬(s.tcy.mismatch = true ∧ ¬n = 0) := by rcases hmatch with h | h <;> simp [h]
    refine gives_running hrun rfl ((slotEgress_due (s := s.fresh) hwaiting hat hmin hmax).trans ?_)
    rw [if_neg (by simpa [hon, hlane] using hmay), if_neg (by simp [hgroup])]
    simp only [pennantOut, bne_iff_ne.mpr hkind, if_true, State.fresh_slotLane]
  · intro n p t w s hrun hwaiting hat hmin hmax hskip
    refine gives_running hrun rfl ((slotEgress_due (s := s.fresh) hwaiting hat hmin hmax).trans (if_pos ?_))
    simpa [or_assoc] using hskip
  · intro n p t w s hrun hwaiting hat hmin hmax hon hmatch hlane hgroup
    have hmay : ¬(s.tcy.mismatch = true ∧ ¬n = 0) := by rcases hmatch with h | h <;> simp [h]
    refine gives_running hrun rfl ((slotEgress_due (s := s.fresh) hwaiting hat hmin hmax).trans ?_)
    rw [if_neg (by simpa [hon, hlane] using hmay), if_pos (by simp [hgroup])]
    simp only [State.fresh_slotLane]
  · intro n p t w s hrun hwaiting hat hlate hlane
    obtain ⟨hslot, hpe⟩ := slotWaiting_some hwaiting
    refine gives_running hrun rfl ?_
    simp [slotSkip, hwaiting, hat, Nat.not_le.mpr hlate, skipSlot, hslot, hpe, hlane]
  · intro s hrun hkeeps hdone hphase
    exact gives_running hrun rfl (if_neg (by simp [hkeeps, hdone, hphase]))
  · intro s hrun hkeeps hdue
    refine gives_running hrun rfl ?_
    simp only [boundary, State.fresh_keepsCycle, State.fresh_clk, State.fresh_tcy, State.fresh_rd, State.fresh_isLead,
      State.fresh_cycle]
    rw [if_neg (by simp [hkeeps, hdue])]
  · intro w s hrun hw hvalid
    exact gives_running hrun rfl (if_pos (by simp [hw, hvalid]))
  · intro w x s hrun hw hwindow
    refine gives_running hrun rfl ((if_pos hw).trans ?_)
    simp only [endWindow, State.fresh_window, hwindow, State.fresh_ts, State.fresh_bkb]

end Sys2Proof.Proofs
end

section
/-!
The stages of a Hoist (Chapter 05).
-/
namespace Sys2Proof.Proofs
open Sys2Proof Sys2Proof.Machine

/-- The Lead's ready collection whose proposal is out and whose cycles have run. -/
theorem readyClose_closed {p : Proposal} {s : State} (hproposal : s.hst.leadProposal = some p) (hlead : s.isLead = true)
    (hstate : s.rd HST_LEAD_STATE.f = 5) (hsent : s.hst.proposeReady = false) (hleft : s.hst.collectLeft ≤ 1) :
    readyClose s =
      if !(nodesOf p.recs).all (fun r => s.hst.readies.contains r.uid) && s.mayRetry then retryHoist 3 s
      else { s.wr HST_LEAD_STATE.f 6 with hst :=
        { s.hst with commitAt := none, commitSent := 0,
                     incomplete := !(nodesOf p.recs).all (fun r => s.hst.readies.contains r.uid) } } := by
  simp only [readyClose, hproposal, hlead, hstate, hsent, gt_iff_lt, Nat.not_lt.mpr hleft, bne_self_eq_false, decide_false,
    Bool.not_true, Bool.or_self, Bool.false_eq_true, if_false]

/-- Settles O35. -/
theorem hoistStagesCloseInOrder : Obligations.HoistStagesCloseInOrder := by
  refine ⟨?_, ?_, ?_, ?_, ?_, ?_, ?_, ?_, ?_, ?_, ?_⟩
  · intro level s hrun hlevel hedge
    refine gives_running hrun rfl (if_neg ?_)
    simpa using ⟨hedge, hlevel⟩
  · intro level s hrun hlevel hedge
    refine gives_running hrun rfl (if_neg ?_)
    simpa using ⟨hedge, hlevel⟩
  · intro s hrun hlead hstate
    exact gives_running hrun rfl (if_pos (by simp [hlead, hstate]))
  · intro s hrun hlead hstate htopology hleft
    exact gives_running hrun rfl (if_pos (by simp [hlead, hstate, htopology, hleft]))
  · intro p left miss s hrun hlead hstate hproposal
    refine gives_running hrun rfl ((if_pos (by simp [hlead, hstate])).trans ?_)
    simp only [hproposal]
  · intro p r d s hrun hproposal hstate hnew hrefuse
    refine gives_running hrun rfl ?_
    simp only [runaheadDone, State.fresh_hst, State.fresh_rd, State.fresh_shadowsBuilt, hproposal, hstate, hnew,
      bne_self_eq_false, Bool.or_self, Bool.false_eq_true, if_false, hrefuse]
  · intro p s hrun hproposal hstate hnew hgood
    refine gives_running hrun rfl ?_
    simp only [runaheadDone, State.fresh_hst, State.fresh_rd, State.fresh_shadowsBuilt, hproposal, hstate, hnew,
      bne_self_eq_false, Bool.or_self, Bool.false_eq_true, if_false, hgood] <;> rfl
  · intro p s hrun hproposal hlead hstate hsent hleft hall
    refine gives_running hrun rfl ((readyClose_closed (s := s.fresh) hproposal hlead hstate hsent hleft).trans ?_)
    simp only [State.fresh_hst, hall, Bool.not_true, Bool.false_and, Bool.false_eq_true, if_false]
  · intro p s hrun hproposal hlead hstate hsent hleft hall hretry
    refine gives_running hrun rfl ((readyClose_closed (s := s.fresh) hproposal hlead hstate hsent hleft).trans (if_pos ?_))
    simp only [State.fresh_hst, State.fresh_mayRetry, hall, hretry]
    decide
  · intro s hrun hlead harmed hcycle hdue
    exact gives_running hrun rfl (if_pos (by simpa [hlead, harmed, hdue] using hcycle))
  · intro s hrun hstate horphan halone
    refine gives_running hrun rfl (if_pos ?_)
    simp only [State.fresh_rd, State.fresh_on, hstate, halone, bne_iff_ne.mpr horphan]
    decide

end Sys2Proof.Proofs
end

section
/-!
Time inputs: delay exchanges, pulses, times of day, reference windows and PTP ports (Chapter 06).
-/
namespace Sys2Proof.Proofs
open Sys2Proof Sys2Proof.Machine

@[simp] theorem fresh_ppsFalling (s : State) : s.fresh.ppsFalling = s.ppsFalling := by cases s; rfl
@[simp] theorem fresh_upAt (s : State) : s.fresh.upAt = s.upAt := by cases s; rfl

/-- An edge number names its input by its remainder and its direction by its half. -/
theorem edge_mod {x : Nat} (hx : x < 2) (b : Bool) : (x + 2 * b2n b) % 2 = x := by cases b <;> simp [b2n] <;> omega

theorem edge_falling {x : Nat} (hx : x < 2) (b : Bool) : decide (2 ≤ x + 2 * b2n b) = b := by
  cases b <;> simp [b2n]
  omega

theorem edge_lt {x : Nat} (hx : x < 2) (b : Bool) : x + 2 * b2n b < 4 := by cases b <;> simp [b2n] <;> omega

/-- What R201 asks of a time of day that comes `late` ns after its pulse: length, mark, check and the age of the pulse. -/
def todGood (b : List Byte) (late : Nat) : Bool :=
  b.length == 16 && beAt b 0 2 == 0xCE54 && beAt b 12 4 == crc32c (b.take 12) && 10000000 ≤ late && late ≤ 900000000

/-- A time of day for a pulse that waits is refused, held invalid, or dates the pulse. -/
theorem todMessage_waiting {x t up : Nat} {b : List Byte} {s : State} (htod : s.todOn x = true)
    (hwaiting : (s.ref (x + 2)).waiting = some (t, up)) : todMessage x b s =
      if !todGood b (s.clk.now - t) then (missPulse x s).inc TIM_TOD_BAD.f
      else if !bit (byteAt b 10) 0 then missPulse x s
      else
        let r := countPulse x up (s.setRef (x + 2) { s.ref (x + 2) with waiting := none })
        firstTime ((beAt b 2 6 : Nat) * 1000000000) t (refEvent (x + 2) ((beAt b 2 6 : Nat) * 1000000000) t up r.2 r.1) := by
  simp only [todMessage, htod, hwaiting, todGood]

/-- A PTP message of an enabled port and its domain goes to the meaning of its kind. -/
theorem not_otherPort {m : PtpMsg} {s : State} (hport : m.port < 48) (hen : bit (s.rd TIM_PTP_EN.f) m.port = true)
    (hdomain : m.domain = s.rd TIM_PTP_DOMAIN.f) :
    (m.port ≥ 48 || !bit (s.rd TIM_PTP_EN.f) m.port || m.domain != s.rd TIM_PTP_DOMAIN.f) = false := by
  simp [hport, hen, hdomain]

/-- Settles O36. -/
theorem timeInputsMoveReferencesAndPorts : Obligations.TimeInputsMoveReferencesAndPorts := by
  refine ⟨fun s hrun => gives_running hrun rfl rfl, ?_, ?_, ?_, ?_, ?_, ?_, ?_, ?_, ?_, ?_, ?_, ?_, ?_, ?_, ?_⟩
  · intro mac s hrun hmac hdx
    exact gives_running hrun rfl (if_pos (by simp [hmac, hdx]))
  · intro time s hrun htod hnone
    have hfalling := edge_falling (x := 0) (by decide) (s.ppsFalling 0)
    have hmod := edge_mod (x := 0) (by decide) (s.ppsFalling 0)
    have hlt := edge_lt (x := 0) (by decide) (s.ppsFalling 0)
    rw [Nat.zero_add] at hfalling hmod hlt
    refine gives_running hrun rfl ((if_pos hlt).trans ?_)
    rw [hmod, hfalling]
    simp [ppsPulse, htod, hnone]
  · intro time s hrun htod
    refine gives_running hrun rfl ((if_pos (edge_lt (by decide) _)).trans ?_)
    rw [edge_mod (by decide), edge_falling (by decide)]
    simp [ppsPulse, htod]
  · intro x time s hrun hx
    refine gives_running hrun rfl ((if_pos (edge_lt hx _)).trans ?_)
    rw [edge_mod hx, edge_falling hx]
    exact if_pos (by simp)
  · intro x t up b s hrun hx htod hwaiting hbad
    have hnot : ¬todGood b (s.clk.now - t) = true := by
      rcases hbad with h | h | h <;> simp [todGood, h]
    refine gives_running hrun rfl ((if_pos hx).trans ?_)
    rw [todMessage_waiting (s := s.fresh) htod hwaiting]
    exact if_pos (by simpa using hnot)
  · intro x t up b s hrun hx htod hwaiting hlen hmagic hcrc hmin hmax hvalid
    have hgood : todGood b (s.clk.now - t) = true := by simp [todGood, hlen, hmagic, ← hcrc, hmin, hmax]
    refine gives_running hrun rfl ((if_pos hx).trans ?_)
    rw [todMessage_waiting (s := s.fresh) htod hwaiting]
    simp only [State.fresh_clk, hgood, hvalid, Bool.not_true, Bool.false_eq_true, if_false, State.fresh_ref]
  · intro x s hrun hx htod hwaiting
    refine gives_running hrun rfl ((if_pos hx).trans (if_pos ?_))
    simp only [State.fresh_todOn, State.fresh_ref, htod, hwaiting]
    decide
  · intro x s hrun hx hstate
    exact gives_running hrun rfl ((if_pos hx).trans (if_neg (by simpa using hstate)))
  · intro r s hrun hmin hmax hstate hgood hfreq
    refine gives_running hrun rfl ((if_pos (by simp [hmin, hmax])).trans ?_)
    simp only [refWindow, State.fresh_ref, State.fresh_refState, State.fresh_clk, State.fresh_rdS, hstate, hgood, gt_iff_lt,
      Nat.not_lt.mpr hfreq, decide_false, Bool.or_self, Bool.false_eq_true, if_false]
  · intro m s hrun hport hen hdomain hkind hmaster
    refine gives_running hrun rfl ?_
    simp [ptpMessage, not_otherPort hport hen hdomain, hkind, hmaster]
  · intro k s hrun hk hen
    exact gives_running hrun rfl (if_pos (by simp [hk, hen]))
  · intro k s hrun hk hen hmaster
    refine gives_running hrun rfl ((if_neg (by simp [hk, hen])).trans ?_)
    simp [hmaster]
  · intro k s hrun hk hen hmaster
    refine gives_running hrun rfl ((if_neg (by simp [hk, hen])).trans ?_)
    simp [hmaster]
  · intro m s hrun hport hen hdomain hkind hslave hone
    refine gives_running hrun rfl ?_
    simp [ptpMessage, not_otherPort hport hen hdomain, hkind, hslave, hone]
  · intro s hrun hallowed
    exact gives_running hrun rfl (if_pos hallowed)

end Sys2Proof.Proofs
end

section
/-!
Position inputs: axle edges, slip and fusion, line crossings and periods, and the firing of events (Chapters 06 and 07).
-/
namespace Sys2Proof.Proofs
open Sys2Proof Sys2Proof.Machine

@[simp] theorem fresh_axleAge (s : State) : s.fresh.axleAge = s.axleAge := by cases s; rfl
@[simp] theorem fresh_odoGood (s : State) : s.fresh.odoGood = s.odoGood := by cases s; rfl
@[simp] theorem fresh_increment (s : State) : s.fresh.increment = s.increment := by cases s; rfl

theorem markSuspect_false {n : Nat} {v ref : Int} {s : State} (h : s.on (POS_AXn_SUSPECT.f n) = false) :
    markSuspect false v ref n s = s := by
  simp [markSuspect, h]

theorem markSuspect_true {n : Nat} {v ref : Int} {s : State} (h : s.on (POS_AXn_SUSPECT.f n) = false) :
    markSuspect true v ref n s = raiseAxle n 2 v ref false (s.wr (POS_AXn_SUSPECT.f n) 1) := by
  simp [markSuspect, h]

/-- The first crossing of automatic selection starts the count. -/
theorem lineCrossing_first {period ampl : Nat} {s : State} (hsys : s.rd POS_LP_SYS.f = 0) (hpll : s.pos.pll = false)
    (hnone : s.pos.crossings = 0) : lineCrossing period ampl s =
      { s.wr POS_LP_AMPL_MV.f ampl with pos := { s.pos with crossings := 1, intervals := [] } } := by
  simp [lineCrossing, hsys, hpll, hnone]

/-- A crossing of a locked loop within its band only measures. -/
theorem lineCrossing_locked {period ampl : Nat} {s : State} (hsys : s.rd POS_LP_SYS.f ≠ 4) (hpll : s.pos.pll = true)
    (hperiod : 0 < period) (hband : s.bandOk (lineBand (roundOpen 1000000000000 period).toNat) = true) :
    lineCrossing period ampl s =
      (s.wr POS_LP_AMPL_MV.f ampl).wr POS_LP_FREQ_MHZ.f (roundOpen 1000000000000 period).toNat := by
  simp [lineCrossing, hsys, hpll, hperiod.ne', hband]

/-- The second low period in a row unlocks. -/
theorem linePeriodEnd_low {ampl : Nat} {err : Int} {s : State} (hpll : s.pos.pll = true) (hlow : ampl < s.rd POS_LP_MIN_MV.f)
    (hbefore : 1 ≤ s.pos.lowAmpl) (herr : absNat err < 23860929) : linePeriodEnd ampl err s =
      lineUnlock { s.wr POS_LP_AMPL_MV.f ampl with pos :=
        { s.pos with lowAmpl := s.pos.lowAmpl + 1, highErr := 0, goodPeriods := s.pos.goodPeriods + 1,
                     angle := ofSigned 32 err, angleAt := s.clk.up } } := by
  have hhigh : ¬absNat err > 119304647 := by omega
  have htwo : s.pos.lowAmpl + 1 ≥ 2 := by omega
  simp only [linePeriodEnd, hpll, hlow, herr, hhigh, htwo, Bool.not_true, Bool.false_eq_true, if_true, if_false, decide_true,
    Bool.true_or]

/-- The eighth good period in a row locks. -/
theorem linePeriodEnd_good {ampl : Nat} {err : Int} {s : State} (hpll : s.pos.pll = true)
    (hhigh : s.rd POS_LP_MIN_MV.f ≤ ampl) (hbefore : 7 ≤ s.pos.goodPeriods) (herr : absNat err < 23860929) :
    linePeriodEnd ampl err s =
      setLineValid true { s.wr POS_LP_AMPL_MV.f ampl with pos :=
        { s.pos with lowAmpl := 0, highErr := 0, goodPeriods := s.pos.goodPeriods + 1,
                     angle := ofSigned 32 err, angleAt := s.clk.up } } := by
  have hsmall : ¬absNat err > 119304647 := by omega
  have height : s.pos.goodPeriods + 1 ≥ 8 := by omega
  simp only [linePeriodEnd, hpll, Nat.not_lt.mpr hhigh, herr, hsmall, height, Bool.not_true, Bool.false_eq_true, if_true,
    if_false]
  rfl

section
variable {e : AxleEdge} {s : State} (haxle : e.axle < 4) (hon : s.axleOn e.axle = true)
include haxle hon

/-- An edge on a direction channel that does not rise is noted alone. -/
theorem axleEdge_noted (hpd : bit (s.rd POS_AX_PD.f) e.axle = true) (hflat : (e.a && !(s.axle e.axle).a) = false) :
    axleEdge e s = s.setAxle e.axle { s.axle e.axle with a := e.a, b := e.b } := by
  simp [axleEdge, Nat.not_le.mpr haxle, hon, hpd, hflat]

/-- A rising edge on a direction channel is a fault where it comes too soon, and counts otherwise. -/
theorem axleEdge_rising (hpd : bit (s.rd POS_AX_PD.f) e.axle = true) (hlow : (s.axle e.axle).a = false) (hhigh : e.a = true) :
    axleEdge e s = if (s.axle e.axle).seen && s.axleAge e.axle e.time < 2500 then axleFault e s
      else countEdge e (e.b == Config.highIsForward) s := by
  simp [axleEdge, Nat.not_le.mpr haxle, hon, hpd, hlow, hhigh]

/-- An edge of a quadrature axle that changes a channel is a fault where it comes too soon or changes both. -/
theorem axleEdge_quadrature_fault (hpd : bit (s.rd POS_AX_PD.f) e.axle = false)
    (hmoved : e.a ≠ (s.axle e.axle).a ∨ e.b ≠ (s.axle e.axle).b)
    (hbad : ((s.axle e.axle).seen = true ∧ s.axleAge e.axle e.time < 2500) ∨
      (e.a ≠ (s.axle e.axle).a ∧ e.b ≠ (s.axle e.axle).b)) : axleEdge e s = axleFault e s := by
  have hboth : ¬(e.a = (s.axle e.axle).a ∧ e.b = (s.axle e.axle).b) := fun ⟨ha, hb⟩ =>
    hmoved.elim (fun h => h ha) (fun h => h hb)
  simp only [axleEdge, hpd, hon]
  rw [if_neg (by simpa using haxle), if_neg (by decide), if_neg (by simpa using hboth), if_pos (by simpa using hbad)]

end

/-- Settles O37. -/
theorem positionInputsMoveAxlesFusionAndPhase : Obligations.PositionInputsMoveAxlesFusionAndPhase := by
  refine ⟨?_, ?_, ?_, ?_, ?_, ?_, fun n v ref s h => ⟨markSuspect_false h, markSuspect_true h⟩, ?_, ?_, ?_, ?_, ?_, ?_, ?_, ?_,
    ?_, ?_⟩
  · intro e s hrun haxle hon hseen hsoon hmoved
    refine gives_running hrun rfl ?_
    by_cases hpd : bit (s.rd POS_AX_PD.f) e.axle = true
    · rw [if_pos hpd] at hmoved
      refine (axleEdge_rising (s := s.fresh) haxle hon hpd hmoved.1 hmoved.2).trans (if_pos ?_)
      simp [hseen, hsoon]
    · rw [if_neg hpd] at hmoved
      exact axleEdge_quadrature_fault (s := s.fresh) haxle hon (Bool.eq_false_iff.mpr hpd) hmoved (.inl ⟨hseen, hsoon⟩)
  · intro e s hrun haxle hon hpd ha hb
    exact gives_running hrun rfl
      (axleEdge_quadrature_fault (s := s.fresh) haxle hon hpd (.inl ha) (.inr ⟨ha, hb⟩))
  · intro e s hrun haxle hon hpd hflat
    refine gives_running hrun rfl (axleEdge_noted (s := s.fresh) haxle hon hpd ?_)
    rcases hflat with h | h <;> simp [h]
  · intro e s hrun haxle hon hseen hpd hinv hlow hhigh
    refine gives_running hrun rfl ((axleEdge_rising (s := s.fresh) haxle hon hpd hlow hhigh).trans ?_)
    simp [countEdge, hseen, hinv]
  · intro s hrun hcount
    refine gives_running hrun rfl ?_
    simp [slipCheck, hcount]
  · intro s hrun hcount
    refine gives_running hrun rfl ?_
    simp [slipCheck, hcount]
  · intro s hrun hcap hgood
    refine gives_running hrun rfl ?_
    simp [fusionUpdate, hcap, hgood]
  · intro s hrun hcap hbad hnone
    refine gives_running hrun rfl ?_
    have hodo : s.odoGood = false := hbad
    simp [fusionUpdate, hcap, hodo, hnone]
  · intro period ampl s hrun hsys hpll hnone
    exact ⟨gives_running hrun rfl rfl, lineCrossing_first hsys hpll hnone⟩
  · intro period ampl s hrun hsys hpll hperiod hband
    exact ⟨gives_running hrun rfl rfl, lineCrossing_locked hsys hpll hperiod hband⟩
  · intro ampl err s hrun hpll hlow hbefore herr
    exact ⟨gives_running hrun rfl rfl, linePeriodEnd_low hpll hlow hbefore herr⟩
  · intro ampl err s hrun hpll hhigh hbefore herr
    exact ⟨gives_running hrun rfl rfl, linePeriodEnd_good hpll hhigh hbefore herr⟩
  · intro s hrun hsys hpll
    exact ⟨gives_running hrun rfl rfl, if_pos (by simp [hsys, hpll])⟩
  · intro i s hrun hi
    exact gives_running hrun rfl (if_pos hi)
  · intro i e s hentry hstate hinvalid
    rcases hstate with h | h <;> simp [evaluate, hentry, h, hinvalid]
  · intro i e s hentry hstate hvalid haction
    simp [evaluate, hentry, hstate, hvalid, haction]

end Sys2Proof.Proofs
end

section
/-!
Host rings and MAC ports: descriptors fetched, copies sent, dropped and put off (Chapters 07 and 10).
-/
namespace Sys2Proof.Proofs
open Sys2Proof Sys2Proof.Machine

/-- The head of a transmit ring lies apart from every port's longest frame. -/
theorem txHead_key_ne_maxLen {n : Nat} (hb : Bool) : (MAC_n_MAXLEN.f n).key ≠ (SCH_Hx_TX_HEAD.f (hx hb)).key := by
  cases hb <;> simp [MAC_n_MAXLEN, SCH_Hx_TX_HEAD, Row.f, Fld.key, hx] <;> omega

/-- Moving the head on does not change the judgement of a descriptor. -/
theorem descOk_wr_txHead (s : State) (hb : Bool) (v : Nat) (desc : List Byte) :
    (s.wr (SCH_Hx_TX_HEAD.f (hx hb)) v).descOk desc = s.descOk desc := by
  simp only [State.descOk, State.rd_wr_other s v (txHead_key_ne_maxLen hb)]

section
variable {hb : Bool} {desc : List Byte} {s : State} (hon : s.on (SCH_Hx_TX_EN.f (hx hb)) = true)
  (hgoing : (s.rings hb).txStopped = false) (hmore : s.rd (SCH_Hx_TX_HEAD.f (hx hb)) ≠ (s.rings hb).txTail)
  (hroom : s.sch.bound.length < 1024) (hlength : desc.length = 32) (hok : s.descOk desc = true)
  (hlaunch : bit (byteAt desc 23) 0 = false)
include hon hgoing hmore hroom hlength hok hlaunch

/-- A good descriptor whose frame could not be read. -/
theorem fetchTx_unread : fetchTx hb desc none s =
    txWriteBack (newDesc hb (s.rd (SCH_Hx_TX_HEAD.f (hx hb))) (leAt desc 20 2)
        (if bit (byteAt desc 23) 2 then (descPlanes (byteAt desc 23)).length else (bitsOf 80 (leAt desc 10 10)).length)) 0x0013
      ((s.wr (SCH_Hx_TX_HEAD.f (hx hb))
        ((s.rd (SCH_Hx_TX_HEAD.f (hx hb)) + 1) % 2 ^ s.rd (SCH_Hx_TX_LOG2.f (hx hb)))).inc (SCH_Hx_DMA_ERR.f (hx hb))) := by
  simp [fetchTx, hon, hgoing, hmore, Nat.not_le.mpr hroom, hlength, descOk_wr_txHead, hok, hlaunch]

/-- A good descriptor of a frame for ports. -/
theorem fetchTx_ports {got : List Byte} (hports : bit (byteAt desc 23) 2 = false) : fetchTx hb desc (some got) s =
    queueHost hb (fitBytes (leAt desc 8 2) got ++ zeros (60 - (fitBytes (leAt desc 8 2) got).length))
      (bitsOf 80 (leAt desc 10 10)) (byteAt desc 22 % 8)
      (newDesc hb (s.rd (SCH_Hx_TX_HEAD.f (hx hb))) (leAt desc 20 2) (bitsOf 80 (leAt desc 10 10)).length)
      (s.wr (SCH_Hx_TX_HEAD.f (hx hb))
        ((s.rd (SCH_Hx_TX_HEAD.f (hx hb)) + 1) % 2 ^ s.rd (SCH_Hx_TX_LOG2.f (hx hb)))) := by
  simp [fetchTx, hon, hgoing, hmore, Nat.not_le.mpr hroom, hlength, descOk_wr_txHead, hok, hlaunch, hports]

end

@[simp] theorem fresh_firstAged (s : State) : s.fresh.firstAged = s.firstAged := by cases s; rfl
@[simp] theorem fresh_backoffOn (s : State) : s.fresh.backoffOn = s.backoffOn := by cases s; rfl

/-- A poll of a tail in range, with reception off, takes the tail. -/
theorem pollTail_taken {hb : Bool} {word : Nat} {sizes : List Nat} {s : State} (htx : s.on (SCH_Hx_TX_EN.f (hx hb)) = true)
    (hrx : s.on (SCH_Hx_RX_EN.f (hx hb)) = false) (hrange : bits word 0 16 < 2 ^ s.rd (SCH_Hx_TX_LOG2.f (hx hb))) :
    pollTail hb word sizes s = s.setRings hb { s.rings hb with txTail := bits word 0 16, txStopped := false } := by
  have hkept (r : FrameRings) : (s.setRings hb r).on (SCH_Hx_RX_EN.f (hx hb)) = false := by
    rw [← hrx]; cases hb <;> rfl
  simp [pollTail, htx, Nat.not_le.mpr hrange, hkept]

/-- A frame on a running port at rung 0 that is not too short reaches the judgement of its length and FCS. -/
theorem receiveEth_judged {rx : RxEth} {s : State} (hlow : 16 ≤ rx.mac) (hhigh : rx.mac < 80)
    (hon : s.on (MAC_n_CFG_EN.f rx.mac) = true) (hlink : s.on (MAC_n_LINK.f rx.mac) = true)
    (hrung : s.rd (LAD_Dd_RUNG.f rx.mac) = 0) : receiveEth rx s =
      match rxError rx.len (s.maxLen rx.mac) rx.fcsOk rx.symOk with
      | some k => stat rx.mac k 1 s
      | none =>
        if ethType rx.bytes = 0x8808 then macControl rx s
        else if rx.mac < 64 && bit (s.rd TIM_PTP_EN.f) (rx.mac - 16) && s.carriesPtp rx.bytes then
          stat rx.mac 23 1 (countRx rx.mac rx.len (addrKind (.eth rx.bytes)) (ethTagged rx.bytes) s)
        else routeRx rx s := by
  have hnotMt : rx.mac ≠ 80 := hhigh.ne
  simp [receiveEth, hnotMt, Nat.not_lt.mpr hlow, Nat.not_lt.mpr hhigh.le, hon, hlink, hrung, wake] <;> rfl

/-- What is noted of a copy of a queue is its time, where it is the first, and its port. -/
theorem completeCopy_queued {mac : Nat} {c : Copy} {w : Wire} {s : State} (hsending : s.sendingOn mac = some c)
    (hwire : s.wireOf c = some w) (hqueue : c.queue < 8) : completeCopy mac s =
      unref c.buf (noteDesc c.buf (fun d =>
        if d.sent = 0 ∨ c.started < d.startedAt then
          { d with sent := d.sent ||| 2 ^ portOfMac mac, time := compact c.started, startedAt := c.started,
                   launchLate := false }
        else { d with sent := d.sent ||| 2 ^ portOfMac mac })
        (clearAttempts mac (endSending mac (countTx mac (wireLen w) (addrKind w) s)))) := by
  simp only [completeCopy, hsending, hwire, hqueue.ne, if_false]
  refine congrArg (fun note => unref c.buf (noteDesc c.buf note _)) (funext fun d => ?_)
  by_cases hfirst : d.sent = 0 ∨ c.started < d.startedAt
  · simp [hfirst]
  · simp [hfirst]

/-- Settles O38. -/
theorem hostRingsAndPortsMoveFrames : Obligations.HostRingsAndPortsMoveFrames := by
  refine ⟨?_, ?_, ?_, ?_, ?_, ?_, ?_, ?_, ?_, ?_, ?_, ?_, ?_, fun hb up s hpower => gives_released hpower rfl ?_⟩
  · intro hb word sizes s hrun htx hrx hrange
    exact gives_running hrun rfl (pollTail_taken (s := s.fresh) htx hrx hrange)
  · intro hb desc s hrun hon hgoing hmore hroom hlength hok hlaunch
    exact gives_running hrun rfl (fetchTx_unread (s := s.fresh) hon hgoing hmore hroom hlength hok hlaunch)
  · intro hb desc got s hrun hon hgoing hmore hroom hlength hok hlaunch hports
    exact gives_running hrun rfl (fetchTx_ports (s := s.fresh) hon hgoing hmore hroom hlength hok hlaunch hports)
  · intro mac s hrun hidle
    exact gives_running hrun rfl (if_neg (by simp [hidle]))
  · intro mac c w s hrun hsending hwire hqueue
    exact gives_running hrun rfl (completeCopy_queued (s := s.fresh) hsending hwire hqueue)
  · intro rx s hrun hlow hhigh hon hlink hrung hsym hlen hfcs hmax
    refine gives_running hrun rfl ((receiveEth_judged (s := s.fresh) hlow hhigh hon hlink hrung).trans ?_)
    simp [rxError, hsym, hfcs, Nat.not_lt.mpr hlen, Nat.not_lt.mpr hmax]
  · intro rx s hrun hlow hhigh hon hlink hrung hsym hlen hfcs hmax htype
    refine gives_running hrun rfl ((receiveEth_judged (s := s.fresh) (by omega) hhigh hon hlink hrung).trans ?_)
    simp [rxError, hsym, hfcs, Nat.not_lt.mpr hlen, Nat.not_lt.mpr hmax, htype, Nat.not_lt.mpr hlow]
  · intro mac s hrun hmac hpaused
    exact gives_running hrun rfl (if_pos (by simp [hmac, hpaused]))
  · intro mac q c s hrun hq haged
    refine gives_running hrun rfl ?_
    simp only [queueAge, fresh_firstAged, haged, hq, if_true]
  · intro mac link speed half s hrun hlow hhigh hon
    exact gives_running hrun rfl (if_neg (by simp [hlow, hhigh, hon]))
  · intro mac c s hrun hsending hlow hhigh
    refine ⟨gives_running hrun rfl ?_, fun hfew => gives_running hrun rfl ?_⟩
    · simp [collide, hsending, Nat.not_lt.mpr hlow, Nat.not_lt.mpr hhigh]
    · simp [collide, hsending, Nat.not_lt.mpr hlow, Nat.not_lt.mpr hhigh, Nat.not_le.mpr hfew]
  · intro mac c s hrun hbackoff
    refine gives_running hrun rfl ?_
    simp [retryCopy, hbackoff]
  · intro mac ok s hrun hlow hhigh hon
    refine ⟨gives_running hrun rfl (if_neg (by simp [hlow, hhigh, hon])), fun hfirst => gives_running hrun rfl (if_pos ?_)⟩
    simp [hlow, hhigh, hon, hfirst]
  · rw [pcieLink, State.fresh_ep]

end Sys2Proof.Proofs
end

section
/-!
Engines and stores: jobs taken, moved and finished, chunks applied, and the recorder and the journal (Chapters 08, 09 and 16).
-/
namespace Sys2Proof.Proofs
open Sys2Proof Sys2Proof.Machine

@[simp] theorem fresh_epochLive (s : State) : s.fresh.epochLive = s.epochLive := by cases s; rfl
@[simp] theorem fresh_ownWork (s : State) : s.fresh.ownWork = s.ownWork := by cases s; rfl

section
variable {e : Nat} {s : State}

/-- A free engine with work that it may take starts its first job, and counts one that runs again. -/
theorem takeJob_first {j : Job} {rest : List Job} (hidle : (s.engine e).running = none)
    (hmine : (dropShed e (s.engine e).deque.length s).mine e = j :: rest) : takeJob e s =
    (let s1 := dropShed e (s.engine e).deque.length s
     let s2 := s1.setEngine { s1.engine e with
       deque := (s1.engine e).deque.erase j, stolen := (s1.engine e).stolen.filter (· != j.id),
       running := some { job := { j with rerun := false }, done := false, writes := [], triggers := [] } }
     attemptRun e (if j.rerun then s2.inc STL_RERUNS.f else s2)) := by
  simp only [takeJob, hidle, Option.isSome_none, Bool.false_eq_true, if_false, hmine, State.when]

/-- A free engine in service without work of its own acts on what its search finds. -/
theorem stealSearch_searches (hable : s.engOper e = 1 ∨ s.engOper e = 6) (hon : s.on STL_STEAL_EN.f = true)
    (hidle : (s.engine e).running = none) (hempty : s.ownWork e = []) (hroom : (s.engine e).deque.length < 64)
    {found : Option (Nat × List Job)} {inelig : Bool} :
    searchVictims s (64 - (s.engine e).deque.length) (searchOrder e (Nat.min 4 (s.rd STL_MAX_HOPS.f))) false =
      (found, inelig) →
    stealSearch e s =
      match found with
      | none => if inelig then s.inc STL_STEAL_INELIG.f else s
      | some (v, b) => moveBatch e v b (if inelig then s.inc STL_STEAL_INELIG.f else s) := by
  intro hfound
  have hin : (s.engOper e == 1 || s.engOper e == 6) = true := by simpa using hable
  simp only [stealSearch, hin, hon, hidle, hempty, Nat.not_le.mpr hroom, hfound, Option.isSome_none, List.isEmpty_nil,
    Bool.not_true, Bool.or_self, decide_false, Bool.false_eq_true, if_false] <;> rfl

/-- An engine whose run is done and triggered nothing hands its writes on. -/
theorem completeJob_done {r : Running} (hrunning : (s.engine e).running = some r) (hdone : r.done = true)
    (hnone : r.triggers = []) : completeJob e s =
      settleEngine e (instDone r.job.inst (handChunks r.job.root r.job.tag.epoch (r.job.staged ++ r.writes)
        (countMiss r.job ((s.setEngine { s.engine e with running := none }).inc (STL_ENGe_JOBS.f e))))) := by
  have hstill : attemptRun e s = s := by simp [attemptRun, hrunning, hdone]
  simp [completeJob, hstill, hrunning, hdone, hnone]

/-- An engine that runs nothing is put out of service. -/
theorem quarantine_idle {cause : Nat} (hin : s.engOper e ≠ 4) (hidle : (s.engine e).running = none) :
    quarantine e cause s = setEngOper e 4 ((s.wr (STL_ENGe_QCAUSE.f e) cause).inc STL_QUARANTINES.f) := by
  simp [quarantine, hin, hidle]

/-- An empty engine that its fen tests has passed. -/
theorem selftestDone_good (htesting : (s.engine e).testing = true) (hidle : (s.engine e).running = none)
    (hempty : (s.engine e).deque = []) : selftestDone e true s =
      (let s2 := s.inc STL_SELFTEST_RUNS.f
       advanceTest e 0 (markTest e false
         (if s2.engOper e == 4 && s2.on (STL_ENGe_CFG.f e) then setEngOper e 1 (s2.wr (STL_ENGe_QCAUSE.f e) 0) else s2))) := by
  simp [selftestDone, htesting, hidle, hempty]

end

/-- The chunk of a layout is taken off and applied, where its epoch is in force. -/
theorem applyChunk_first {l : Nat} {c : Chunk} {s : State}
    (hfirst : s.eng.chunks.find? (fun c => c.layout == l) = some c) : applyChunk l s =
      tryReleases (settleOwed c.root l
        (if s.epochLive c.epoch then
          c.writes.foldl (fun t w => writeImage w t) { s with eng := { s.eng with chunks := s.eng.chunks.erase c } }
        else State.inc { s with eng := { s.eng with chunks := s.eng.chunks.erase c } } SIG_OLD_EPOCH_DISC.f)) := by
  simp only [applyChunk, hfirst]

/-- A record that waits goes into a ring with room, and into no index inside a block. -/
theorem writeRecord_room {r : RecRecord} {q : List RecRecord} {s : State} (hqueue : s.sto.queue = r :: q)
    (hroom : s.sto.ring.length < 132120576) (hinside : (r.seq + 1) % 32768 ≠ 0) :
    writeRecord s = { s with sto := { s.sto with queue := q, ring := s.sto.ring ++ [r] } } := by
  have hkept : ¬(s.sto.ring ++ [r]).length > 132120576 := by
    rw [List.length_append, List.length_singleton]; exact Nat.not_lt.mpr hroom
  simp only [writeRecord, hqueue, hkept, hinside, if_false, decide_false, Bool.false_and, Bool.false_eq_true]

/-- The record in flight goes into a journal with room. -/
theorem commitFlight_room {r : JRecord} {s : State} (hflight : s.sto.inFlight = some r)
    (hroom : s.sto.journal.length < 32768) :
    commitFlight s = { s with sto := { s.sto with journal := s.sto.journal ++ [r], inFlight := none } } := by
  have hkept : ¬(s.sto.journal ++ [r]).length > 32768 := by
    rw [List.length_append, List.length_singleton]; exact Nat.not_lt.mpr hroom
  simp only [commitFlight, hflight, hkept, if_false]

/-- Settles O39. -/
theorem enginesAndStoresTakeWhatWaits : Obligations.EnginesAndStoresTakeWhatWaits := by
  refine ⟨?_, ?_, ?_, ?_, ?_, fun first count s hrun => gives_running hrun rfl rfl,
    fun s hrun => gives_running hrun rfl rfl, ?_, ?_, ?_, ?_, ?_, ?_, ?_⟩
  · intro e j rest s hrun he hidle hmine
    exact gives_running hrun rfl ((if_pos he).trans (takeJob_first (s := s.fresh) hidle hmine))
  · intro e s hrun he hable hon hidle hempty hroom hfound
    exact gives_running hrun rfl ((if_pos he).trans
      (stealSearch_searches (s := s.fresh) hable hon hidle (by simpa using hempty) hroom hfound))
  · intro e v b inelig s hrun he hable hon hidle hempty hroom hfound
    exact gives_running hrun rfl ((if_pos he).trans
      (stealSearch_searches (s := s.fresh) hable hon hidle (by simpa using hempty) hroom hfound))
  · intro e r s hrun he hrunning hdone hnone
    exact gives_running hrun rfl ((if_pos he).trans (completeJob_done (s := s.fresh) hrunning hdone hnone))
  · intro r q s hrun hqueue hroom hinside
    exact gives_running hrun rfl (writeRecord_room (s := s.fresh) hqueue hroom hinside)
  · intro unit layout c s hrun hfirst hlive
    refine gives_running hrun rfl ((applyChunk_first (s := s.fresh) hfirst).trans ?_)
    simp [hlive]
  · intro unit layout c s hrun hfirst hlive
    refine gives_running hrun rfl ((applyChunk_first (s := s.fresh) hfirst).trans ?_)
    simp [hlive]
  · intro unit layout s hrun hon hmode
    exact gives_running hrun rfl (if_pos (by simp [hon, hmode]))
  · intro e cause s hrun he hmin hmax hcause hin hidle
    refine gives_running hrun rfl ((if_pos (by simp [he, hmin, hmax])).trans ((if_neg hcause).trans ?_))
    exact quarantine_idle (s := s.fresh) (by simpa using hin) hidle
  · intro e s hrun he htesting hidle hempty
    exact gives_running hrun rfl ((if_pos he).trans (selftestDone_good (s := s.fresh) htesting hidle hempty))
  · intro s hrun hover
    refine gives_running hrun rfl ?_
    simp only [envelopeEnd, State.fresh_eng, State.fresh_rd, hover, if_true]
  · intro r s hflight hroom
    exact gives_act rfl (commitFlight_room (s := s.fresh) hflight hroom)

end Sys2Proof.Proofs
end

section
/-!
The legacy buses `MVB` and `WTB` (Chapter 11).
-/
namespace Sys2Proof.Proofs
open Sys2Proof Sys2Proof.Machine

/-- What is good on no line has not arrived. -/
theorem mvbArrive_none {c lines : Nat} (t : State) : (mvbArrive c lines 0 t).2 = false := by
  simp [mvbArrive, bit]

section
variable {c fcode addr lines : Nat} {s t : State} (hwake : t = mvbWake c lines s) (hon : t.mvbOn c = true)
include hwake hon

/-- A master frame that is good on no line only counts its errors. -/
theorem masterFrame_bad (hbad : (mvbArrive c lines (lines / 4) t).2 = false) :
    masterFrame c fcode addr lines s = (mvbArrive c lines (lines / 4) t).1 := by
  have harrive : mvbArrive c lines (lines / 4) t = ((mvbArrive c lines (lines / 4) t).1, false) := Prod.ext rfl hbad
  subst hwake
  simp only [masterFrame, hon, Bool.not_true, Bool.false_eq_true, if_false]
  rw [harrive]

section
variable {w : State} (hw : w = (mvbArrive c lines (lines / 4) t).1) (hgood : (mvbArrive c lines (lines / 4) t).2 = true)
include hw hgood

/-- A good master frame of process data that the node has is answered. -/
theorem masterFrame_answered {x : TxImage} (hfcode : fcode ≤ 4) (hanswer : w.mvbAnswer c fcode addr = some x) :
    masterFrame c fcode addr lines s = sendSlave c fcode addr x w := by
  have harrive : mvbArrive c lines (lines / 4) t = (w, true) := Prod.ext hw.symm hgood
  subst hwake
  simp [masterFrame, hon, harrive, hfcode, hanswer]

/-- One of process data that the node does not have is for another device. -/
theorem masterFrame_unanswered (hfcode : fcode ≤ 4) (hanswer : w.mvbAnswer c fcode addr = none) :
    masterFrame c fcode addr lines s = w := by
  have harrive : mvbArrive c lines (lines / 4) t = (w, true) := Prod.ext hw.symm hgood
  subst hwake
  simp [masterFrame, hon, harrive, hfcode, hanswer]

/-- A good master frame that asks for the node's own device status is answered. -/
theorem masterFrame_status (haddr : addr = w.rd (LEG_MVBc_DEVADDR.f c)) (hgate : w.gateOpen (w.mvbGated c) = true) :
    masterFrame c 15 addr lines s = (takeFree 16 w).2.emit (.mvb c 1 15 addr (toBE 2 (takeFree 16 w).1)) := by
  have harrive : mvbArrive c lines (lines / 4) t = (w, true) := Prod.ext hw.symm hgood
  subst hwake
  simp [masterFrame, hon, harrive, haddr, hgate]

/-- A good master frame of any other F-code is counted. -/
theorem masterFrame_ignored (hdata : 4 < fcode) (hmastership : fcode ≠ 8) (hstatus : fcode ≠ 15) :
    masterFrame c fcode addr lines s = w.inc (LEG_MVBc_IGNORED.f c) := by
  have harrive : mvbArrive c lines (lines / 4) t = (w, true) := Prod.ext hw.symm hgood
  subst hwake
  simp [masterFrame, hon, harrive, Nat.not_le.mpr hdata, hmastership, hstatus]

end

/-- A slave frame of its F-code's length, good on a line, of a port that the bus receives. -/
theorem slaveFrame_good {i : Nat} {data : List Byte} {goodA goodB : Bool} {w : State} (hlength : data.length = fcodeBytes fcode)
    (hw : w = (mvbArrive c lines (b2n goodA + 2 * b2n goodB) t).1)
    (hgood : (mvbArrive c lines (b2n goodA + 2 * b2n goodB) t).2 = true) (hentry : w.mvbEntry c addr false = some i)
    (hfcode : w.rd (MP_FCODE.f c i) = fcode) : slaveFrame c lines fcode addr data goodA goodB s =
      match (deliverLegacy (80 + 2 * c) addr data (endSilence 0 c i w)).leg.polls.getD c [] with
      | [] => deliverLegacy (80 + 2 * c) addr data (endSilence 0 c i w)
      | (f, a) :: _ =>
        if f = fcode && a = addr then pollDone c (deliverLegacy (80 + 2 * c) addr data (endSilence 0 c i w))
        else deliverLegacy (80 + 2 * c) addr data (endSilence 0 c i w) := by
  have harrive : mvbArrive c lines (b2n goodA + 2 * b2n goodB) t = (w, true) := Prod.ext hw.symm hgood
  subst hwake
  simp only [slaveFrame, hon, hlength, harrive, hentry, hfcode, decide_true, Bool.or_true, Bool.not_true, Bool.false_eq_true,
    if_true, if_false] <;> rfl

/-- A slave frame of another length than its F-code's only counts its errors. -/
theorem slaveFrame_wrongLength {data : List Byte} {goodA goodB : Bool} (hfcode : fcode ≤ 4)
    (hlength : data.length ≠ fcodeBytes fcode) :
    slaveFrame c lines fcode addr data goodA goodB s = (mvbArrive c lines 0 t).1 := by
  have harrive : mvbArrive c lines 0 t = ((mvbArrive c lines 0 t).1, false) := Prod.ext rfl (mvbArrive_none t)
  subst hwake
  have hbad : (decide (fcode > 4) || decide (data.length = fcodeBytes fcode)) = false := by simp [hfcode, hlength]
  simp only [slaveFrame, hon, hbad, Bool.not_true, Bool.false_eq_true, if_false]
  rw [harrive]

end

/-- An inauguration of a bus at whose end the node stands, with nodes on its far side alone. -/
theorem inaugComplete_atEnd {w : WtbInaug} {s : State} (hstate : s.rd LEG_WTB_STATE.f = 1)
    (hdirection : s.on LEG_WTB_FOREIGN_DIR.f = false) (hbefore : s.leg.foreignBefore = 0) (hnone : w.dir1 = [])
    (hlines : w.lines = 0) : inaugComplete w s =
      (let s2 := ((((((fillForeign 1 [] (clearForeign s)).wr LEG_WTB_STATE.f 2).wrB LEG_WTB_MASTER.f w.master).wrB
         LEG_WTB_END_NODE.f w.endNode).wr LEG_WTB_ADDR.f w.addr).wr LEG_WTB_FOREIGN.f 0).wr LEG_WTB_NODES.f
           (1 + 0 + w.dir2.length) |>.wr LEG_WTB_OTHERSIDE.f w.dir2.length
       { s2.inc LEG_WTB_INAUGS.f with
         leg := { s2.leg with foreignBefore := 0, silent := s2.leg.silent.filter (fun x => x.1 != 1) } }) := by
  have hkept : wtbLines 0 s = s := by simp [wtbLines, bit]
  simp [inaugComplete, hlines, hkept, hstate, hdirection, hbefore, hnone]

/-- Process data of an entry, good on a line. -/
theorem processData_good {addr k lines : Nat} {data : List Byte} {s t : State} (hlines : lines % 16 ≠ 0)
    (hlength : data.length ≤ 128) (hwake : t = wtbLines lines (wakeLegacy [88, 89, 90, 91] s))
    (hstate : t.rd LEG_WTB_STATE.f = 2)
    (hentry : (List.range 64).find?
      (fun k => 1 ≤ k && t.on (LEG_WTB_FNk_VALID.f k) && t.rd (LEG_WTB_FNk_ADDR.f k) == addr) = some k) :
    processData addr data lines s = deliverLegacy 88 k data (endSilence 1 0 k t) := by
  have hgood : (lines % 16 != 0 && decide (data.length ≤ 128)) = true := by simp [hlines, hlength]
  subst hwake
  simp only [processData, hgood, State.when, if_true, hstate, bne_self_eq_false, Bool.not_true, Bool.false_eq_true, if_false,
    hentry]

/-- Process data good on no line is counted. -/
theorem processData_bad {addr : Nat} {data : List Byte} {s t : State} (hwake : t = wakeLegacy [88, 89, 90, 91] s)
    (hstate : t.rd LEG_WTB_STATE.f = 2) : processData addr data 0 s = t.inc LEG_WTB_ERR.f := by
  subst hwake
  simp [processData, State.when, hstate]

/-- Settles O40. -/
theorem legacyBusesReceiveAndTimeOut : Obligations.LegacyBusesReceiveAndTimeOut := by
  refine ⟨?_, ?_, ?_, ?_, ?_, ?_, ?_, ?_, ?_, ?_, ?_, ?_, ?_, ?_⟩
  · intro c s hrun hon hmaster
    exact gives_running hrun rfl ((if_neg (by simp [hon])).trans (if_neg (Bool.eq_false_iff.mp hmaster)))
  · intro c fcode addr lines s t hrun hwake hon hbad
    exact gives_running hrun rfl (masterFrame_bad hwake hon hbad)
  · intro c fcode addr lines s t w hrun hwake hon hw hgood hdata hmastership hstatus
    exact gives_running hrun rfl (masterFrame_ignored hwake hon hw hgood hdata hmastership hstatus)
  · intro c fcode addr lines s t w hrun hwake hon hw hgood
    exact ⟨fun x hfcode hanswer => gives_running hrun rfl (masterFrame_answered hwake hon hw hgood hfcode hanswer),
      fun hfcode hanswer => gives_running hrun rfl (masterFrame_unanswered hwake hon hw hgood hfcode hanswer),
      fun haddr hgate => gives_running hrun rfl (masterFrame_status hwake hon hw hgood haddr hgate)⟩
  · intro c i lines fcode addr data goodA goodB s t w hrun hwake hon hlength hw hgood hentry hfcode
    exact gives_running hrun rfl (slaveFrame_good hwake hon hlength hw hgood hentry hfcode)
  · intro c s hrun hc hpolls hmaster
    exact gives_running hrun rfl ((if_pos (by simp [hc, hpolls, -List.getD_eq_getElem?_getD])).trans (by simp [hmaster]))
  · intro c s hrun hon hadmin hmaster hgate
    exact gives_running hrun rfl (if_pos (by simp [hon, hadmin, hmaster, hgate]))
  · intro s t hrun hwake hon hstate
    refine gives_running hrun rfl ?_
    simp only [inaugStart, ← hwake, hon, hstate, Bool.not_true, Bool.false_eq_true, if_true, if_false]
  · intro w s hrun hstate hdirection hbefore hnone hlines
    exact gives_running hrun rfl (inaugComplete_atEnd (s := s.fresh) hstate hdirection hbefore hnone hlines)
  · intro addr k lines data s t hrun hlines hlength hwake hstate hentry
    exact gives_running hrun rfl (processData_good hlines hlength hwake hstate hentry)
  · intro s hrun hstate hnone
    refine gives_running hrun rfl ?_
    simp [ownFrame, hstate, hnone]
  · intro port s hrun hmin hmax hline
    refine gives_running hrun rfl ((if_pos ⟨by omega, hmax, hline⟩).trans (if_neg (by omega)))
  · intro addr data s t hrun hwake hstate
    exact gives_running hrun rfl (processData_bad hwake hstate)
  · intro c lines fcode addr data goodA goodB s t hrun hwake hon hfcode hlength
    exact gives_running hrun rfl (slaveFrame_wrongLength hwake hon hfcode hlength)

end Sys2Proof.Proofs
end

section
/-!
CAN and serial ports (Chapter 11).
-/
namespace Sys2Proof.Proofs
open Sys2Proof Sys2Proof.Machine

section
variable {k id ide : Nat} {data : List Byte} {s t : State} (hk : k < 12) (hwake : t = wakeLegacy [92 + k] s)
  (hon : t.canOn k = true)
include hk hwake hon

/-- An FD frame where FD is off is an error frame. -/
theorem canFrame_fdOff {rtr : Nat} (hlength : data.length ≤ 64) (hoff : t.on (LEG_CANk_FD_EN.f k) = false) :
    canFrame k id ide 1 rtr data s = t.inc (LEG_CANk_ERRFRAMES.f k) := by
  subst hwake
  simp [canFrame, hk, hon, Nat.not_lt.mpr hlength, hoff]

/-- A remote frame is counted. -/
theorem canFrame_remote (hlength : data.length ≤ 8) :
    canFrame k id ide 0 1 data s = (canRxGood k t).inc (LEG_CANk_REMOTE.f k) := by
  subst hwake
  simp [canFrame, hk, hon, Nat.not_lt.mpr hlength]

/-- A data frame of an entry's length is delivered as its message. -/
theorem canFrame_matched {i : Nat} (hlength : data.length ≤ 8) (hmatch : (canRxGood k t).canMatch k id ide 0 = some i)
    (hentry : (canRxGood k t).rd (CM_LEN.f k i) = data.length) : canFrame k id ide 0 0 data s =
      deliverLegacy (92 + k) ((canRxGood k t).canNum k i) data (endSilence 2 k i (canRxGood k t)) := by
  subst hwake
  simp [canFrame, hk, hon, Nat.not_lt.mpr hlength, hmatch, hentry]

/-- A data frame without an entry is counted. -/
theorem canFrame_unmatched (hlength : data.length ≤ 8) (hmatch : (canRxGood k t).canMatch k id ide 0 = none) :
    canFrame k id ide 0 0 data s = (canRxGood k t).inc (LEG_CANk_NOMATCH.f k) := by
  subst hwake
  simp [canFrame, hk, hon, Nat.not_lt.mpr hlength, hmatch]

/-- An error frame that leaves the transmit count in its range moves the counts and the error state. -/
theorem canError_counts {tec rec : Nat} (htec : tec ≤ 255) : canError k tec rec s =
    setCanErrors k tec (Nat.min rec 255) (canEstate tec rec) (t.inc (LEG_CANk_ERRFRAMES.f k)) := by
  subst hwake
  simp only [canError, hk, hon, Nat.not_lt.mpr htec, Bool.not_true, Bool.false_eq_true, if_true, if_false]

end

/-- Measuring the transmitter delay leaves the transmit error count. -/
theorem rd_tec_measureDelay (k i : Nat) (s : State) :
    (measureDelay k i s).rd (LEG_CANk_TEC.f k) = s.rd (LEG_CANk_TEC.f k) := by
  have hkey : (LEG_CANk_TEC.f k).key ≠ (LEG_CANk_TDC_MEAS.f k).key := by
    simp [LEG_CANk_TEC, LEG_CANk_TDC_MEAS, Row.f, Fld.key]
  unfold measureDelay
  split
  · exact State.rd_wr_other _ _ hkey
  · rfl

/-- The frame at the front is sent, and no transmit error count is left to lower. -/
theorem canTransmit_front {k i : Nat} {x : TxImage} {s : State} (hon : s.canOn k = true)
    (hlisten : s.on (LEG_CANk_LISTEN.f k) = false) (hgate : s.gateOpen (s.canGated k) = true) (hnext : s.canNext k = some (i, x))
    (htec : s.rd (LEG_CANk_TEC.f k) = 0) : canTransmit k s =
      (measureDelay k i (s.setTxImage { x with unsent := false })).emit
        (.can k (s.rd (CM_ID.f k i)) (s.rd (CM_IDE.f k i)) (s.rd (CM_FDF.f k i)) (s.rd (CM_BRS.f k i)) x.bytes) := by
  have hzero (o : Output) : ((measureDelay k i (s.setTxImage { x with unsent := false })).emit o).rd (LEG_CANk_TEC.f k) = 0 :=
    (rd_tec_measureDelay k i _).trans htec
  simp only [canTransmit, hon, hlisten, hgate, hnext, hzero, Bool.not_true, Bool.or_self, Bool.false_eq_true, if_true, if_false]

section
variable {x : Nat} {data : List Byte} {s t : State} (hx : x < 12) (hwake : t = wakeLegacy [104 + x] s)
  (hon : t.on (LEG_SERs_CFG_EN.f x) = true) (hlength : data.length ≤ 256)
include hx hwake hon hlength

/-- A serial frame with a bad character is counted. -/
theorem serialClose_error : serialClose x data true false s = t.inc (LEG_SERs_FRAME_ERR.f x) := by
  subst hwake
  simp [serialClose, hx, hon, Nat.not_le.mpr hx, Nat.not_lt.mpr hlength]

/-- A serial frame without a CRC that no entry matches is counted. -/
theorem serialClose_unmatched (hcrc : t.on (LEG_SERs_CRC.f x) = false)
    (hnone : (List.range 64).find? (fun i => t.serMatch x i data) = none) :
    serialClose x data false false s = t.inc (LEG_SERs_NOMATCH.f x) := by
  subst hwake
  simp only [serialClose, hx, hon, Nat.not_le.mpr hx, Nat.not_lt.mpr hlength, hcrc, hnone, decide_false,
    Bool.not_true, Bool.or_self, Bool.false_and, Bool.false_eq_true, if_true, if_false, List.take_length]

/-- A serial frame without a CRC that an entry matches is delivered and ends the wait for an answer. -/
theorem serialClose_matched {i : Nat} (hcrc : t.on (LEG_SERs_CRC.f x) = false)
    (hmatch : (List.range 64).find? (fun i => t.serMatch x i data) = some i)
    (htime : t.leg.late.any (fun p => p.1 == x) = false) : serialClose x data false false s =
      deliverLegacy (104 + x) i data (endSilence 3 x i (t.wr (LEG_SERs_WAITING.f x) 0)) := by
  have hlate : t.leg.late.any (fun p => p.1 == x && t.clk.up ≤ p.2 + 1000 * t.rd (LEG_SERs_RESP_US.f x)) = false := by
    simp only [List.any_eq_false] at htime ⊢
    exact fun p hp h => htime p hp (Bool.and_eq_true_iff.mp h).1
  subst hwake
  simp only [serialClose, hx, hon, Nat.not_le.mpr hx, Nat.not_lt.mpr hlength, hcrc, hmatch, hlate,
    decide_false, Bool.not_true, Bool.or_self, Bool.false_and, Bool.false_eq_true, if_true, if_false, List.take_length]

end

/-- A serial port that awaits no answer sends its front frame whole. -/
theorem serialSend_front {x : Nat} {f : SerFrame} {rest : List SerFrame} {s : State} (hx : x < 12)
    (hon : s.on (LEG_SERs_CFG_EN.f x) = true) (hwaiting : s.on (LEG_SERs_WAITING.f x) = false)
    (hgate : s.gateOpen (s.serGated x) = true) (hqueue : s.serQueue (104 + x) = f :: rest)
    (hcrc : s.on (LEG_SERs_CRC.f x) = false) (hmode : s.on (LEG_SERs_MODE.f x) = false) : serialSend x s =
      State.emit { s with leg := { s.leg with serial := s.leg.serial.erase f } } (.serial x f.bytes) := by
  have hnocrc (l : LegUnit) : State.on { s with leg := l } (LEG_SERs_CRC.f x) = false := hcrc
  have hnoanswer (l : LegUnit) (o : Output) : State.on (State.emit { s with leg := l } o) (LEG_SERs_MODE.f x) = false := hmode
  simp [serialSend, Nat.not_le.mpr hx, hon, hwaiting, hgate, hqueue, hnocrc, hnoanswer]

/-- Settles O41. -/
theorem canAndSerialPortsFollowTheirTables : Obligations.CanAndSerialPortsFollowTheirTables := by
  refine ⟨?_, ?_, ?_, ?_, ?_, ?_, ?_, ?_, ?_, ?_, ?_, ?_, ?_, ?_, ?_⟩
  · intro k id ide rtr data s t hrun hk hwake hon hlength hoff
    exact gives_running hrun rfl (canFrame_fdOff hk hwake hon hlength hoff)
  · intro k id ide data s t hrun hk hwake hon hlength
    exact gives_running hrun rfl (canFrame_remote hk hwake hon hlength)
  · intro k id ide i data s t hrun hk hwake hon hlength hmatch hentry
    exact gives_running hrun rfl (canFrame_matched hk hwake hon hlength hmatch hentry)
  · intro k id ide data s t hrun hk hwake hon hlength hmatch
    exact gives_running hrun rfl (canFrame_unmatched hk hwake hon hlength hmatch)
  · intro k i x s hrun hon hlisten hgate hnext htec
    exact gives_running hrun rfl (canTransmit_front (s := s.fresh) (by simpa using hon) hlisten hgate (by simpa using hnext) htec)
  · intro k e x s hrun hk he hvalid htx himage hunsent
    refine gives_running hrun rfl ((if_pos (by simp [hk, he, hvalid, htx])).trans ?_)
    simp [himage, hunsent]
  · intro k s hrun hon
    exact gives_running hrun rfl (if_neg (by simp [hon]))
  · intro k s hrun hk hon hoff hauto
    exact gives_running hrun rfl (if_pos (by simp [hk, hon, hoff, hauto]))
  · intro k tec rec s t hrun hk hwake hon htec
    exact gives_running hrun rfl (canError_counts hk hwake hon htec)
  · intro x data s t hrun hx hwake hon hlength
    exact gives_running hrun rfl (serialClose_error hx hwake hon hlength)
  · intro x data s t hrun hx hwake hon hlength hcrc hnone
    exact gives_running hrun rfl (serialClose_unmatched hx hwake hon hlength hcrc hnone)
  · intro x i data s t hrun hx hwake hon hlength hcrc hmatch htime
    exact gives_running hrun rfl (serialClose_matched hx hwake hon hlength hcrc hmatch htime)
  · intro x f rest s hrun hx hon hwaiting hgate hqueue hcrc hmode
    exact gives_running hrun rfl (serialSend_front (s := s.fresh) hx hon hwaiting hgate hqueue hcrc hmode)
  · intro x s hrun hx hwaiting
    exact gives_running hrun rfl (if_pos (by simp [hx, hwaiting]))
  · intro bus unit entry port m tmo s hrun hentry htalking
    refine gives_running hrun rfl ?_
    simp only [receiveTimeout, State.fresh_timedEntry, State.fresh_leg, hentry, htalking, Bool.false_eq_true, if_false]

end Sys2Proof.Proofs
end

section
/-!
The bridge's timers (Chapter 12).
-/
namespace Sys2Proof.Proofs
open Sys2Proof Sys2Proof.Machine

/-- A gap before the first number that waits, with no request of an old epoch waiting, is skipped over. -/
theorem orderGap_skips {uid n : Nat} {w : BrWait} {s : State}
    (hcurrent : s.rab.waits.find? (fun w => w.originUid == uid && w.epoch != s.rd HST_EPOCH.f) = none)
    (hfirst : s.firstWaiting uid (s.rd HST_EPOCH.f) = some (w, n)) (hgap : n ≠ 0) :
    orderGap uid s = drainRequests ((setOrder uid w.epoch w.oseq s).incBy RAB_GAP_SKIPS.f n) := by
  simp only [orderGap, hcurrent, Option.map_none, Option.getD_none, hfirst, hgap, if_false]

/-- Settles O42. -/
theorem bridgeTimersEndWhatWaits : Obligations.BridgeTimersEndWhatWaits := by
  refine ⟨fun origin xid s hrun => gives_running hrun rfl rfl, ?_, ?_, ?_⟩
  · intro uid n w s hrun hcurrent hfirst hgap
    exact gives_running hrun rfl (orderGap_skips (s := s.fresh) hcurrent (by simpa using hfirst) hgap)
  · intro port tag r s hrun hopen
    refine gives_running hrun rfl ?_
    simp only [transactionTimeout, State.fresh_rab, hopen]
  · intro i s hrun hi hheld
    exact gives_running hrun rfl (if_pos (by simp [hi, hheld]))

end Sys2Proof.Proofs
end
